-- ==== Sys2Proof/Word.lean ====
section
/-! DEFINITION. The byte of every link, record and store (spec/11_frame_and_record_layouts.md), and the numbers of ports,
shows, sectors and channels. -/

namespace Sys2Proof

/-- One byte of a frame or of a stored record. -/
abbrev Byte := BitVec 8

/-- A sequence of bytes, the first one sent or stored first. -/
abbrev Bytes := List Byte

/-- A kiosk port, 0 to 15 (00_scope.md, Conventions). -/
abbrev PortNo := Fin 16

/-- A Show Directory index, 0 to 63 (R1). -/
abbrev ShowNo := Fin 64

/-- A template sector, 0 to 31 (R156). -/
abbrev SectorNo := Fin 32

/-- A print channel, 0 to 3 (R133). -/
abbrev ChannelNo := Fin 4

end Sys2Proof
end

