-- ==== Sys2Proof/Syntax.lean ====
section
/-! DEFINITION. The commands of the Zastrim 1640: one constructor per row of spec/opcode_table.json.

A kiosk frame is given by the port its run ended on, its Tag and its payload; a management command by its envelope's Tag and
the argument bytes after the Command Code (R205). A meaning reads the bytes by the layouts of chapter 11. -/

namespace Sys2Proof

/-- One command to the part: a row of spec/opcode_table.json. -/
inductive Instr where
  -- kiosk requests and frames (chapters 2 to 7, 9)
  | seatQuery (port : PortNo) (tag : Byte) (payload : Bytes)
  | hold (port : PortNo) (tag : Byte) (payload : Bytes)
  | release (port : PortNo) (tag : Byte) (payload : Bytes)
  | setType (port : PortNo) (tag : Byte) (payload : Bytes)
  | addCombo (port : PortNo) (tag : Byte) (payload : Bytes)
  | removeCombo (port : PortNo) (tag : Byte) (payload : Bytes)
  | applyCredit (port : PortNo) (tag : Byte) (payload : Bytes)
  | removeCredit (port : PortNo) (tag : Byte) (payload : Bytes)
  | undo (port : PortNo) (tag : Byte) (payload : Bytes)
  | cancel (port : PortNo) (tag : Byte) (payload : Bytes)
  | price (port : PortNo) (tag : Byte) (payload : Bytes)
  | pay (port : PortNo) (tag : Byte) (payload : Bytes)
  | redeem (port : PortNo) (tag : Byte) (payload : Bytes)
  | reprint (port : PortNo) (tag : Byte) (payload : Bytes)
  | printerStatus (port : PortNo) (tag : Byte) (payload : Bytes)
  | kioskPass (port : PortNo) (tag : Byte) (payload : Bytes)
  /-- A run that fails the checks of R175: its bytes, the first received first. -/
  | kioskRunFailed (port : PortNo) (run : Bytes)
  | kioskFrameStart (port : PortNo)
  | kioskFrameEnd (port : PortNo)
  -- the uplink (chapters 5, 9)
  | authResponse (payload : Bytes)
  | uplinkPass (port : Byte) (tag : Byte) (payload : Bytes)
  /-- An Ethernet frame: its type, whether its frame check sequence is correct, and its payload (R185). -/
  | uplinkEnvelopeDiscarded (etherType : BitVec 16) (checkOk : Bool) (data : Bytes)
  | uplinkFrameStart
  | uplinkFrameEnd
  | uplinkLinkDown
  | uplinkLinkUp
  -- management commands (chapters 1, 2, 4 to 10)
  /-- A management envelope whose payload is given whole, its Command Code included. -/
  | unknownCommand (tag : Byte) (payload : Bytes)
  | defineShow (tag : Byte) (args : Bytes)
  | loadSeats (tag : Byte) (args : Bytes)
  | openShow (tag : Byte) (args : Bytes)
  | closeShow (tag : Byte) (args : Bytes)
  | removeShow (tag : Byte) (args : Bytes)
  | setSeat (tag : Byte) (args : Bytes)
  | markSold (tag : Byte) (args : Bytes)
  | releaseBlock (tag : Byte) (args : Bytes)
  | readSeats (tag : Byte) (args : Bytes)
  | setLeaseTimes (tag : Byte) (args : Bytes)
  | readLeaseTimes (tag : Byte) (args : Bytes)
  | stageBand (tag : Byte) (args : Bytes)
  | stageTicketType (tag : Byte) (args : Bytes)
  | stageCombo (tag : Byte) (args : Bytes)
  | stageTax (tag : Byte) (args : Bytes)
  | stageCeiling (tag : Byte) (args : Bytes)
  | reloadStaged (tag : Byte) (args : Bytes)
  | readPrices (tag : Byte) (args : Bytes)
  | commitPrices (tag : Byte) (args : Bytes)
  | setAuthTimeout (tag : Byte) (args : Bytes)
  | readAuthTimeout (tag : Byte) (args : Bytes)
  | clearGatewayHold (tag : Byte) (args : Bytes)
  | reconcile (tag : Byte) (args : Bytes)
  | readAuthorisations (tag : Byte) (args : Bytes)
  | issueCredit (tag : Byte) (args : Bytes)
  | voidVoucher (tag : Byte) (args : Bytes)
  | readVoucher (tag : Byte) (args : Bytes)
  | readVoucherStatus (tag : Byte) (args : Bytes)
  | setPrintWaits (tag : Byte) (args : Bytes)
  | redirectJob (tag : Byte) (args : Bytes)
  | cancelJob (tag : Byte) (args : Bytes)
  | dropOwed (tag : Byte) (args : Bytes)
  | proofTemplate (tag : Byte) (args : Bytes)
  | readPrintStatus (tag : Byte) (args : Bytes)
  | writeEnable (tag : Byte) (args : Bytes)
  | writeDisable (tag : Byte) (args : Bytes)
  | eraseSector (tag : Byte) (args : Bytes)
  | eraseAll (tag : Byte) (args : Bytes)
  | programPage (tag : Byte) (args : Bytes)
  | setProtect (tag : Byte) (args : Bytes)
  | readStore (tag : Byte) (args : Bytes)
  | readStoreStatus (tag : Byte) (args : Bytes)
  | siteProgram (tag : Byte) (args : Bytes)
  | siteLock (tag : Byte) (args : Bytes)
  | readSiteRecord (tag : Byte) (args : Bytes)
  | configurePort (tag : Byte) (args : Bytes)
  | enablePort (tag : Byte) (args : Bytes)
  | disablePort (tag : Byte) (args : Bytes)
  | restorePort (tag : Byte) (args : Bytes)
  | clearErrorCode (tag : Byte) (args : Bytes)
  | readPort (tag : Byte) (args : Bytes)
  | openFoyer (tag : Byte) (args : Bytes)
  | closeFoyer (tag : Byte) (args : Bytes)
  | night (tag : Byte) (args : Bytes)
  | wake (tag : Byte) (args : Bytes)
  | restart (tag : Byte) (args : Bytes)
  | identify (tag : Byte) (args : Bytes)
  | readFoyerStatus (tag : Byte) (args : Bytes)
  | setClock (tag : Byte) (args : Bytes)
  | dayRoll (tag : Byte) (args : Bytes)
  | loadCounters (tag : Byte) (args : Bytes)
  | setNoticeEnables (tag : Byte) (args : Bytes)
  -- time, the store, resets and pins
  | tick
  | leaseExpiry
  | authTimeout
  | printerWaitExpiry (channel : ChannelNo)
  | paperWaitExpiry (channel : ChannelNo)
  | storeOperationCompletion
  | powerOn
  | resetInputAsserted
  | resetInputReleased
  | startUp
  | keyInputChange (active : Bool)
  | lineIdle (port : PortNo)
  deriving DecidableEq, Repr

end Sys2Proof
end

