-- ==== Sys2Proof/Machine/Commands.lean ====
section
/-! DEFINITION. The management commands and their Command Codes (R205; chapter 10, Management commands by chapter). -/

namespace Sys2Proof.Machine

/-- The management commands, in the order of the index of chapter 10. -/
inductive Command where
  | defineShow | loadSeats | openShow | closeShow | removeShow | setSeat | markSold | releaseBlock | readSeats
  | setLeaseTimes | readLeaseTimes
  | stageBand | stageTicketType | stageCombo | stageTax | stageCeiling | reloadStaged | readPrices | commitPrices
  | setAuthTimeout | readAuthTimeout | clearGatewayHold | reconcile | readAuthorisations
  | issueCredit | voidVoucher | readVoucher | readVoucherStatus
  | setPrintWaits | redirectJob | cancelJob | dropOwed | proofTemplate | readPrintStatus
  | writeEnable | writeDisable | eraseSector | eraseAll | programPage | setProtect | readStore | readStoreStatus
  | siteProgram | siteLock | readSiteRecord
  | configurePort | enablePort | disablePort | restorePort | clearErrorCode | readPort
  | openFoyer | closeFoyer | night | wake | restart | identify | readFoyerStatus | setClock | dayRoll | loadCounters
  | setNoticeEnables
  deriving DecidableEq, Repr

/-- The rows of the index of chapter 10: each chapter with its commands in order. -/
def Command.rows : List (Nat × List Command) :=
  [ (1, [.defineShow, .loadSeats, .openShow, .closeShow, .removeShow, .setSeat, .markSold, .releaseBlock, .readSeats]),
    (2, [.setLeaseTimes, .readLeaseTimes]),
    (4, [.stageBand, .stageTicketType, .stageCombo, .stageTax, .stageCeiling, .reloadStaged, .readPrices, .commitPrices]),
    (5, [.setAuthTimeout, .readAuthTimeout, .clearGatewayHold, .reconcile, .readAuthorisations]),
    (6, [.issueCredit, .voidVoucher, .readVoucher, .readVoucherStatus]),
    (7, [.setPrintWaits, .redirectJob, .cancelJob, .dropOwed, .proofTemplate, .readPrintStatus]),
    (8, [.writeEnable, .writeDisable, .eraseSector, .eraseAll, .programPage, .setProtect, .readStore, .readStoreStatus,
         .siteProgram, .siteLock, .readSiteRecord]),
    (9, [.configurePort, .enablePort, .disablePort, .restorePort, .clearErrorCode, .readPort]),
    (10, [.openFoyer, .closeFoyer, .night, .wake, .restart, .identify, .readFoyerStatus, .setClock, .dayRoll,
          .loadCounters, .setNoticeEnables]) ]

/-- The command that stands at place `k` of chapter `c`'s row, whose code is 16c + k (R205). -/
def Command.ofCode (b : Byte) : Option Command := do
  let row ← Command.rows.find? (fun r => r.1 = b.toNat / 16)
  row.2[b.toNat % 16]?

/-- A command's place in its chapter's row and that chapter give its code 16c + k (R205). -/
def Command.code (c : Command) : Byte :=
  match Command.rows.find? (fun r => r.2.contains c) with
  | some (chapter, row) => BitVec.ofNat 8 (16 * chapter + row.idxOf c)
  | none => 0

end Sys2Proof.Machine
end

