-- ==== Sys2Proof/Config.lean ====
section
/-! DEFINITION. What the manual leaves open: constants without a body, so that no proof can see their values. -/

namespace Sys2Proof

/-- The bytes "the part does not define" of a sector whose erase or program a reset cut off (R168): the byte at a store
address after the n-th such cut. Free value, assumption 11. -/
opaque Config.undefinedByte : Nat → Nat → Byte

/-- The byte a management reply echoes as "the Command Code as received" (R205) when the envelope's payload was empty and
no code was received. Free value, assumption 12. -/
opaque Config.absentCode : Nat → Byte

/-- The silicon revision that Identify reports, "a number 0–255" (R199). Fixed by each part, assumption 13. -/
opaque Config.siliconRevision : Byte

end Sys2Proof
end

