-- ==== Sys2Proof/Machine/Frames.lean ====
section
/-! DEFINITION. Frames on the kiosk links and envelopes on the uplink: the CRC-16 (R175), the class codes and layouts
(chapter 11.2, 11.3, 11.5), the framing checks (R175) and the sorting of uplink envelopes (R185). -/

namespace Sys2Proof.Machine

/-! ## Numbers as bytes (R204: most significant byte first) -/

/-- The low byte of a number. -/
def u8 (n : Nat) : Bytes := [BitVec.ofNat 8 n]

/-- A two-byte number, most significant byte first. -/
def u16 (n : Nat) : Bytes := [BitVec.ofNat 8 (n / 256), BitVec.ofNat 8 n]

/-- A three-byte number, most significant byte first. -/
def u24 (n : Nat) : Bytes := [BitVec.ofNat 8 (n / 65536), BitVec.ofNat 8 (n / 256), BitVec.ofNat 8 n]

/-- A four-byte number, most significant byte first. -/
def u32 (n : Nat) : Bytes :=
  [BitVec.ofNat 8 (n / 16777216), BitVec.ofNat 8 (n / 65536), BitVec.ofNat 8 (n / 256), BitVec.ofNat 8 n]

/-- A flag: 0 clear, 1 set (R204). -/
def flag (b : Bool) : Bytes := [if b then 1 else 0]

/-- A text: a count byte, then the characters (R204). -/
def text (t : Bytes) : Bytes := u8 t.length ++ t

/-- The number that bytes hold, most significant first. -/
def beNat (b : Bytes) : Nat := b.foldl (fun n x => n * 256 + x.toNat) 0

/-! ## The CRC-16 -/

/-- One bit of the CRC-16 of R175: polynomial 0x1021, most significant bit first. -/
def crcShift (c : BitVec 16) : BitVec 16 := if c.msb then (c <<< 1) ^^^ 0x1021#16 else c <<< 1

/-- One byte of the CRC-16: eight shifts after the byte enters at the top. -/
def crcByte (c : BitVec 16) (b : Byte) : BitVec 16 :=
  let x := c ^^^ (b.zeroExtend 16 <<< 8)
  crcShift (crcShift (crcShift (crcShift (crcShift (crcShift (crcShift (crcShift x)))))))

/-- The CRC-16 of R175: initial value 0xFFFF, no reflection, no final exclusive-or. -/
def crc16 (bs : Bytes) : BitVec 16 := bs.foldl crcByte 0xFFFF#16

/-- The two bytes of a Check, most significant first (R175). -/
def checkBytes (bs : Bytes) : Bytes := u16 (crc16 bs).toNat

/-! ## Kiosk frames (chapter 11.2) -/

/-- The class codes of chapter 11.5 that a kiosk may send: its requests, PRINTER_STATUS and PASS. -/
inductive KioskClass where
  | seatQuery | hold | release | setType | addCombo | removeCombo | applyCredit | removeCredit
  | undo | cancel | price | pay | redeem | reprint | printerStatus | pass
  deriving DecidableEq, Repr

/-- The code of a kiosk class (chapter 11.5, Classes). -/
def KioskClass.code : KioskClass → Byte
  | .seatQuery => 0x10 | .hold => 0x11 | .release => 0x12 | .setType => 0x13
  | .addCombo => 0x14 | .removeCombo => 0x15 | .applyCredit => 0x16 | .removeCredit => 0x17
  | .undo => 0x18 | .cancel => 0x19 | .price => 0x1A | .pay => 0x1B
  | .redeem => 0x1C | .reprint => 0x1D | .printerStatus => 0x20 | .pass => 0x30

/-- Every class taken on a kiosk link, check 6 of R175. -/
def KioskClass.all : List KioskClass :=
  [.seatQuery, .hold, .release, .setType, .addCombo, .removeCombo, .applyCredit, .removeCredit,
   .undo, .cancel, .price, .pay, .redeem, .reprint, .printerStatus, .pass]

/-- The kiosk class with this code, if the part takes it on a kiosk link. -/
def KioskClass.ofCode (b : Byte) : Option KioskClass := KioskClass.all.find? (fun c => c.code = b)

/-- A reply takes its request's code plus 0x40 (chapter 11.5). -/
def KioskClass.replyCode (c : KioskClass) : Byte := c.code + 0x40

/-- Class code of PRINT_DATA (chapter 11.5). -/
def printDataClass : Byte := 0x21

/-- Class code of PASS on both links (chapter 11.5). -/
def passClass : Byte := 0x30

/-- Class codes of the uplink (chapter 11.5). -/
def mgmtClass : Byte := 0x70
/-- AUTH_REQUEST. -/
def authRequestClass : Byte := 0x71
/-- AUTH_RESPONSE. -/
def authResponseClass : Byte := 0x72
/-- NOTICE. -/
def noticeClass : Byte := 0x73

/-- A frame down or up a kiosk link, less Lead, Length and Check, which its bytes determine. -/
structure KioskFrame where
  cls : Byte
  tag : Byte
  payload : Bytes
  deriving DecidableEq, Repr

/-- The bytes of a kiosk frame on the line: Lead 0xD5, Class, Tag, Length, Payload, Check (chapter 11.2). -/
def KioskFrame.wire (f : KioskFrame) : Bytes :=
  let body := f.cls :: f.tag :: (u8 f.payload.length ++ f.payload)
  (0xD5 : Byte) :: (body ++ checkBytes body)

/-- A framing error, and the Last Error Code of a port (R175, R176). -/
inductive FramingError where
  | none | delimit | length | check | cls
  deriving DecidableEq, Repr

/-- Codes of chapter 11.5, Framing error. -/
def FramingError.code : FramingError → Nat
  | .none => 0 | .delimit => 1 | .length => 2 | .check => 3 | .cls => 4

/-- The outcome of the checks of R175 on one run: the first failing check's error, or the good frame. -/
def checkRun (run : Bytes) : FramingError ⊕ (KioskClass × Byte × Bytes) :=
  match run with
  | lead :: cls :: tag :: len :: rest =>
    if lead ≠ 0xD5 then .inl .delimit
    else if len.toNat > 240 then .inl .length
    else if rest.length ≠ len.toNat + 2 then .inl .length
    else
      let payload := rest.take len.toNat
      if rest.drop len.toNat ≠ checkBytes (cls :: tag :: len :: payload) then .inl .check
      else match KioskClass.ofCode cls with
        | some c => .inr (c, tag, payload)
        | Option.none => .inl .cls
  | _ => .inl .delimit

/-! ## Uplink envelopes (chapter 11.3) -/

/-- An envelope, less its Length, which the payload determines. -/
structure Envelope where
  port : Byte
  cls : Byte
  tag : Byte
  payload : Bytes
  deriving DecidableEq, Repr

/-- The bytes of an envelope: Port, Class, Tag, Length, Payload (chapter 11.3). -/
def Envelope.wire (e : Envelope) : Bytes := e.port :: e.cls :: e.tag :: (u16 e.payload.length ++ e.payload)

/-- The part's own Ethernet type (chapter 11.3). -/
def ownEtherType : BitVec 16 := 0x89C2

/-- The Ethernet address of all stations (R186), 48 ones (PRESUMED, assumption 44). -/
def allStations : BitVec 48 := 0xFFFFFFFFFFFF

/-- An Ethernet frame that the part sends: its address, its Ethernet type and the envelope it carries (R186; assumption 44). -/
structure EthernetFrame where
  destination : BitVec 48
  etherType : BitVec 16
  envelope : Envelope
  deriving DecidableEq, Repr

/-- The part's own frame for an envelope: addressed to all stations, with the part's Ethernet type (R186). -/
def ownFrame (e : Envelope) : EthernetFrame := { destination := allStations, etherType := ownEtherType, envelope := e }

/-- Where the table of R185 sends an envelope. -/
inductive UplinkItem where
  | mgmt (tag : Byte) (payload : Bytes)
  | authResponse (payload : Bytes)
  | pass (port : Byte) (tag : Byte) (payload : Bytes)
  deriving DecidableEq, Repr

/-- R185: the frames the Uplink Unit takes, and the table by Class and Port. `none` is discarded. -/
def sortEnvelope (etherType : BitVec 16) (checkOk : Bool) (data : Bytes) : Option UplinkItem :=
  match data with
  | port :: cls :: tag :: l1 :: l2 :: rest =>
    let len := l1.toNat * 256 + l2.toNat
    if etherType ≠ ownEtherType then none
    else if checkOk = false then none
    else if rest.length < len then none
    else if cls = mgmtClass ∧ port = 255 then some (.mgmt tag (rest.take len))
    else if cls = authResponseClass ∧ port = 255 then some (.authResponse (rest.take len))
    else if cls = passClass ∧ port.toNat < 16 then some (.pass port tag (rest.take len))
    else none
  | _ => none

end Sys2Proof.Machine
end

