-- ==== Sys2Proof/Machine/State.lean ====
section
/-! DEFINITION. The state of the Zastrim 1640, block by block as 00_scope.md lays the blocks out, and the state right after
reset. Plain data throughout. -/

namespace Sys2Proof.Machine

/-! ## Seat Table (chapters 1 and 2) -/

/-- A show handle: a directory index and a generation byte as carried (R3, R204). -/
structure Handle where
  index : ShowNo
  generation : Nat
  deriving DecidableEq, Repr

/-- The states of a Show Directory entry (R2). -/
inductive ShowState where
  | empty | loading | onSale | closed
  deriving DecidableEq, Repr

/-- The states of a seat record with the fields each carries (R6, R7). -/
inductive SeatState where
  | free
  | house
  | held (owner : PortNo) (lease : Nat) (houseOrigin : Bool)
  | pending (tag : Nat) (houseOrigin : Bool)
  | sold (saleNumber : Nat) (ticketType : Fin 8)
  deriving DecidableEq, Repr

/-- A seat record: its fixed part (R5) and its state (R6). -/
structure Seat where
  zone : Fin 4
  rowLabel : Bytes
  number : Nat
  state : SeatState
  deriving DecidableEq, Repr

/-- The record Define Show writes at every address of a show's range (R13), and what an unlisted pool address reads as
(assumption 10). -/
def Seat.blank : Seat := { zone := 0, rowLabel := [], number := 0, state := .house }

/-- The five live counts of a show (R9). -/
structure SeatCounts where
  free : Nat
  held : Nat
  pending : Nat
  sold : Nat
  house : Nat
  deriving DecidableEq, Repr

/-- One Show Directory entry (R1). -/
structure Show where
  state : ShowState
  generation : Nat
  seatBase : Nat
  seatCount : Nat
  priceBand : Fin 8
  surcharge : Nat
  ticketTemplate : SectorNo
  startDay : Nat
  startTime : Nat
  graceDays : Nat
  title : Bytes
  counts : SeatCounts
  deriving DecidableEq, Repr

/-- The Seat Table: Show Directory, Seat Pool by pool address (R1, R5), and the lease settings (R32). -/
structure SeatTable where
  shows : Vector Show 64
  pool : List (Nat × Seat)
  leaseTime : Nat
  declineGrace : Nat
  deriving DecidableEq, Repr

/-! ## Basket Unit (chapter 3) and the Priced Snapshot (R80) -/

/-- A seat line: a seat index and a ticket type (R42). -/
structure SeatLine where
  seat : Nat
  ticketType : Fin 8
  deriving DecidableEq, Repr

/-- An undo entry of one of the seven kinds (R53). -/
inductive UndoEntry where
  | hold (handle : Handle) (seats : List Nat)
  | release (handle : Handle) (lines : List SeatLine)
  | setType (seat : Nat) (previous : Fin 8)
  | addCombo (position : Nat)
  | removeCombo (code : Fin 32) (position : Nat)
  | applyCredit (serial : Nat)
  | removeCredit (serial : Nat)
  deriving DecidableEq, Repr

/-- The states of a basket (R43). -/
inductive BasketState where
  | empty | building | priced | authorising
  deriving DecidableEq, Repr

/-- A seat line with its priced amount (R80 Seat Amounts, R91 Seat Lines). -/
structure PricedLine where
  seat : Nat
  ticketType : Fin 8
  amount : Nat
  deriving DecidableEq, Repr

/-- A combo line with its priced amount (R80 Combo Amounts). -/
structure PricedCombo where
  code : Fin 32
  discounted : Bool
  amount : Nat
  deriving DecidableEq, Repr

/-- The Priced Snapshot (R80). -/
structure Snapshot where
  generation : Nat
  seats : List PricedLine
  combos : List PricedCombo
  ticketPortion : Nat
  snackPortion : Nat
  gross : Nat
  creditValue : Nat
  creditsApplied : Nat
  creditUnused : Nat
  ticketDue : Nat
  snackDue : Nat
  net : Nat
  ticketTax : Nat
  snackTax : Nat
  overLimit : Bool
  deriving DecidableEq, Repr

/-- One basket (R42). The Undo Stack's top is the head of `undo`. -/
structure Basket where
  state : BasketState
  handle : Handle
  seatLines : List SeatLine
  combos : List (Fin 32)
  claims : List Nat
  undo : List UndoEntry
  lapsed : Bool
  snapshot : Option Snapshot
  deriving DecidableEq, Repr

/-- A basket at reset (R44). -/
def Basket.reset : Basket :=
  { state := .empty, handle := { index := 0, generation := 0 }, seatLines := [], combos := [], claims := [],
    undo := [], lapsed := false, snapshot := none }

/-! ## Price Unit (chapter 4) -/

/-- A Ticket Type Table entry (R67). -/
structure TicketType where
  factor : Nat
  valid : Bool
  boxOfficeOnly : Bool
  name : Bytes
  deriving DecidableEq, Repr

/-- A Combo Table entry (R68). -/
structure Combo where
  price : Nat
  discount : Nat
  minSeats : Nat
  template : SectorNo
  name : Bytes
  valid : Bool
  deriving DecidableEq, Repr

/-- The price 65,535, which means NOT_SOLD (R66). -/
def notSold : Nat := 65535

/-- One copy of the five price tables (R65). -/
structure PriceTables where
  base : Vector (Vector Nat 4) 8
  types : Vector TicketType 8
  combos : Vector Combo 32
  ticketRate : Nat
  snackRate : Nat
  ceiling : Nat
  deriving DecidableEq, Repr

/-- Both copies after every reset (R70). -/
def PriceTables.reset : PriceTables :=
  { base := Vector.replicate 8 (Vector.replicate 4 notSold)
    types := Vector.replicate 8 { factor := 0, valid := false, boxOfficeOnly := false, name := [] }
    combos := Vector.replicate 32 { price := 0, discount := 0, minSeats := 0, template := 0, name := [], valid := false }
    ticketRate := 0
    snackRate := 0
    ceiling := 16777215 }

/-- The Price Unit (R65). -/
structure PriceUnit where
  live : PriceTables
  staged : PriceTables
  generation : Nat
  committed : Bool
  deriving DecidableEq, Repr

/-! ## Payment Relay (chapter 5) -/

/-- The state of an Authorisation List entry; Timeout Remaining is present while ACTIVE (R91). -/
inductive AuthState where
  | active (remaining : Nat)
  | lost
  deriving DecidableEq, Repr

/-- An Authorisation List entry (R91). -/
structure AuthEntry where
  tag : Nat
  state : AuthState
  origin : PortNo
  handle : Handle
  seatLines : List PricedLine
  combos : List (Fin 32)
  claims : List Nat
  net : Nat
  ticketTax : Nat
  snackTax : Nat
  reservation : Nat
  deriving DecidableEq, Repr

/-- The Payment Relay (R91, R92, R96, R101, R107). -/
structure PaymentRelay where
  entries : List AuthEntry
  gatewayHold : Bool
  tagCounter : Nat
  saleCounter : Nat
  saleLoaded : Bool
  authTimeout : Nat
  deriving DecidableEq, Repr

/-! ## Voucher Table (chapter 6) -/

/-- What a voucher is good for (R112). -/
inductive VoucherKind where
  | snack (combo : Fin 32)
  | credit (value : Nat)
  deriving DecidableEq, Repr

/-- The fields every voucher in use carries (R113). -/
structure Voucher where
  serial : Nat
  kind : VoucherKind
  issuingSale : Nat
  expiryDay : Nat
  deriving DecidableEq, Repr

/-- The holder of a claim (R112). -/
inductive ClaimOwner where
  | port (p : PortNo)
  | tag (t : Nat)
  deriving DecidableEq, Repr

/-- The states of a voucher slot with the fields of each (R113). -/
inductive Slot where
  | free
  | issued (v : Voucher)
  | claimed (v : Voucher) (owner : ClaimOwner)
  | redeemed (v : Voucher) (port : PortNo) (day : Nat) (time : Nat)
  | void (v : Voucher) (day : Nat)
  deriving DecidableEq, Repr

/-- The Voucher Table (R112, R114, R115, R117, R126): slots by slot number, the Serial Index by serial. -/
structure VoucherTable where
  slots : List (Nat × Slot)
  index : List (Nat × Option Nat)
  serialCounter : Nat
  serialLoaded : Bool
  reservation : Nat
  lowArmed : Bool
  deriving DecidableEq, Repr

/-! ## Print Engine (chapter 7) -/

/-- The field values copied into a document (R131), a ticket's Zone among them (R5), which no field renders (R137). -/
inductive DocFields where
  | ticket (title : Bytes) (startDay : Nat) (startTime : Nat) (zone : Fin 4) (rowLabel : Bytes) (seatNumber : Nat)
      (typeName : Bytes) (amount : Nat)
  | voucher (comboName : Bytes) (serial : Nat) (expiryDay : Nat)
  deriving DecidableEq, Repr

/-- A document (R131). -/
structure Document where
  template : SectorNo
  index : Nat
  sale : Nat
  fields : DocFields
  deriving DecidableEq, Repr

/-- What a job prints or proves (R130): Sale Number, ports and documents are absent for PROOF, which has one sector. -/
inductive JobWork where
  | print (isReprint : Bool) (sale : Nat) (origin : PortNo) (dest : PortNo) (docs : List Document)
  | proof (sector : SectorNo)
  deriving DecidableEq, Repr

/-- A print job (R130): RUNNING on the channel named, QUEUED when there is none. -/
structure Job where
  number : Nat
  work : JobWork
  next : Nat
  channel : Option ChannelNo
  deriving DecidableEq, Repr

/-- The states of a print channel, with its wait counter (section 7.2, R133). -/
inductive ChannelState where
  | idle
  | fetch
  | send
  | await (wait : Nat)
  | paused (wait : Nat)
  deriving DecidableEq, Repr

/-- The render buffer's contents: a document as rendered, and its Truncated mark (R138). -/
structure Rendered where
  data : Bytes
  truncated : Bool
  deriving DecidableEq, Repr

/-- A print channel (R133). -/
structure Channel where
  state : ChannelState
  job : Option Nat
  buffer : Option Rendered
  nextFrame : Nat
  deriving DecidableEq, Repr

/-- An IDLE channel with no job (R133). -/
def Channel.idle : Channel := { state := .idle, job := none, buffer := none, nextFrame := 0 }

/-- Why a document is owed (R146). -/
inductive OwedReason where
  | late | printFailed | queueFull | portLost | cancelled
  deriving DecidableEq, Repr

/-- An Owed Ticket List entry (R146). -/
structure OwedEntry where
  sale : Nat
  origin : PortNo
  reason : OwedReason
  docs : List Document
  deriving DecidableEq, Repr

/-- The Print Engine. -/
structure PrintEngine where
  jobs : List Job
  channels : Vector Channel 4
  owed : List OwedEntry
  jobCounter : Nat
  printerWait : Nat
  paperWait : Nat
  deriving DecidableEq, Repr

/-! ## Template Store and Site Record (chapter 8) -/

/-- What an unlisted byte of a sector reads as: the erased value 0xFF, or an undefined byte left by the `n`-th operation a
reset cut off (R156, R168; assumption 11). -/
inductive Fill where
  | erased
  | undefined (n : Nat)
  deriving DecidableEq, Repr

/-- The Operation Record of a BUSY store, with the data bytes a program has in hand (R158, R162). -/
inductive StoreOp where
  | eraseSector (sector : SectorNo)
  | eraseAll
  | programPage (sector : SectorNo) (page : Fin 16) (offset : Nat) (data : Bytes) (wasUnsettled : Bool)
  deriving DecidableEq, Repr

/-- The kind and sector a Write Aborted flag carries; no sector is ALL (R168). -/
structure Aborted where
  kind : Nat
  sector : Option SectorNo
  deriving DecidableEq, Repr

/-- The Template Store and the Site Record. -/
structure TemplateStore where
  cells : List Host.Cell
  fill : Vector Fill 32
  unsettled : Vector Bool 32
  operation : Option StoreOp
  protectSpan : Fin 8
  protectLock : Bool
  writeEnable : Bool
  writeAborted : Option Aborted
  siteRecord : List Host.Cell
  siteLock : Bool
  deriving DecidableEq, Repr

/-! ## Foyer Link Unit (chapter 9) -/

/-- Port states (R178). -/
inductive PortState where
  | disabled | active | quarantined
  deriving DecidableEq, Repr

/-- Port roles (R180). -/
inductive Role where
  | sales | counter | boxOffice
  deriving DecidableEq, Repr

/-- A pass-through frame in a downward buffer (R184). -/
structure PassFrame where
  tag : Byte
  payload : Bytes
  deriving DecidableEq, Repr

/-- A PRINT_DATA frame handed to a port's transmit arbiter (R139). `current` is clear once the channel has stopped waiting for
it: it is still sent, "since the arbiter does not break a frame" (R141; assumption 24). -/
structure PrintOffer where
  frame : KioskFrame
  last : Bool
  current : Bool
  deriving DecidableEq, Repr

/-- Where the frame being sent down a kiosk link came from; `detached` when its source has since been emptied. -/
inductive KioskSource where
  | reply | print | pass | detached
  deriving DecidableEq, Repr

/-- The frame being sent down a kiosk link (R182). -/
structure KioskSending where
  source : KioskSource
  frame : KioskFrame
  deriving DecidableEq, Repr

/-- A kiosk port (R176, R178, R180 to R184). `kept` holds the Tag of the PAY whose place is kept (R88, R181). -/
structure Port where
  state : PortState
  role : Role
  printLevel : Fin 4
  passAllowed : Bool
  errorCount : Nat
  lastError : FramingError
  awaitingIdle : Bool
  replies : List KioskFrame
  kept : Option Byte
  downPass : List PassFrame
  printOffer : Option PrintOffer
  sending : Option KioskSending
  deriving DecidableEq, Repr

/-- A port at reset (R189). -/
def Port.reset : Port :=
  { state := .disabled, role := .sales, printLevel := 0, passAllowed := false, errorCount := 0, lastError := .none,
    awaitingIdle := true, replies := [], kept := none, downPass := [], printOffer := none, sending := none }

/-! ## Uplink Unit (chapter 9) -/

/-- An AUTH_REQUEST not yet sent: its tag and its payload (R94). -/
structure AuthRequest where
  tag : Nat
  payload : Bytes
  deriving DecidableEq, Repr

/-- A management reply not yet sent (R200, R205). -/
structure MgmtReply where
  tag : Byte
  payload : Bytes
  deriving DecidableEq, Repr

/-- A PASS frame in its port's upward buffer (R183). -/
structure UpwardFrame where
  port : PortNo
  tag : Byte
  payload : Bytes
  deriving DecidableEq, Repr

/-- Where the uplink frame being sent came from; `detached` when its source no longer holds it. -/
inductive UplinkSource where
  | authRequest (tag : Nat)
  | reply
  | notice
  | pass
  | detached
  deriving DecidableEq, Repr

/-- The uplink frame being sent (R186). -/
structure UplinkSending where
  source : UplinkSource
  frame : EthernetFrame
  deriving DecidableEq, Repr

/-- The Uplink Unit. `upwardPass` holds the sixteen upward pass buffers in order of arrival (R183, R186). -/
structure UplinkUnit where
  linkUp : Bool
  authRequests : List AuthRequest
  replies : List MgmtReply
  upwardPass : List UpwardFrame
  sending : Option UplinkSending
  deriving DecidableEq, Repr

/-! ## Foyer Control (chapter 10) -/

/-- The Foyer States (R191). -/
inductive FoyerState where
  | unconfigured | closed | opened | night
  deriving DecidableEq, Repr

/-- Reset causes (R198). -/
inductive ResetCause where
  | power | line | command
  deriving DecidableEq, Repr

/-- The notice kinds other than START (section 10.6). -/
inductive NoticeKind where
  | sale | authLost | lateResult | strayResult | portWarn | portQuarantined | printFailed | owedAdded | storeDone
  | proofDone | voucherLow
  deriving DecidableEq, Repr

/-- A notice in the Notice Queue (section 10.6, R201). `code` is its kind's code in chapter 11.3. -/
structure Notice where
  code : Nat
  carriesLost : Bool
  day : Nat
  seconds : Nat
  content : Bytes
  deriving DecidableEq, Repr

/-- The notice enables (R202): global, then one for each kind but START. -/
structure NoticeEnables where
  all : Bool
  sale : Bool
  authLost : Bool
  lateResult : Bool
  strayResult : Bool
  portWarn : Bool
  portQuarantined : Bool
  printFailed : Bool
  owedAdded : Bool
  storeDone : Bool
  proofDone : Bool
  voucherLow : Bool
  deriving DecidableEq, Repr

/-- Every enable on (R198, R202). -/
def NoticeEnables.reset : NoticeEnables :=
  { all := true, sale := true, authLost := true, lateResult := true, strayResult := true, portWarn := true,
    portQuarantined := true, printFailed := true, owedAdded := true, storeDone := true, proofDone := true,
    voucherLow := true }

/-- Foyer Control, with the pins. `running` is false from a reset until its start-up (R190, R198). -/
structure FoyerControl where
  foyer : FoyerState
  day : Nat
  seconds : Nat
  clockSet : Bool
  tickRunning : Bool
  notices : List Notice
  noticesLost : Bool
  enables : NoticeEnables
  restartPending : Bool
  resetCause : ResetCause
  running : Bool
  resetLow : Bool
  keyActive : Bool
  deriving DecidableEq, Repr

/-! ## The part -/

/-- The whole state: the ten blocks, the model's count of free values drawn (assumption 12), and the queue of waiting
commands, first in, first out. -/
structure State where
  seats : SeatTable
  baskets : Vector Basket 16
  prices : PriceUnit
  relay : PaymentRelay
  vouchers : VoucherTable
  print : PrintEngine
  store : TemplateStore
  ports : Vector Port 16
  uplink : UplinkUnit
  control : FoyerControl
  freeCount : Nat
  pending : List Instr
  deriving DecidableEq, Repr

/-- No rule of the spec makes the part stop: it answers, drops or raises a notice. So no command faults, and this type is
empty. -/
inductive Fault where
  deriving DecidableEq, Repr

/-- Why a command has no meaning. -/
inductive Refusal where
  /-- Raised only by an arm of `exec` for a command without a meaning; no arm raises it. Safe: the run stops. -/
  | notModelled (mnemonic : String)
  deriving DecidableEq, Repr

/-- An EMPTY directory entry with Generation 0 (R4); its other fields have no meaning (R1; assumption 14). -/
def Show.reset : Show :=
  { state := .empty, generation := 0, seatBase := 0, seatCount := 0, priceBand := 0, surcharge := 0,
    ticketTemplate := 0, startDay := 0, startTime := 0, graceDays := 0, title := [],
    counts := { free := 0, held := 0, pending := 0, sold := 0, house := 0 } }

/-- The Seat Table after every reset (R4, R11, R32). -/
def SeatTable.reset : SeatTable :=
  { shows := Vector.replicate 64 Show.reset, pool := [], leaseTime := 240, declineGrace := 60 }

/-- The Price Unit after every reset (R70). -/
def PriceUnit.reset : PriceUnit :=
  { live := PriceTables.reset, staged := PriceTables.reset, generation := 0, committed := false }

/-- The Payment Relay after every reset (R109). -/
def PaymentRelay.reset : PaymentRelay :=
  { entries := [], gatewayHold := false, tagCounter := 1, saleCounter := 0, saleLoaded := false, authTimeout := 45 }

/-- The Voucher Table after every reset (R128). -/
def VoucherTable.reset : VoucherTable :=
  { slots := [], index := [], serialCounter := 0, serialLoaded := false, reservation := 0, lowArmed := true }

/-- The Print Engine after every reset (R154). -/
def PrintEngine.reset : PrintEngine :=
  { jobs := [], channels := Vector.replicate 4 Channel.idle, owed := [], jobCounter := 1, printerWait := 20,
    paperWait := 120 }

/-- The Template Store at the first power-on of a new part (R156). -/
def TemplateStore.firstPowerOn : TemplateStore :=
  { cells := [], fill := Vector.replicate 32 .erased, unsettled := Vector.replicate 32 false, operation := none,
    protectSpan := 0, protectLock := false, writeEnable := false, writeAborted := none, siteRecord := [],
    siteLock := false }

/-- The Uplink Unit after every reset (R187, R189). -/
def UplinkUnit.reset : UplinkUnit :=
  { linkUp := false, authRequests := [], replies := [], upwardPass := [], sending := none }

/-- Foyer Control after a reset of the given cause and before its start-up (R198); the pins keep their levels. -/
def FoyerControl.reset (cause : ResetCause) (resetLow keyActive : Bool) : FoyerControl :=
  { foyer := .unconfigured, day := 0, seconds := 0, clockSet := false, tickRunning := false, notices := [],
    noticesLost := false, enables := NoticeEnables.reset, restartPending := false, resetCause := cause,
    running := false, resetLow := resetLow, keyActive := keyActive }

/-- The machine right after the power-on reset of a new part, before its start-up (R156, R198; assumptions 6, 9, 12). -/
def State.reset : State :=
  { seats := SeatTable.reset
    baskets := Vector.replicate 16 Basket.reset
    prices := PriceUnit.reset
    relay := PaymentRelay.reset
    vouchers := VoucherTable.reset
    print := PrintEngine.reset
    store := TemplateStore.firstPowerOn
    ports := Vector.replicate 16 Port.reset
    uplink := UplinkUnit.reset
    control := FoyerControl.reset .power false false
    freeCount := 0
    pending := [] }

end Sys2Proof.Machine
end

