-- ==== Sys2Proof/Machine/Operands.lean ====
section
/-! DEFINITION. Reading the fields of a payload (R204): each reader takes its field from the front and answers the rest, or
nothing where the bytes run out. A payload is of its layout when the readers use it up exactly. -/

namespace Sys2Proof.Machine

/-- Read a number of `n` bytes, most significant first. -/
def readNat (n : Nat) (b : Bytes) : Option (Nat × Bytes) :=
  if b.length < n then none else some (beNat (b.take n), b.drop n)

/-- Read a raw byte field of `n` bytes. -/
def readRaw (n : Nat) (b : Bytes) : Option (Bytes × Bytes) :=
  if b.length < n then none else some (b.take n, b.drop n)

/-- Read a show handle; an index byte above 63 is no handle (R204). -/
def readHandle (b : Bytes) : Option (Handle × Bytes) :=
  match b with
  | i :: g :: rest => if h : i.toNat < 64 then some ({ index := ⟨i.toNat, h⟩, generation := g.toNat }, rest) else none
  | _ => none

/-- Read a flag: 0 or 1 (R204). -/
def readFlag (b : Bytes) : Option (Bool × Bytes) :=
  match b with
  | x :: rest => if x = 0 then some (false, rest) else if x = 1 then some (true, rest) else none
  | [] => none

/-- Read a text's characters: a count byte and that many bytes, whatever they are. -/
def readText (b : Bytes) : Option (Bytes × Bytes) :=
  match b with
  | n :: rest => readRaw n.toNat rest
  | [] => none

/-- Characters in the range 0x20–0x7E (R204). -/
def printable (t : Bytes) : Bool := t.all (fun c => decide (0x20 ≤ c.toNat ∧ c.toNat ≤ 0x7E))

/-- Read `n` two-byte numbers. -/
def readList16 : Nat → Bytes → Option (List Nat × Bytes)
  | 0, b => some ([], b)
  | n + 1, b => do
    let (x, b) ← readNat 2 b
    let (xs, b) ← readList16 n b
    some (x :: xs, b)

/-- The payload has been used up exactly. -/
def done {α : Type} (x : α) (rest : Bytes) : Option α := if rest = [] then some x else none

/-- A number below `n`, as an index. -/
def toFin (n : Nat) (k : Nat) : Option (Fin n) := if h : k < n then some ⟨k, h⟩ else none

/-- No number twice. -/
def noRepeat : List Nat → Bool
  | [] => true
  | x :: xs => !xs.contains x && noRepeat xs

/-- Clamp to a range (R200). -/
def clamp (lo hi n : Nat) : Nat := if n < lo then lo else if n > hi then hi else n

end Sys2Proof.Machine
end

