-- ==== Sys2Proof/Machine/Results.lean ====
section
/-! DEFINITION. The codes of chapter 11.5: results and markers, small codes, and the codes the model adds where the tables list
none (assumption 17). -/

namespace Sys2Proof.Machine

/-- The results and markers of chapter 11.5. -/
inductive Result where
  | ok | accepted | badArg | badState | busy | overlap | notFound | spanProtected | locked | inUse | notEnabled | full | taken
  | notReady | wrongRole | closed | notOnSale | staleShow | outOfMap | mixedShow | basketFull | houseOnly | notHeld | badType
  | badCombo | noLine | notClaimed | nothingToUndo | emptyBasket | notPriced | holdLapsed
  | priceChanged | showClosed | overLimit | gatewayHeld | noUplink | authFull | voucherFull | queueFull
  | unknown | alreadyRedeemed | voided | wrongKind | expired
  | approved | declined | gatewayFault
  | new | already | reversed | released
  deriving DecidableEq, Repr

/-- Result and marker codes (chapter 11.5). -/
def Result.code : Result → Byte
  | .ok => 0x00 | .accepted => 0x01 | .badArg => 0x02 | .badState => 0x03 | .busy => 0x04 | .overlap => 0x05
  | .notFound => 0x06 | .spanProtected => 0x07 | .locked => 0x08 | .inUse => 0x09 | .notEnabled => 0x0A | .full => 0x0B
  | .taken => 0x0C
  | .notReady => 0x20 | .wrongRole => 0x21 | .closed => 0x22 | .notOnSale => 0x23 | .staleShow => 0x24
  | .outOfMap => 0x25 | .mixedShow => 0x26 | .basketFull => 0x27 | .houseOnly => 0x28 | .notHeld => 0x29
  | .badType => 0x2A | .badCombo => 0x2B | .noLine => 0x2C | .notClaimed => 0x2D | .nothingToUndo => 0x2E
  | .emptyBasket => 0x2F | .notPriced => 0x30 | .holdLapsed => 0x31
  | .priceChanged => 0x32 | .showClosed => 0x33 | .overLimit => 0x34 | .gatewayHeld => 0x35 | .noUplink => 0x36
  | .authFull => 0x37 | .voucherFull => 0x38 | .queueFull => 0x39
  | .unknown => 0x40 | .alreadyRedeemed => 0x41 | .voided => 0x42 | .wrongKind => 0x43 | .expired => 0x44
  | .approved => 0x50 | .declined => 0x51 | .gatewayFault => 0x52
  | .new => 0x60 | .already => 0x61 | .reversed => 0x62 | .released => 0x63

/-- Show states in Read Seats: not in the tables, assumption 17. -/
def ShowState.code : ShowState → Nat
  | .empty => 0 | .loading => 1 | .onSale => 2 | .closed => 3

/-- Seat state in replies. -/
def SeatState.code : SeatState → Nat
  | .free => 0 | .house => 1 | .held .. => 2 | .pending .. => 3 | .sold .. => 4

/-- Basket State. -/
def BasketState.code : BasketState → Nat
  | .empty => 0 | .building => 1 | .priced => 2 | .authorising => 3

/-- Undo entry kind. -/
def UndoEntry.code : UndoEntry → Nat
  | .hold .. => 1 | .release .. => 2 | .setType .. => 3 | .addCombo .. => 4 | .removeCombo .. => 5
  | .applyCredit .. => 6 | .removeCredit .. => 7

/-- Authorisation state in Read Authorisations: not in the tables, assumption 17. -/
def AuthState.code : AuthState → Nat
  | .active .. => 0 | .lost => 1

/-- Voucher Kind. -/
def VoucherKind.code : VoucherKind → Nat
  | .snack .. => 1 | .credit .. => 2

/-- Voucher slot state. -/
def Slot.code : Slot → Nat
  | .free => 0 | .issued .. => 1 | .claimed .. => 2 | .redeemed .. => 3 | .void .. => 4

/-- Channel state in Read Print Status: not in the tables, assumption 17. -/
def ChannelState.code : ChannelState → Nat
  | .idle => 0 | .fetch => 1 | .send => 2 | .await .. => 3 | .paused .. => 4

/-- Owed reason. -/
def OwedReason.code : OwedReason → Nat
  | .late => 1 | .printFailed => 2 | .queueFull => 3 | .portLost => 4 | .cancelled => 5

/-- Print failure reason. -/
inductive FailReason where
  | templateBad | jam | printerWait | paperWait
  deriving DecidableEq, Repr

/-- Print failure reason codes. -/
def FailReason.code : FailReason → Nat
  | .templateBad => 1 | .jam => 2 | .printerWait => 3 | .paperWait => 4

/-- Reset Cause. -/
def ResetCause.code : ResetCause → Nat
  | .power => 1 | .line => 2 | .command => 3

/-- Store operation kind. -/
def StoreOp.code : StoreOp → Nat
  | .eraseSector .. => 1 | .eraseAll => 2 | .programPage .. => 3

/-- Port state. -/
def PortState.code : PortState → Nat
  | .disabled => 0 | .active => 1 | .quarantined => 2

/-- Role. -/
def Role.code : Role → Nat
  | .sales => 0 | .counter => 1 | .boxOffice => 2

/-- The Role with this code. -/
def Role.ofCode : Nat → Option Role
  | 0 => some .sales | 1 => some .counter | 2 => some .boxOffice | _ => none

/-- Foyer State. -/
def FoyerState.code : FoyerState → Nat
  | .unconfigured => 0 | .closed => 1 | .opened => 2 | .night => 3

/-- Notice kinds (chapter 11.3); START is 0x01. -/
def NoticeKind.code : NoticeKind → Nat
  | .sale => 2 | .authLost => 3 | .lateResult => 4 | .strayResult => 5 | .portWarn => 6 | .portQuarantined => 7
  | .printFailed => 8 | .owedAdded => 9 | .storeDone => 10 | .proofDone => 11 | .voucherLow => 12

/-- The kind of a document, by the template kinds' codes (chapter 11.4; assumption 17). -/
def DocFields.code : DocFields → Nat
  | .ticket .. => 1 | .voucher .. => 2

end Sys2Proof.Machine
end

