-- ==== Sys2Proof/Machine/Sparse.lean ====
section
/-! DEFINITION. Addressed stores in one canonical form: a list of (address, value) pairs, addresses strictly rising, no entry
equal to what an unlisted address reads as. The Seat Pool, the voucher slots, the Serial Index, the Template Store's bytes and the
Site Record are held this way (INVENTORY.md, Memory and ordering). -/

namespace Sys2Proof.Machine

variable {α : Type}

/-- The listed value at an address, if any. -/
def Sparse.find (m : List (Nat × α)) (a : Nat) : Option α :=
  match m with
  | [] => none
  | (b, v) :: rest => if b = a then some v else Sparse.find rest a

/-- What an address reads as: its listed value, or the default `d a`. -/
def Sparse.get (d : Nat → α) (m : List (Nat × α)) (a : Nat) : α := (Sparse.find m a).getD (d a)

/-- The list without the address. -/
def Sparse.erase (m : List (Nat × α)) (a : Nat) : List (Nat × α) := m.filter (fun c => c.1 ≠ a)

/-- Put a pair before the first greater address. -/
def Sparse.place (a : Nat) (v : α) : List (Nat × α) → List (Nat × α)
  | [] => [(a, v)]
  | (b, w) :: rest => if a < b then (a, v) :: (b, w) :: rest else (b, w) :: Sparse.place a v rest

/-- Write one address, keeping the canonical form: writing the default unlists the address. -/
def Sparse.set [DecidableEq α] (d : Nat → α) (m : List (Nat × α)) (a : Nat) (v : α) : List (Nat × α) :=
  if v = d a then Sparse.erase m a else Sparse.place a v (Sparse.erase m a)

/-- Write `f i v` for each address `a + i` of the run of `n` addresses from `a`, `v` being what the address reads as. -/
def Sparse.update [DecidableEq α] (d : Nat → α) (m : List (Nat × α)) (a : Nat) : Nat → (Nat → α → α) → List (Nat × α)
  | 0, _ => m
  | n + 1, f => Sparse.set d (Sparse.update d m a n f) (a + n) (f n (Sparse.get d m (a + n)))

/-- Addresses strictly rising. -/
def Sparse.rising : List (Nat × α) → Bool
  | [] => true
  | [_] => true
  | (a, _) :: (b, w) :: rest => decide (a < b) && Sparse.rising ((b, w) :: rest)

/-- The canonical form. -/
def Sparse.wf [DecidableEq α] (d : Nat → α) (m : List (Nat × α)) : Bool :=
  Sparse.rising m && m.all (fun c => decide (c.2 ≠ d c.1))

end Sys2Proof.Machine
end

