-- ==== Sys2Proof/Machine/Ops.lean ====
section
/-! DEFINITION. The operations every block shares: access to ports, baskets, shows and seats (R5 to R9), notices (R201, R202),
replies to kiosks (R177, R181) and to the server (R200), vouchers by serial (R114, R119), and the voiding of a basket (R60). -/

namespace Sys2Proof.Machine

/-! ## The numbered parts -/

/-- Ports 0 to 15. -/
def allPorts : List PortNo := List.finRange 16
/-- Directory indices 0 to 63. -/
def allShows : List ShowNo := List.finRange 64
/-- Sectors 0 to 31. -/
def allSectors : List SectorNo := List.finRange 32
/-- Channels 0 to 3. -/
def allChannels : List ChannelNo := List.finRange 4

/-- A port. -/
def State.port (s : State) (p : PortNo) : Port := s.ports[p]
/-- Replace a port. -/
def State.setPort (s : State) (p : PortNo) (x : Port) : State := { s with ports := s.ports.set p x }
/-- A port's basket. -/
def State.basket (s : State) (p : PortNo) : Basket := s.baskets[p]
/-- Replace a port's basket. -/
def State.setBasket (s : State) (p : PortNo) (b : Basket) : State := { s with baskets := s.baskets.set p b }
/-- A Show Directory entry. -/
def State.showAt (s : State) (i : ShowNo) : Show := s.seats.shows[i]
/-- Replace a Show Directory entry. -/
def State.setShow (s : State) (i : ShowNo) (x : Show) : State :=
  { s with seats := { s.seats with shows := s.seats.shows.set i x } }

/-! ## Shows and seats (chapter 1) -/

/-- A handle is current when its entry is not EMPTY and carries its generation (R3). -/
def State.current (s : State) (h : Handle) : Bool :=
  decide ((s.showAt h.index).state ≠ .empty) && decide ((s.showAt h.index).generation = h.generation)

/-- What an unlisted pool address reads as (assumption 10). -/
def blankSeat (_ : Nat) : Seat := Seat.blank

/-- The record of seat `k` of a show: pool address Seat Base + k (R1). -/
def State.seatAt (s : State) (i : ShowNo) (k : Nat) : Seat :=
  Sparse.get blankSeat s.seats.pool ((s.showAt i).seatBase + k)

/-- One seat fewer in a state. -/
def SeatCounts.less (c : SeatCounts) : SeatState → SeatCounts
  | .free => { c with free := c.free - 1 }
  | .house => { c with house := c.house - 1 }
  | .held .. => { c with held := c.held - 1 }
  | .pending .. => { c with pending := c.pending - 1 }
  | .sold .. => { c with sold := c.sold - 1 }

/-- One seat more in a state. -/
def SeatCounts.more (c : SeatCounts) : SeatState → SeatCounts
  | .free => { c with free := c.free + 1 }
  | .house => { c with house := c.house + 1 }
  | .held .. => { c with held := c.held + 1 }
  | .pending .. => { c with pending := c.pending + 1 }
  | .sold .. => { c with sold := c.sold + 1 }

/-- R9: for a change from state X to state Y, 1 from the count of X and 1 to the count of Y. -/
def SeatCounts.move (c : SeatCounts) (x y : SeatState) : SeatCounts :=
  if x.code = y.code then c else (c.less x).more y

/-- Write a whole seat record, with its show's counts in the same step (R8, R9). -/
def State.setSeat (s : State) (i : ShowNo) (k : Nat) (new : Seat) : State :=
  let sh := s.showAt i
  { s with seats := { s.seats with
      pool := Sparse.set blankSeat s.seats.pool (sh.seatBase + k) new
      shows := s.seats.shows.set i { sh with counts := sh.counts.move (s.seatAt i k).state new.state } } }

/-- Change a seat's state, its fixed part left (R6, R8, R9). -/
def State.setSeatState (s : State) (i : ShowNo) (k : Nat) (new : SeatState) : State :=
  s.setSeat i k { s.seatAt i k with state := new }

/-- "The seat returns to FREE": to HOUSE if its House Origin mark is set (R7). -/
def SeatState.givenUp : SeatState → SeatState
  | .held _ _ houseOrigin => if houseOrigin then .house else .free
  | .pending _ houseOrigin => if houseOrigin then .house else .free
  | st => st

/-- A HELD or PENDING seat returns to FREE (R7). -/
def State.giveUpSeat (s : State) (i : ShowNo) (k : Nat) : State :=
  s.setSeatState i k (s.seatAt i k).state.givenUp

/-- HELD with this Owner Port. -/
def SeatState.heldBy (p : PortNo) : SeatState → Bool
  | .held o _ _ => decide (o = p)
  | _ => false

/-- The state a FREE or HOUSE seat takes when this port holds it: House Origin set if it was HOUSE (R7, R28). -/
def SeatState.taken (p : PortNo) (lease : Nat) : SeatState → SeatState
  | .house => .held p lease true
  | _ => .held p lease false

/-- The number of unloaded records of a show: those whose Seat Number is 0 (R5). -/
def State.unloaded (s : State) (i : ShowNo) : Nat :=
  ((List.range (s.showAt i).seatCount).filter (fun k => decide ((s.seatAt i k).number = 0))).length

/-- Do `f` for every seat of every show, in index order. -/
def State.forSeats (f : State → ShowNo → Nat → State) (s : State) : State :=
  allShows.foldl (fun s i =>
    if (s.showAt i).state = .empty then s
    else (List.range (s.showAt i).seatCount).foldl (fun s k => f s i k) s) s

/-- The five counts in the order of R1: Free, Held, Pending, Sold, House. -/
def SeatCounts.bytes (c : SeatCounts) : Bytes := u16 c.free ++ u16 c.held ++ u16 c.pending ++ u16 c.sold ++ u16 c.house

/-- A handle's two bytes (R204). -/
def Handle.bytes (h : Handle) : Bytes := u8 h.index.val ++ u8 h.generation

/-! ## Notices (section 10.6) -/

/-- A kind's enable (R202). -/
def NoticeEnables.kind (e : NoticeEnables) : NoticeKind → Bool
  | .sale => e.sale | .authLost => e.authLost | .lateResult => e.lateResult | .strayResult => e.strayResult
  | .portWarn => e.portWarn | .portQuarantined => e.portQuarantined | .printFailed => e.printFailed
  | .owedAdded => e.owedAdded | .storeDone => e.storeDone | .proofDone => e.proofDone | .voucherLow => e.voucherLow

/-- The head notice's frame is being sent: it leaves the queue when its last byte has been sent (R201). -/
def State.sendingNotice (s : State) : Bool := s.uplink.sending.any (fun x => decide (x.source = .notice))

/-- The Notice Queue without its oldest notice that is not being sent (R201). By R203 the head being sent leaves at its own last
byte, so that the one behind it is discarded (assumption 26). -/
def State.noticesLessOldest (s : State) : List Notice :=
  if s.sendingNotice then s.control.notices.take 1 ++ s.control.notices.drop 2 else s.control.notices.drop 1

/-- Join the Notice Queue; at 32 the oldest is discarded and Notices Lost is set (R201; assumption 26). -/
def State.pushNotice (s : State) (code : Nat) (content : Bytes) : State :=
  let n : Notice := { code := code, carriesLost := false, day := s.control.day, seconds := s.control.seconds,
                      content := content }
  if s.control.notices.length < 32 then
    { s with control := { s.control with notices := s.control.notices ++ [n] } }
  else
    { s with control := { s.control with notices := s.noticesLessOldest ++ [n], noticesLost := true } }

/-- Raise a notice: queued if the global enable and its kind's enable are on (R202). -/
def State.raise (s : State) (k : NoticeKind) (content : Bytes) : State :=
  if s.control.enables.all && s.control.enables.kind k then s.pushNotice k.code content else s

/-! ## Kiosk requests and their replies (R174, R177, R181) -/

/-- The port's receiver takes runs: the part runs, the foyer is not NIGHT, the port is ACTIVE and line idle has been found
(R174, R190). -/
def State.takesFrames (s : State) (p : PortNo) : Bool :=
  s.control.running && decide (s.control.foyer ≠ .night) && decide ((s.port p).state = .active) && !(s.port p).awaitingIdle

/-- Places of a reply queue in use: made replies and a kept place together (R181). -/
def Port.places (x : Port) : Nat := x.replies.length + if x.kept.isSome then 1 else 0

/-- A good frame lowers the Error Count by 1, stopping at 0 (R177). -/
def State.goodFrame (s : State) (p : PortNo) : State :=
  s.setPort p { s.port p with errorCount := (s.port p).errorCount - 1 }

/-- A made reply joins the port's reply queue (R181). -/
def State.pushReply (s : State) (p : PortNo) (f : KioskFrame) : State :=
  s.setPort p { s.port p with replies := (s.port p).replies ++ [f] }

/-- Make the reply to a kiosk request: its class code plus 0x40, the request's Tag, the result byte and the content. -/
def State.answer (s : State) (c : KioskClass) (p : PortNo) (tag : Byte) (r : Result) (content : Bytes) : State :=
  s.pushReply p { cls := c.replyCode, tag := tag, payload := r.code :: content }

/-- A frame of a kiosk request class reaches its owner: discarded if the receiver takes no frame, discarded without lowering
the Error Count if the reply queue holds 8 places, else handed on as a good frame (R174, R177). -/
def State.takeRequest (s : State) (p : PortNo) (owner : State → State) : State :=
  if s.takesFrames p = false then s
  else if 8 ≤ (s.port p).places then s
  else owner (s.goodFrame p)

/-- What a request or command comes to: the state after it, the result, and the content of its reply. -/
abbrev Answer := State × Result × Bytes

/-- A kiosk request that is answered at once by one reply (R23). -/
def State.request (s : State) (c : KioskClass) (p : PortNo) (tag : Byte) (body : State → Answer) : State :=
  s.takeRequest p (fun t => (body t).1.answer c p tag (body t).2.1 (body t).2.2)

/-- A refusal: nothing changes, and the reply is the result byte and the content given. -/
def State.refuse (s : State) (r : Result) (content : Bytes := []) : Answer := (s, r, content)

/-! ## The management channel (R194, R199, R200) -/

/-- In NIGHT management handling takes Wake, Identify and Restart only (R185, R194). -/
def Command.servedInNight : Option Command → Bool
  | some .wake => true
  | some .identify => true
  | some .restart => true
  | _ => false

/-- Management handling takes a command: the part runs, Restart is not pending, fewer than 16 replies wait, and in NIGHT the
command is one of the three served there (R194, R199, R200). -/
def State.takesCommand (s : State) (c : Option Command) : Bool :=
  s.control.running && !s.control.restartPending && decide (s.uplink.replies.length < 16)
    && (decide (s.control.foyer ≠ .night) || Command.servedInNight c)

/-- The reply to a management command: its code as received, the result, the content (R205). -/
def State.mgmtAnswer (s : State) (code : Byte) (tag : Byte) (r : Result) (content : Bytes) : State :=
  { s with uplink := { s.uplink with
      replies := s.uplink.replies ++ [{ tag := tag, payload := code :: r.code :: content }] } }

/-! ## Vouchers by serial (chapter 6) -/

/-- An unlisted slot is FREE. -/
def freeSlot (_ : Nat) : Slot := .free
/-- An unlisted serial is in no pair. -/
def noSlot (_ : Nat) : Option Nat := none

/-- A voucher slot by number. -/
def State.slotAt (s : State) (n : Nat) : Slot := Sparse.get freeSlot s.vouchers.slots n
/-- Write a voucher slot. -/
def State.setSlot (s : State) (n : Nat) (x : Slot) : State :=
  { s with vouchers := { s.vouchers with slots := Sparse.set freeSlot s.vouchers.slots n x } }
/-- The Serial Index (R114). -/
def State.indexed (s : State) (serial : Nat) : Option Nat := Sparse.get noSlot s.vouchers.index serial
/-- The slot a serial names, found through the index (R114). -/
def State.slotOf (s : State) (serial : Nat) : Option (Nat × Slot) := (s.indexed serial).map (fun n => (n, s.slotAt n))

/-- Change the slot that a serial names. -/
def State.changeSlot (s : State) (serial : Nat) (f : Slot → Slot) : State :=
  match s.slotOf serial with
  | some (n, x) => s.setSlot n (f x)
  | none => s

/-- The slot becomes, or stays, CLAIMED by this holder (R118). -/
def Slot.claim (o : ClaimOwner) : Slot → Slot
  | .issued v => .claimed v o
  | .claimed v _ => .claimed v o
  | x => x

/-- A CLAIMED slot returns to ISSUED, its claim owner discarded (R118). -/
def Slot.unclaim : Slot → Slot
  | .claimed v _ => .issued v
  | x => x

/-- The slot becomes REDEEMED with its stamp (R100, R118, R121). -/
def Slot.redeem (p : PortNo) (day time : Nat) : Slot → Slot
  | .issued v => .redeemed v p day time
  | .claimed v _ => .redeemed v p day time
  | x => x

/-- The voucher a slot holds, if it is not FREE. -/
def Slot.voucher : Slot → Option Voucher
  | .free => none
  | .issued v => some v
  | .claimed v _ => some v
  | .redeemed v _ _ _ => some v
  | .void v _ => some v

/-- The money value of a voucher; 0 for a SNACK voucher. -/
def VoucherKind.value : VoucherKind → Nat
  | .credit v => v
  | .snack _ => 0

/-- The Value of the voucher with this serial, as PRICE and APPLY_CREDIT read it. -/
def State.valueOf (s : State) (serial : Nat) : Nat :=
  match s.slotOf serial with
  | some (_, x) => match x.voucher with
    | some v => v.kind.value
    | none => 0
  | none => 0

/-- The tests of R119 in their order, for REDEEM (SNACK) and APPLY_CREDIT (CREDIT): the refusal with the content that follows
the serial in a reply, or the voucher. -/
def State.testVoucher (s : State) (wantSnack : Bool) (serial : Nat) : (Result × Bytes) ⊕ Voucher :=
  match s.slotOf serial with
  | none => .inl (.unknown, [])
  | some (_, .free) => .inl (.unknown, [])
  | some (_, .redeemed _ p day time) => .inl (.alreadyRedeemed, u8 p.val ++ u16 day ++ u24 time)
  | some (_, .void _ _) => .inl (.voided, [])
  | some (_, .claimed _ _) => .inl (.inUse, [])
  | some (_, .issued v) =>
    match v.kind, wantSnack with
    | .snack _, false => .inl (.wrongKind, [])
    | .credit _, true => .inl (.wrongKind, [])
    | _, _ => if v.expiryDay < s.control.day then .inl (.expired, u16 v.expiryDay) else .inr v

/-- Slots that are not FREE. -/
def VoucherTable.used (v : VoucherTable) : Nat := (v.slots.filter (fun c => decide (c.2 ≠ .free))).length
/-- Slots that are FREE, of 4,096 (R112). -/
def VoucherTable.freeSlots (v : VoucherTable) : Nat := 4096 - v.used
/-- Available: FREE slots less the reservation count (R117). -/
def VoucherTable.available (v : VoucherTable) : Nat := v.freeSlots - v.reservation

/-! ## Baskets (chapter 3) -/

/-- A basket holds a line or a claim. -/
def Basket.holds (b : Basket) : Bool := !(b.seatLines.isEmpty && b.combos.isEmpty && b.claims.isEmpty)

/-- BUILDING if the basket holds a line or a claim, EMPTY if it holds none (R47, R54). -/
def Basket.settled (b : Basket) : Basket := { b with state := if b.holds then .building else .empty }

/-- What every successful edit and UNDO does besides its own effect: no snapshot, Lapsed clear, the State by contents (R47,
R54). -/
def Basket.reopened (b : Basket) : Basket := { b with snapshot := none, lapsed := false }.settled

/-- Push an undo entry; at 8 the oldest is dropped (R53). -/
def Basket.pushUndo (b : Basket) (e : UndoEntry) : Basket := { b with undo := (e :: b.undo).take 8 }

/-- R47: the steps of a successful edit, after its lines or claims have changed. -/
def Basket.edited (b : Basket) (e : UndoEntry) : Basket := (b.pushUndo e).reopened

/-- The basket holds a seat line for this index. -/
def Basket.hasSeat (b : Basket) (k : Nat) : Bool := b.seatLines.any (fun l => decide (l.seat = k))

/-- The basket without its line for a seat. -/
def Basket.dropSeat (b : Basket) (k : Nat) : Basket :=
  { b with seatLines := b.seatLines.filter (fun l => decide (l.seat ≠ k)) }

/-- The basket emptied: no line, claim, undo entry or snapshot, Lapsed clear, EMPTY; the Show Handle keeps its value (R42,
R60). -/
def Basket.cleared (b : Basket) : Basket :=
  { Basket.reset with handle := b.handle }

/-- The Basket Summary (R45; chapter 11.2). -/
def Basket.summary (b : Basket) : Bytes :=
  u8 b.state.code ++ flag b.lapsed
    ++ (u8 b.seatLines.length ++ (if b.seatLines.isEmpty then [] else b.handle.bytes)
        ++ b.seatLines.flatMap (fun l => u16 l.seat ++ u8 l.ticketType.val))
    ++ (u8 b.combos.length ++ b.combos.flatMap (fun c => u8 c.val))
    ++ (u8 b.claims.length ++ b.claims.flatMap u24)
    ++ u8 b.undo.length

/-- A void's return of seats: every seat named by a seat line returns to FREE (R60). -/
def State.returnSeats (s : State) (i : ShowNo) (seats : List Nat) : State :=
  seats.foldl (fun s k => s.giveUpSeat i k) s

/-- A void's return of claims: every voucher named returns to ISSUED (R60, R118). -/
def State.returnClaims (s : State) (serials : List Nat) : State :=
  serials.foldl (fun s n => s.changeSlot n Slot.unclaim) s

/-- R60: void a basket. -/
def State.voidBasket (s : State) (p : PortNo) : State :=
  let b := s.basket p
  let s := s.returnSeats b.handle.index (b.seatLines.map (·.seat))
  let s := s.returnClaims b.claims
  s.setBasket p b.cleared

/-- A basket in AUTHORISING is not voided (R60, R62). -/
def State.voidUnlessAuthorising (s : State) (p : PortNo) : State :=
  if (s.basket p).state = .authorising then s else s.voidBasket p

end Sys2Proof.Machine
end

