-- ==== Sys2Proof/Machine/Flags.lean ====
section
/-! DEFINITION. The flags the rules keep beside the registers: Lapsed (R21, R59), Low Armed (R126), Over Limit (R87) and the
Mismatch count and indications (R162, R170). -/

namespace Sys2Proof.Machine

/-- R21, R59: a seat line leaves a basket other than at its own request. A PRICED basket that still holds a line or a claim
becomes BUILDING with Lapsed set; a basket left with nothing becomes EMPTY with Lapsed clear; the Undo Stack stays. -/
def Basket.loseSeat (b : Basket) (k : Nat) : Basket :=
  let b' := b.dropSeat k
  if b'.holds = false then { b' with state := .empty, lapsed := false, snapshot := none }
  else if b.state = .priced then { b' with state := .building, lapsed := true, snapshot := none }
  else b'

/-- R126: after a step that changes Available, Low Armed follows it, and VOUCHER_LOW is raised when Available is left below 64
while the flag is set (assumption 28). -/
def State.checkLow (s : State) : State :=
  let v := s.vouchers
  if v.available < 64 then
    if v.lowArmed then
      { s with vouchers := { v with lowArmed := false } }.raise .voucherLow
        (u16 v.available ++ u16 v.freeSlots ++ u16 v.reservation)
    else s
  else { s with vouchers := { v with lowArmed := true } }

/-- R87: Over Limit is set when Net is greater than the Ceiling. -/
def overLimit (net ceiling : Nat) : Bool := decide (ceiling < net)

/-- R162: the addressed bytes whose stored value differs from the data byte given. -/
def mismatches (stored given : Bytes) : Nat := ((stored.zip given).filter (fun x => decide (x.1 ≠ x.2))).length

end Sys2Proof.Machine
end

