-- ==== Sys2Proof/Machine/Resets.lean ====
section
/-! DEFINITION. Resets and start-up (R168, R173, R190, R198, R199), the loss of a port (R179 without its print side, which
stands in Machine/Links.lean), and the answer to a management command, with the reset a pending Restart leads to. -/

namespace Sys2Proof.Machine

/-- The kind and sector that Write Aborted reports of an operation (R168). -/
def StoreOp.aborted : StoreOp → Aborted
  | .eraseSector k => { kind := 1, sector := some k }
  | .eraseAll => { kind := 2, sector := none }
  | .programPage k _ _ _ _ => { kind := 3, sector := some k }

/-- R168: the bytes of the sector being worked, or of every sector, are no longer defined: the `n`-th cut. -/
def TemplateStore.scramble (st : TemplateStore) (n : Nat) : StoreOp → TemplateStore
  | .eraseAll => { st with cells := [], fill := Vector.replicate 32 (.undefined n) }
  | .eraseSector k =>
    { st with cells := st.cells.filter (fun c => decide (c.1 / 4096 ≠ k.val)), fill := st.fill.set k (.undefined n) }
  | .programPage k _ _ _ _ =>
    { st with cells := st.cells.filter (fun c => decide (c.1 / 4096 ≠ k.val)), fill := st.fill.set k (.undefined n) }

/-- R173, R168: the Template Store after a reset of this cause. -/
def TemplateStore.afterReset (st : TemplateStore) (cause : ResetCause) (n : Nat) : TemplateStore :=
  let cut := match st.operation with
    | none => st
    | some op => st.scramble n op
  let flag := match cause, st.operation with
    | .power, _ => none
    | _, some op => some op.aborted
    | _, none => st.writeAborted
  { cut with operation := none, writeEnable := false, writeAborted := flag }

/-- R198: a reset takes every block's volatile state to its reset values; the Template Store keeps what R173 gives, the pins
their levels, the queue its commands. The part is in reset until its start-up (R190). -/
def State.resetPart (s : State) (cause : ResetCause) : State :=
  { State.reset with
    store := s.store.afterReset cause s.freeCount
    control := FoyerControl.reset cause s.control.resetLow s.control.keyActive
    freeCount := s.freeCount + (if s.store.operation.isSome then 1 else 0)
    pending := s.pending }

/-- The content of START: Reset Cause, Write Aborted with its kind and sector (255 for ALL), Site Lock (R198; chapter 11.3). -/
def State.startContent (s : State) : Bytes :=
  u8 s.control.resetCause.code
    ++ (match s.store.writeAborted with
        | none => flag false ++ u8 0 ++ u8 0
        | some a => flag true ++ u8 a.kind ++ u8 (match a.sector with | some k => k.val | none => 255))
    ++ flag s.store.siteLock

/-- R198: start-up. The tick begins and START is queued, whatever the enables hold. -/
def State.start (s : State) : State :=
  { s with control := { s.control with running := true, tickRunning := true } }.pushNotice 1 s.startContent

/-- R199: the reset of a Restart, with start-up in the step of the reset itself (R198). -/
def State.restartNow (s : State) : State := (s.resetPart .command).start

/-- R199: if the uplink is DOWN while Restart is pending, the reset is taken in this step and the reply is not sent. -/
def State.settleRestart (s : State) : State :=
  if s.control.restartPending && !s.uplink.linkUp then s.restartNow else s

/-- A management command taken and answered by one reply, or discarded without one (R194, R199, R200). -/
def State.manage (s : State) (c : Command) (tag : Byte) (body : State → Answer) : State :=
  if s.takesCommand (some c) = false then s
  else ((body s).1.mgmtAnswer c.code tag (body s).2.1 (body s).2.2).settleRestart

/-- A command with no arguments: any argument byte is not of its layout (R200). -/
def noArgs (args : Bytes) (body : State → Answer) (s : State) : Answer := if args = [] then body s else s.refuse .badArg

end Sys2Proof.Machine
end

