-- ==== Sys2Proof/Machine/Shows.lean ====
section
/-! DEFINITION. Chapter 1: the management commands that define, load, open, close, remove, change and report shows. -/

namespace Sys2Proof.Machine

/-- R12, checks 2 and 3, for a command legal in the states given: the generation, then the entry's state. -/
def State.showCheck (s : State) (h : Handle) (legal : List ShowState) : Option Result :=
  if (s.showAt h.index).generation ≠ h.generation then some .notFound
  else if legal.contains (s.showAt h.index).state then none
  else some .badState

/-- A show command that passes R12 goes on to its body. -/
def withShow (h : Handle) (legal : List ShowState) (body : State → Answer) (s : State) : Answer :=
  match s.showCheck h legal with
  | some r => s.refuse r
  | none => body s

/-- LOADING, ON_SALE and CLOSED. -/
def notEmptyStates : List ShowState := [.loading, .onSale, .closed]

/-! ## Define Show (R13) -/

/-- The arguments of Define Show: a directory index and the fields of R1 in their order. -/
structure ShowFields where
  index : Nat
  seatBase : Nat
  seatCount : Nat
  priceBand : Nat
  surcharge : Nat
  template : Nat
  startDay : Nat
  startTime : Nat
  graceDays : Nat
  title : Bytes
  deriving DecidableEq, Repr

/-- The layout of Define Show's arguments (R1, R13, R204; assumption 15). -/
def readShowFields (b : Bytes) : Option ShowFields := do
  let (index, b) ← readNat 1 b
  let (seatBase, b) ← readNat 2 b
  let (seatCount, b) ← readNat 2 b
  let (priceBand, b) ← readNat 1 b
  let (surcharge, b) ← readNat 3 b
  let (template, b) ← readNat 1 b
  let (startDay, b) ← readNat 2 b
  let (startTime, b) ← readNat 3 b
  let (graceDays, b) ← readNat 1 b
  let (title, b) ← readText b
  if printable title then
    done { index := index, seatBase := seatBase, seatCount := seatCount, priceBand := priceBand, surcharge := surcharge,
           template := template, startDay := startDay, startTime := startTime, graceDays := graceDays, title := title } b
  else none

/-- Two address ranges share an address. -/
def rangesMeet (a n b m : Nat) : Bool := decide (a < b + m ∧ b < a + n)

/-- R13, check 5: the range shares an address with a show that is not EMPTY. -/
def State.overlaps (s : State) (base count : Nat) : Bool :=
  allShows.any (fun i => decide ((s.showAt i).state ≠ .empty) && rangesMeet base count (s.showAt i).seatBase (s.showAt i).seatCount)

/-- R13: every record of the range is written HOUSE, unloaded. -/
def State.blankRange (s : State) (base count : Nat) : State :=
  { s with seats := { s.seats with pool := Sparse.update blankSeat s.seats.pool base count (fun _ _ => Seat.blank) } }

/-- R13: Define Show's checks and effect. -/
def defineShow (args : Bytes) (s : State) : Answer :=
  match readShowFields args with
  | none => s.refuse .badArg
  | some f =>
    match toFin 64 f.index with
    | none => s.refuse .badArg
    | some i =>
      if (s.showAt i).state ≠ .empty then s.refuse .badState
      else match toFin 8 f.priceBand, toFin 32 f.template with
        | some band, some template =>
          if f.seatCount < 1 ∨ 1024 < f.seatCount ∨ 86399 < f.startTime ∨ 7 < f.graceDays ∨ 32 < f.title.length then
            s.refuse .badArg
          else if 32768 < f.seatBase + f.seatCount then s.refuse .badArg
          else if s.overlaps f.seatBase f.seatCount then s.refuse .overlap
          else
            let surcharge := min 4095 f.surcharge
            let sh : Show :=
              { state := .loading, generation := (s.showAt i).generation, seatBase := f.seatBase, seatCount := f.seatCount,
                priceBand := band, surcharge := surcharge, ticketTemplate := template, startDay := f.startDay,
                startTime := f.startTime, graceDays := f.graceDays, title := f.title,
                counts := { free := 0, held := 0, pending := 0, sold := 0, house := f.seatCount } }
            ((s.blankRange f.seatBase f.seatCount).setShow i sh, .ok,
              Handle.bytes { index := i, generation := sh.generation } ++ u24 surcharge)
        | _, _ => s.refuse .badArg

/-- DEFINE_SHOW (R13). -/
def execDefineShow (tag : Byte) (args : Bytes) (s : State) : Host.Outcome State Fault Refusal :=
  .next (s.manage .defineShow tag (defineShow args))

/-! ## Load Seats (R14) -/

/-- A record of Load Seats as carried. -/
structure LoadRecord where
  zone : Nat
  rowLabel : Bytes
  number : Nat
  initial : Nat
  deriving DecidableEq, Repr

/-- `n` records of Load Seats (R14, R204). -/
def readLoadRecords : Nat → Bytes → Option (List LoadRecord × Bytes)
  | 0, b => some ([], b)
  | n + 1, b => do
    let (zone, b) ← readNat 1 b
    let (rowLabel, b) ← readText b
    let (number, b) ← readNat 1 b
    let (initial, b) ← readNat 1 b
    let (rest, b) ← readLoadRecords n b
    some ({ zone := zone, rowLabel := rowLabel, number := number, initial := initial } :: rest, b)

/-- R14: the seat a record gives, or nothing where it is refused. A seat loaded SOLD carries Sale Number 0 and Ticket Type 0. The
Initial State has the codes that replies give a seat state (assumption 50). -/
def LoadRecord.seat (r : LoadRecord) : Option Seat :=
  match toFin 4 r.zone with
  | none => none
  | some zone =>
    if r.rowLabel.length < 1 ∨ 2 < r.rowLabel.length ∨ printable r.rowLabel = false ∨ r.number = 0 then none
    else match r.initial with
      | 0 => some { zone := zone, rowLabel := r.rowLabel, number := r.number, state := .free }
      | 1 => some { zone := zone, rowLabel := r.rowLabel, number := r.number, state := .house }
      | 4 => some { zone := zone, rowLabel := r.rowLabel, number := r.number, state := .sold 0 0 }
      | _ => none

/-- Every record's seat, or nothing where one is refused: all or none (R14). -/
def loadSeatsOf : List LoadRecord → Option (List Seat)
  | [] => some []
  | r :: rest => match r.seat, loadSeatsOf rest with
    | some x, some xs => some (x :: xs)
    | _, _ => none

/-- Write records to seat indices `k`, `k + 1`, … -/
def State.writeSeats (s : State) (i : ShowNo) (k : Nat) : List Seat → State
  | [] => s
  | x :: rest => (s.setSeat i k x).writeSeats i (k + 1) rest

/-- The layout of Load Seats: handle, first index, count, records (R14). -/
def readLoadSeats (b : Bytes) : Option (Handle × Nat × List LoadRecord) := do
  let (h, b) ← readHandle b
  let (first, b) ← readNat 2 b
  let (n, b) ← readNat 1 b
  let (rs, b) ← readLoadRecords n b
  done (h, first, rs) b

/-- R14: Load Seats. -/
def loadSeats (args : Bytes) (s : State) : Answer :=
  match readLoadSeats args with
  | none => s.refuse .badArg
  | some (h, first, rs) => withShow h [.loading] (fun s =>
      match loadSeatsOf rs with
      | none => s.refuse .badArg
      | some seats =>
        if rs.length = 0 ∨ 40 < rs.length ∨ (s.showAt h.index).seatCount < first + rs.length then s.refuse .badArg
        else
          let s := s.writeSeats h.index first seats
          (s, .ok, u8 rs.length ++ (s.showAt h.index).counts.bytes ++ u16 (s.unloaded h.index))) s

/-- LOAD_SEATS (R14). -/
def execLoadSeats (tag : Byte) (args : Bytes) (s : State) : Host.Outcome State Fault Refusal :=
  .next (s.manage .loadSeats tag (loadSeats args))

/-! ## Open, Close and Remove Show (R15 to R17) -/

/-- Change a show's State. -/
def State.setShowState (s : State) (i : ShowNo) (st : ShowState) : State := s.setShow i { s.showAt i with state := st }

/-- The layout of a command that carries a handle alone. -/
def readHandleOnly (b : Bytes) : Option Handle := do
  let (h, b) ← readHandle b
  done h b

/-- R15: Open Show. The reply gives the unloaded records and the live counts (R9; assumption 21). -/
def openShow (args : Bytes) (s : State) : Answer :=
  match readHandleOnly args with
  | none => s.refuse .badArg
  | some h => withShow h [.loading] (fun s =>
      (s.setShowState h.index .onSale, .ok, u16 (s.unloaded h.index) ++ (s.showAt h.index).counts.bytes)) s

/-- OPEN_SHOW (R15). -/
def execOpenShow (tag : Byte) (args : Bytes) (s : State) : Host.Outcome State Fault Refusal :=
  .next (s.manage .openShow tag (openShow args))

/-- R16: Close Show. -/
def closeShow (args : Bytes) (s : State) : Answer :=
  match readHandleOnly args with
  | none => s.refuse .badArg
  | some h => withShow h [.onSale] (fun s => (s.setShowState h.index .closed, .ok, [])) s

/-- CLOSE_SHOW (R16). -/
def execCloseShow (tag : Byte) (args : Bytes) (s : State) : Host.Outcome State Fault Refusal :=
  .next (s.manage .closeShow tag (closeShow args))

/-- R17: Remove Show. -/
def removeShow (args : Bytes) (s : State) : Answer :=
  match readHandleOnly args with
  | none => s.refuse .badArg
  | some h => withShow h [.closed] (fun s =>
      let sh := s.showAt h.index
      if 0 < sh.counts.held + sh.counts.pending then s.refuse .busy
      else
        let g := (sh.generation + 1) % 16
        ((s.blankRange sh.seatBase sh.seatCount).setShow h.index { Show.reset with generation := g }, .ok, u8 g)) s

/-- REMOVE_SHOW (R17). -/
def execRemoveShow (tag : Byte) (args : Bytes) (s : State) : Host.Outcome State Fault Refusal :=
  .next (s.manage .removeShow tag (removeShow args))

/-! ## Set Seat, Mark Sold, Release Block (R18 to R20) -/

/-- The layout of Set Seat: handle, seat index. -/
def readSetSeat (b : Bytes) : Option (Handle × Nat) := do
  let (h, b) ← readHandle b
  let (k, b) ← readNat 2 b
  done (h, k) b

/-- R18: Set Seat. -/
def setSeatCommand (args : Bytes) (s : State) : Answer :=
  match readSetSeat args with
  | none => s.refuse .badArg
  | some (h, k) => withShow h notEmptyStates (fun s =>
      if (s.showAt h.index).seatCount ≤ k then s.refuse .badArg
      else match (s.seatAt h.index k).state with
        | .free => (s.setSeatState h.index k .house, .ok, u8 SeatState.house.code)
        | .house => (s.setSeatState h.index k .free, .ok, u8 SeatState.free.code)
        | st => s.refuse .taken (u8 st.code)) s

/-- SET_SEAT (R18). -/
def execSetSeat (tag : Byte) (args : Bytes) (s : State) : Host.Outcome State Fault Refusal :=
  .next (s.manage .setSeat tag (setSeatCommand args))

/-- The layout of Mark Sold: handle, Sale Number, Ticket Type, and the list of seat indices behind a one-byte count (R19;
assumption 55). -/
def readMarkSold (b : Bytes) : Option (Handle × Nat × Nat × List Nat) := do
  let (h, b) ← readHandle b
  let (sale, b) ← readNat 4 b
  let (t, b) ← readNat 1 b
  let (n, b) ← readNat 1 b
  let (ks, b) ← readList16 n b
  done (h, sale, t, ks) b

/-- HELD, PENDING or SOLD. -/
def SeatState.isTaken : SeatState → Bool
  | .free => false
  | .house => false
  | _ => true

/-- R19: Mark Sold. -/
def markSold (args : Bytes) (s : State) : Answer :=
  match readMarkSold args with
  | none => s.refuse .badArg
  | some (h, sale, t, ks) => withShow h [.onSale, .closed] (fun s =>
      match toFin 8 t with
      | none => s.refuse .badArg
      | some t =>
        if ks.length = 0 ∨ 40 < ks.length ∨ noRepeat ks = false ∨ ks.any (fun k => decide ((s.showAt h.index).seatCount ≤ k)) then
          s.refuse .badArg
        else
          let bad := ks.filter (fun k => (s.seatAt h.index k).state.isTaken)
          if bad ≠ [] then
            s.refuse .taken (u8 bad.length ++ bad.flatMap (fun k => u16 k ++ u8 (s.seatAt h.index k).state.code))
          else (ks.foldl (fun s k => s.setSeatState h.index k (.sold sale t)) s, .ok, u8 ks.length)) s

/-- MARK_SOLD (R19). -/
def execMarkSold (tag : Byte) (args : Bytes) (s : State) : Host.Outcome State Fault Refusal :=
  .next (s.manage .markSold tag (markSold args))

/-- The layout of Release Block: handle, block number. -/
def readReleaseBlock (b : Bytes) : Option (Handle × Nat) := do
  let (h, b) ← readHandle b
  let (k, b) ← readNat 1 b
  done (h, k) b

/-- R20, R21, R35: a HELD seat returns to FREE other than at its own basket's request, and its line leaves the basket of its
Owner Port in the same step. A seat that is not HELD is left as it is. -/
def State.loseHeld (s : State) (i : ShowNo) (k : Nat) : State :=
  match (s.seatAt i k).state with
  | .held p _ _ =>
    let s := s.giveUpSeat i k
    s.setBasket p ((s.basket p).loseSeat k)
  | _ => s

/-- The seat indices of a seat block, the last block possibly short (R20). -/
def blockSeats (seatCount block : Nat) : List Nat :=
  (List.range 16).filterMap (fun j => if 16 * block + j < seatCount then some (16 * block + j) else none)

/-- A HELD seat. -/
def SeatState.isHeld : SeatState → Bool
  | .held .. => true
  | _ => false

/-- R20: Release Block. -/
def releaseBlock (args : Bytes) (s : State) : Answer :=
  match readReleaseBlock args with
  | none => s.refuse .badArg
  | some (h, block) => withShow h notEmptyStates (fun s =>
      let n := (s.showAt h.index).seatCount
      if (n + 15) / 16 ≤ block then s.refuse .badArg
      else
        let held := (blockSeats n block).filter (fun k => (s.seatAt h.index k).state.isHeld)
        (held.foldl (fun s k => s.loseHeld h.index k) s, .ok, u8 held.length)) s

/-- RELEASE_BLOCK (R20). -/
def execReleaseBlock (tag : Byte) (args : Bytes) (s : State) : Host.Outcome State Fault Refusal :=
  .next (s.manage .releaseBlock tag (releaseBlock args))

/-! ## Read Seats (R22) -/

/-- A seat record as Read Seats gives it: its fixed part, its state and the fields of that state (R6, R22). -/
def Seat.bytes (x : Seat) : Bytes :=
  u8 x.zone.val ++ text x.rowLabel ++ u8 x.number ++ u8 x.state.code
    ++ (match x.state with
        | .free => []
        | .house => []
        | .held p lease ho => u8 p.val ++ u16 lease ++ flag ho
        | .pending t ho => u16 t ++ flag ho
        | .sold n t => u32 n ++ u8 t.val)

/-- The layout of Read Seats: handle, first index, count. -/
def readReadSeats (b : Bytes) : Option (Handle × Nat × Nat) := do
  let (h, b) ← readHandle b
  let (first, b) ← readNat 2 b
  let (n, b) ← readNat 1 b
  done (h, first, n) b

/-- R22: Read Seats. The request fixes how many records the reply gives, and no count precedes them. -/
def readSeats (args : Bytes) (s : State) : Answer :=
  match readReadSeats args with
  | none => s.refuse .badArg
  | some (h, first, n) => withShow h notEmptyStates (fun s =>
      let sh := s.showAt h.index
      if 100 < n ∨ sh.seatCount < first + n then s.refuse .badArg
      else (s, .ok, u8 sh.state.code ++ u8 sh.generation ++ u16 sh.seatCount ++ u8 sh.priceBand.val ++ sh.counts.bytes
        ++ u16 (s.unloaded h.index) ++ (List.range n).flatMap (fun j => (s.seatAt h.index (first + j)).bytes))) s

/-- READ_SEATS (R22). -/
def execReadSeats (tag : Byte) (args : Bytes) (s : State) : Host.Outcome State Fault Refusal :=
  .next (s.manage .readSeats tag (readSeats args))

end Sys2Proof.Machine
end

