-- ==== Sys2Proof/Machine/Holds.lean ====
section
/-! DEFINITION. Chapter 2: SEAT_QUERY, HOLD and RELEASE, the lease settings, and the expiry of leases. -/

namespace Sys2Proof.Machine

/-- The checks every seat and basket request shares before its form: NOT_READY in UNCONFIGURED, WRONG_ROLE from a COUNTER port
(R23, R46, R78, R88). -/
def State.sellerCheck (s : State) (p : PortNo) : Option Result :=
  if s.control.foyer = .unconfigured then some .notReady
  else if (s.port p).role = .counter then some .wrongRole
  else none

/-! ## SEAT_QUERY (R24, R25) -/

/-- The layout of SEAT_QUERY: handle, start index, count of 1 to 200 (R24; chapter 11.2). -/
def readSeatQuery (b : Bytes) : Option (Handle × Nat × Nat) := do
  let (h, b) ← readHandle b
  let (start, b) ← readNat 2 b
  let (n, b) ← readNat 1 b
  if 1 ≤ n ∧ n ≤ 200 then done (h, start, n) b else none

/-- R25: the status of one seat for the asking port, by the code of chapter 11.5. -/
def State.seatStatus (s : State) (p : PortNo) : SeatState → Nat
  | .free => 0
  | .house => 1
  | .held o _ _ => if o = p then 5 else 6
  | .pending t _ =>
    if s.relay.entries.any (fun e => decide (e.tag = t) && decide (e.state ≠ .lost) && decide (e.origin = p)) then 5 else 6
  | .sold _ _ => 6

/-- R23 to R25: SEAT_QUERY. -/
def seatQuery (p : PortNo) (payload : Bytes) (s : State) : Answer :=
  match s.sellerCheck p with
  | some r => s.refuse r
  | none => match readSeatQuery payload with
    | none => s.refuse .badArg
    | some (h, start, n) =>
      let sh := s.showAt h.index
      if sh.state ≠ .onSale ∧ sh.state ≠ .closed then s.refuse .notOnSale
      else if s.current h = false then s.refuse .staleShow
      else if sh.seatCount < start + n then s.refuse .outOfMap
      else (s, .ok, h.bytes ++ u16 start ++ u8 n
        ++ (List.range n).flatMap (fun j => u8 (s.seatStatus p (s.seatAt h.index (start + j)).state)) ++ u16 sh.counts.free)

/-- SEAT_QUERY (R24). -/
def execSeatQuery (port : PortNo) (tag : Byte) (payload : Bytes) (s : State) : Host.Outcome State Fault Refusal :=
  .next (s.request .seatQuery port tag (seatQuery port payload))

/-! ## HOLD (R26 to R29) -/

/-- A list of 1 to 10 seat indices with none twice, after its count byte (R26, R30). -/
def readSeatList (b : Bytes) : Option (List Nat) := do
  let (n, b) ← readNat 1 b
  let (ks, b) ← readList16 n b
  if 1 ≤ n ∧ n ≤ 10 ∧ noRepeat ks = true then done ks b else none

/-- The layout of HOLD: handle, count of 1 to 10, seat indices (chapter 11.2). -/
def readHold (b : Bytes) : Option (Handle × List Nat) := do
  let (h, b) ← readHandle b
  let ks ← readSeatList b
  some (h, ks)

/-- Reply content that lists failing seats, each with its reason (chapter 11.2). -/
def failing (xs : List (Nat × Result)) : Bytes := u8 xs.length ++ xs.flatMap (fun x => u16 x.1 ++ [x.2.code])

/-- A listed seat the basket does not already hold: not HELD with the asking port as Owner Port (R26, check 7). -/
def State.isNew (s : State) (p : PortNo) (i : ShowNo) (k : Nat) : Bool := !(s.seatAt i k).state.heldBy p

/-- R26: the whole-request checks in their order: the refusal with its content, if one fails. A port whose basket is AUTHORISING
is refused BUSY by check 5, also for the PENDING seats of its own entry (assumption 51). -/
def State.holdCheck (s : State) (p : PortNo) (h : Handle) (ks : List Nat) : Option (Result × Bytes) :=
  let sh := s.showAt h.index
  let b := s.basket p
  let beyond := ks.filter (fun k => decide (sh.seatCount ≤ k))
  if s.control.foyer ≠ .opened then some (.closed, [])
  else if sh.state ≠ .onSale then some (.notOnSale, [])
  else if s.current h = false then some (.staleShow, [])
  else if beyond ≠ [] then some (.outOfMap, failing (beyond.map (fun k => (k, .outOfMap))))
  else if b.state = .authorising then some (.busy, [])
  else if b.seatLines ≠ [] ∧ b.handle ≠ h then some (.mixedShow, [])
  else if 10 < b.seatLines.length + (ks.filter (s.isNew p h.index)).length then some (.basketFull, [])
  else none

/-- The Live base price of a seat (R66). -/
def State.basePrice (s : State) (i : ShowNo) (k : Nat) : Nat :=
  (s.prices.live.base[(s.showAt i).priceBand])[(s.seatAt i k).zone]

/-- R27: the reason a listed seat fails check 8 or check 9, if it does. -/
def State.holdReason (s : State) (p : PortNo) (i : ShowNo) (k : Nat) : Option Result :=
  if s.basePrice i k = notSold then some .notOnSale
  else match (s.seatAt i k).state with
    | .free => none
    | .house => if (s.port p).role = .boxOffice then none else some .houseOnly
    | .held o _ _ => if o = p then none else some .taken
    | .pending _ _ => some .taken
    | .sold _ _ => some .taken

/-- The failing seats of a HOLD in list order (R27). -/
def State.holdFailures (s : State) (p : PortNo) (i : ShowNo) (ks : List Nat) : List (Nat × Result) :=
  ks.filterMap (fun k => (s.holdReason p i k).map (fun r => (k, r)))

/-- Seats become HELD by a port under a lease, House Origin set where they were HOUSE (R7, R28, R33). -/
def State.takeSeats (s : State) (p : PortNo) (i : ShowNo) (ks : List Nat) : State :=
  ks.foldl (fun s k => s.setSeatState i k ((s.seatAt i k).state.taken p s.seats.leaseTime)) s

/-- The Lease Remaining of a seat; 0 where it is not HELD. -/
def SeatState.lease : SeatState → Nat
  | .held _ l _ => l
  | _ => 0

/-- The content of HOLD's OK: the basket's seat-line count, then each listed seat with NEW or ALREADY and its lease (R28, R29;
chapter 11.2). -/
def State.holdContent (s : State) (p : PortNo) (i : ShowNo) (ks new : List Nat) : Bytes :=
  u8 (s.basket p).seatLines.length
    ++ ks.flatMap (fun k => u16 k ++ [(if new.contains k then Result.new else Result.already).code]
        ++ u16 (s.seatAt i k).state.lease)

/-- R28: the effect of a HOLD that newly holds the seats given. -/
def State.holdSeats (s : State) (p : PortNo) (h : Handle) (new : List Nat) : State :=
  let b := s.basket p
  let b := { b with
    handle := if b.seatLines.isEmpty then h else b.handle
    seatLines := b.seatLines ++ new.map (fun k => ({ seat := k, ticketType := 0 } : SeatLine)) }
  (s.takeSeats p h.index new).setBasket p (b.edited (.hold h new))

/-- R23, R26 to R29: HOLD. -/
def hold (p : PortNo) (payload : Bytes) (s : State) : Answer :=
  match s.sellerCheck p with
  | some r => s.refuse r
  | none => match readHold payload with
    | none => s.refuse .badArg
    | some (h, ks) => match s.holdCheck p h ks with
      | some (r, content) => s.refuse r content
      | none => match s.holdFailures p h.index ks with
        | (k, r) :: rest => s.refuse r (failing ((k, r) :: rest))
        | [] =>
          let new := ks.filter (s.isNew p h.index)
          let s := if new = [] then s else s.holdSeats p h new
          (s, .ok, s.holdContent p h.index ks new)

/-- HOLD (R26). -/
def execHold (port : PortNo) (tag : Byte) (payload : Bytes) (s : State) : Host.Outcome State Fault Refusal :=
  .next (s.request .hold port tag (hold port payload))

/-! ## RELEASE (R30, R31) -/

/-- The content of RELEASE's OK and NOT_HELD: the seat-line count, then each listed index with its class (chapter 11.2). -/
def releaseContent (b : Basket) (ks released : List Nat) : Bytes :=
  u8 b.seatLines.length
    ++ ks.flatMap (fun k => u16 k ++ [(if released.contains k then Result.released else Result.notHeld).code])

/-- The line a basket holds for a seat. -/
def Basket.lineOf (b : Basket) (k : Nat) : Option SeatLine := b.seatLines.find? (fun l => decide (l.seat = k))

/-- R31: the effect of a RELEASE of the seats given, each of which the basket holds a line for. The undo entry lists them in the
request's order (assumption 39). -/
def State.releaseSeats (s : State) (p : PortNo) (released : List Nat) : State :=
  let b := s.basket p
  let lines := released.filterMap b.lineOf
  let b' := { b with seatLines := b.seatLines.filter (fun l => !released.contains l.seat) }
  (s.returnSeats b.handle.index released).setBasket p (b'.edited (.release b.handle lines))

/-- R23, R30, R31: RELEASE. -/
def release (p : PortNo) (payload : Bytes) (s : State) : Answer :=
  match s.sellerCheck p with
  | some r => s.refuse r
  | none => match readSeatList payload with
    | none => s.refuse .badArg
    | some ks =>
      let b := s.basket p
      if b.state = .authorising then s.refuse .busy
      else
        let released := ks.filter b.hasSeat
        if released = [] then s.refuse .notHeld (releaseContent b ks [])
        else
          let s := s.releaseSeats p released
          (s, .ok, releaseContent (s.basket p) ks released)

/-- RELEASE (R30). -/
def execRelease (port : PortNo) (tag : Byte) (payload : Bytes) (s : State) : Host.Outcome State Fault Refusal :=
  .next (s.request .release port tag (release port payload))

/-! ## Lease settings (R32) -/

/-- Two durations (R32, R143). -/
def readTwoDurations (b : Bytes) : Option (Nat × Nat) := do
  let (x, b) ← readNat 2 b
  let (y, b) ← readNat 2 b
  done (x, y) b

/-- R32: Set Lease Times. -/
def setLeaseTimes (args : Bytes) (s : State) : Answer :=
  match readTwoDurations args with
  | none => s.refuse .badArg
  | some (l, g) =>
    let l := clamp 30 900 l
    let g := clamp 15 300 g
    ({ s with seats := { s.seats with leaseTime := l, declineGrace := g } }, .ok, u16 l ++ u16 g)

/-- SET_LEASE_TIMES (R32). -/
def execSetLeaseTimes (tag : Byte) (args : Bytes) (s : State) : Host.Outcome State Fault Refusal :=
  .next (s.manage .setLeaseTimes tag (setLeaseTimes args))

/-- R32: Read Lease Times. -/
def readLeaseTimes (args : Bytes) : State → Answer :=
  noArgs args (fun s => (s, .ok, u16 s.seats.leaseTime ++ u16 s.seats.declineGrace))

/-- READ_LEASE_TIMES (R32). -/
def execReadLeaseTimes (tag : Byte) (args : Bytes) (s : State) : Host.Outcome State Fault Refusal :=
  .next (s.manage .readLeaseTimes tag (readLeaseTimes args))

/-! ## Leases and their expiry (R34 to R36) -/

/-- One second off a lease (R34). -/
def Seat.second (x : Seat) : Seat :=
  match x.state with
  | .held p l ho => { x with state := .held p (l - 1) ho }
  | _ => x

/-- R34: 1 off the Lease Remaining of every HELD seat in every show. -/
def State.countLeases (s : State) : State :=
  { s with seats := { s.seats with pool := s.seats.pool.map (fun c => (c.1, c.2.second)) } }

/-- HELD with a Lease Remaining of 0: the seat expires (R34). -/
def SeatState.lapsedLease : SeatState → Bool
  | .held _ 0 _ => true
  | _ => false

/-- R35, R36: all the HELD seats whose leases have reached 0 expire together, in one step. -/
def State.expireLeases (s : State) : State :=
  s.forSeats (fun s i k => if (s.seatAt i k).state.lapsedLease then s.loseHeld i k else s)

/-- LEASE_EXPIRY (R35): the expiry step alone; a tick takes it too (assumption 4). -/
def execLeaseExpiry (s : State) : Host.Outcome State Fault Refusal := .next (if s.control.running then s.expireLeases else s)

end Sys2Proof.Machine
end

