-- ==== Sys2Proof/Machine/Baskets.lean ====
section
/-! DEFINITION. Chapter 3: the edits of a basket, UNDO and CANCEL. -/

namespace Sys2Proof.Machine

/-! ## What basket requests share (R45 to R47) -/

/-- A refusal after the form check, with the Basket Summary after any content (R45). -/
def State.basketRefuse (s : State) (p : PortNo) (r : Result) (content : Bytes := []) : Answer :=
  (s, r, content ++ (s.basket p).summary)

/-- A success: the content, then the Basket Summary taken after the effect (R45). -/
def State.basketOk (s : State) (p : PortNo) (content : Bytes := []) : Answer :=
  (s, .ok, content ++ (s.basket p).summary)

/-- R46, checks 4 and 5: CLOSED for a request not served in a CLOSED foyer, BUSY while AUTHORISING. -/
def State.basketCheck (s : State) (p : PortNo) (servedClosed : Bool) : Option Result :=
  if s.control.foyer = .closed ∧ servedClosed = false then some .closed
  else if (s.basket p).state = .authorising then some .busy
  else none

/-- R46 for a request whose payload reads as `arg`: its checks in order, then the request's own rule. -/
def basketRequest {α : Type} (p : PortNo) (servedClosed : Bool) (arg : Option α) (body : α → State → Answer) (s : State) :
    Answer :=
  match s.sellerCheck p with
  | some r => s.refuse r
  | none => match arg with
    | none => s.refuse .badArg
    | some a => match s.basketCheck p servedClosed with
      | some r => s.basketRefuse p r
      | none => body a s

/-! ## SET_TYPE (R48) -/

/-- The layout of SET_TYPE: a seat index 0–1,023 and a ticket type 0–7 (R48). -/
def readSetType (b : Bytes) : Option (Nat × Fin 8) := do
  let (k, b) ← readNat 2 b
  let (t, b) ← readNat 1 b
  let t ← toFin 8 t
  if k ≤ 1023 then done (k, t) b else none

/-- The lines with one seat's ticket type replaced, every line in its place. -/
def retype (ls : List SeatLine) (k : Nat) (t : Fin 8) : List SeatLine :=
  ls.map (fun l => if l.seat = k then { l with ticketType := t } else l)

/-- R48: SET_TYPE after R46. -/
def setTypeBody (p : PortNo) (a : Nat × Fin 8) (s : State) : Answer :=
  let b := s.basket p
  let entry := s.prices.live.types[a.2]
  match b.lineOf a.1 with
  | none => s.basketRefuse p .notHeld
  | some l =>
    if entry.valid = false then s.basketRefuse p .badType
    else if entry.boxOfficeOnly ∧ (s.port p).role ≠ .boxOffice then s.basketRefuse p .badType
    else if l.ticketType = a.2 then s.basketOk p
    else
      let b' := { b with seatLines := retype b.seatLines a.1 a.2 }
      (s.setBasket p (b'.edited (.setType a.1 l.ticketType))).basketOk p

/-- SET_TYPE (R48). -/
def execSetType (port : PortNo) (tag : Byte) (payload : Bytes) (s : State) : Host.Outcome State Fault Refusal :=
  .next (s.request .setType port tag (basketRequest port true (readSetType payload) (setTypeBody port)))

/-! ## ADD_COMBO and REMOVE_COMBO (R49, R50) -/

/-- The layout of ADD_COMBO: a combo code 0–31 (R49). -/
def readComboCode (b : Bytes) : Option (Fin 32) := do
  let (c, b) ← readNat 1 b
  let c ← toFin 32 c
  done c b

/-- R49: ADD_COMBO after R46. -/
def addComboBody (p : PortNo) (c : Fin 32) (s : State) : Answer :=
  let b := s.basket p
  if (s.prices.live.combos[c]).valid = false then s.basketRefuse p .badCombo
  else if 6 ≤ b.combos.length then s.basketRefuse p .basketFull
  else
    let b' := { b with combos := b.combos ++ [c] }
    (s.setBasket p (b'.edited (.addCombo b.combos.length))).basketOk p

/-- ADD_COMBO (R49). -/
def execAddCombo (port : PortNo) (tag : Byte) (payload : Bytes) (s : State) : Host.Outcome State Fault Refusal :=
  .next (s.request .addCombo port tag (basketRequest port false (readComboCode payload) (addComboBody port)))

/-- The layout of REMOVE_COMBO: a position 0–5 (R50). -/
def readPosition (b : Bytes) : Option Nat := do
  let (n, b) ← readNat 1 b
  if n ≤ 5 then done n b else none

/-- R50: REMOVE_COMBO after R46. -/
def removeComboBody (p : PortNo) (n : Nat) (s : State) : Answer :=
  let b := s.basket p
  match b.combos[n]? with
  | none => s.basketRefuse p .noLine
  | some c =>
    let b' := { b with combos := b.combos.eraseIdx n }
    (s.setBasket p (b'.edited (.removeCombo c n))).basketOk p

/-- REMOVE_COMBO (R50). -/
def execRemoveCombo (port : PortNo) (tag : Byte) (payload : Bytes) (s : State) : Host.Outcome State Fault Refusal :=
  .next (s.request .removeCombo port tag (basketRequest port true (readPosition payload) (removeComboBody port)))

/-! ## APPLY_CREDIT and REMOVE_CREDIT (R51, R52) -/

/-- A voucher serial 1–16,777,215 as the whole payload (R51, R52, R120). -/
def readSerial (b : Bytes) : Option Nat := do
  let (n, b) ← readNat 3 b
  if n = 0 then none else done n b

/-- R51: APPLY_CREDIT after R46. -/
def applyCreditBody (p : PortNo) (serial : Nat) (s : State) : Answer :=
  let b := s.basket p
  if b.claims.contains serial then s.basketOk p (u24 (s.valueOf serial))
  else if 2 ≤ b.claims.length then s.basketRefuse p .basketFull
  else match s.testVoucher false serial with
    | .inl (r, content) => s.basketRefuse p r content
    | .inr v =>
      let b' := { b with claims := b.claims ++ [serial] }
      ((s.changeSlot serial (Slot.claim (.port p))).setBasket p (b'.edited (.applyCredit serial))).basketOk p (u24 v.kind.value)

/-- APPLY_CREDIT (R51). -/
def execApplyCredit (port : PortNo) (tag : Byte) (payload : Bytes) (s : State) : Host.Outcome State Fault Refusal :=
  .next (s.request .applyCredit port tag (basketRequest port false (readSerial payload) (applyCreditBody port)))

/-- R52: REMOVE_CREDIT after R46. -/
def removeCreditBody (p : PortNo) (serial : Nat) (s : State) : Answer :=
  let b := s.basket p
  if b.claims.contains serial = false then s.basketRefuse p .notClaimed
  else
    let b' := { b with claims := b.claims.erase serial }
    ((s.changeSlot serial Slot.unclaim).setBasket p (b'.edited (.removeCredit serial))).basketOk p

/-- REMOVE_CREDIT (R52). -/
def execRemoveCredit (port : PortNo) (tag : Byte) (payload : Bytes) (s : State) : Host.Outcome State Fault Refusal :=
  .next (s.request .removeCredit port tag (basketRequest port true (readSerial payload) (removeCreditBody port)))

/-! ## UNDO (R54 to R58) -/

/-- A request with no fields (R54, R61, R78). -/
def readEmpty (b : Bytes) : Option Unit := done () b

/-- One item of an undo: the seat index, combo position or serial, and REVERSED, ALREADY or the reason it was skipped. -/
abbrev UndoItem := Nat × Result

/-- R55: undo of a HOLD entry. -/
def State.undoHold (s : State) (p : PortNo) (h : Handle) (seats : List Nat) : State × List UndoItem :=
  let b := s.basket p
  let mine := fun k => b.hasSeat k && decide (b.handle = h)
  let back := seats.filter mine
  let b' := { b with seatLines := b.seatLines.filter (fun l => !back.contains l.seat) }
  ((s.returnSeats h.index back).setBasket p b', seats.map (fun k => (k, if mine k then .reversed else .notHeld)))

/-- R56: the conditions on the whole entry, in order. -/
def State.undoReleaseCheck (s : State) (p : PortNo) (h : Handle) : Option Result :=
  let b := s.basket p
  if s.control.foyer ≠ .opened then some .closed
  else if (s.showAt h.index).state ≠ .onSale then some .notOnSale
  else if s.current h = false then some .staleShow
  else if b.seatLines ≠ [] ∧ b.handle ≠ h then some .mixedShow
  else none

/-- R56: what a listed seat's state and the asking port give. A seat index past the show's map names no seat (R1): such an item is
skipped OUT_OF_MAP (DESIGN CHOICE, assumption 38). -/
def State.undoReleaseSeat (s : State) (p : PortNo) (h : Handle) (k : Nat) : Result :=
  if (s.showAt h.index).seatCount ≤ k then .outOfMap
  else match (s.seatAt h.index k).state with
  | .free => if (s.basket p).seatLines.length < 10 then .reversed else .basketFull
  | .house =>
    if (s.port p).role ≠ .boxOffice then .houseOnly
    else if (s.basket p).seatLines.length < 10 then .reversed else .basketFull
  | .held o _ _ => if o = p ∧ (s.basket p).hasSeat k then .already else .taken
  | .pending _ _ => .taken
  | .sold _ _ => .taken

/-- R56: hold one listed seat again, its line after the existing lines with the recorded type. -/
def State.rehold (s : State) (p : PortNo) (h : Handle) (l : SeatLine) : State :=
  let b := s.basket p
  (s.takeSeats p h.index [l.seat]).setBasket p
    { b with handle := if b.seatLines.isEmpty then h else b.handle, seatLines := b.seatLines ++ [l] }

/-- R56: the listed seats in the entry's order. -/
def State.undoReleaseSeats (s : State) (p : PortNo) (h : Handle) : List SeatLine → State × List UndoItem
  | [] => (s, [])
  | l :: rest =>
    let r := s.undoReleaseSeat p h l.seat
    let q := (if r = .reversed then s.rehold p h l else s).undoReleaseSeats p h rest
    (q.1, (l.seat, r) :: q.2)

/-- R56: undo of a RELEASE entry. -/
def State.undoRelease (s : State) (p : PortNo) (h : Handle) (lines : List SeatLine) : State × List UndoItem :=
  match s.undoReleaseCheck p h with
  | some r => (s, lines.map (fun l => (l.seat, r)))
  | none => s.undoReleaseSeats p h lines

/-- R57: undo of a SET_TYPE entry. -/
def State.undoSetType (s : State) (p : PortNo) (k : Nat) (t : Fin 8) : State × List UndoItem :=
  let b := s.basket p
  if b.hasSeat k then (s.setBasket p { b with seatLines := retype b.seatLines k t }, [(k, .reversed)])
  else (s, [(k, .notHeld)])

/-- R57: undo of an ADD_COMBO entry. -/
def State.undoAddCombo (s : State) (p : PortNo) (n : Nat) : State × List UndoItem :=
  let b := s.basket p
  if n < b.combos.length then (s.setBasket p { b with combos := b.combos.eraseIdx n }, [(n, .reversed)])
  else (s, [(n, .noLine)])

/-- R57: undo of a REMOVE_COMBO entry. The item names the recorded position, also where fewer lines stand and the line is put
after the last one (assumption 56). -/
def State.undoRemoveCombo (s : State) (p : PortNo) (c : Fin 32) (n : Nat) : State × List UndoItem :=
  let b := s.basket p
  if s.control.foyer = .closed then (s, [(n, .closed)])
  else if 6 ≤ b.combos.length then (s, [(n, .basketFull)])
  else (s.setBasket p { b with combos := b.combos.take n ++ c :: b.combos.drop n }, [(n, .reversed)])

/-- R58: undo of an APPLY_CREDIT entry. -/
def State.undoApplyCredit (s : State) (p : PortNo) (serial : Nat) : State × List UndoItem :=
  let b := s.basket p
  if b.claims.contains serial then
    ((s.changeSlot serial Slot.unclaim).setBasket p { b with claims := b.claims.erase serial }, [(serial, .reversed)])
  else (s, [(serial, .notClaimed)])

/-- R58: undo of a REMOVE_CREDIT entry. -/
def State.undoRemoveCredit (s : State) (p : PortNo) (serial : Nat) : State × List UndoItem :=
  let b := s.basket p
  if s.control.foyer = .closed then (s, [(serial, .closed)])
  else match s.testVoucher false serial with
    | .inl (r, _) => (s, [(serial, r)])
    | .inr _ =>
      ((s.changeSlot serial (Slot.claim (.port p))).setBasket p { b with claims := b.claims ++ [serial] },
        [(serial, .reversed)])

/-- R55 to R58 by the entry's kind. -/
def State.reverse (s : State) (p : PortNo) : UndoEntry → State × List UndoItem
  | .hold h seats => s.undoHold p h seats
  | .release h lines => s.undoRelease p h lines
  | .setType k t => s.undoSetType p k t
  | .addCombo n => s.undoAddCombo p n
  | .removeCombo c n => s.undoRemoveCombo p c n
  | .applyCredit n => s.undoApplyCredit p n
  | .removeCredit n => s.undoRemoveCredit p n

/-- R54: UNDO after R46. -/
def undoBody (p : PortNo) (_ : Unit) (s : State) : Answer :=
  match (s.basket p).undo with
  | [] => s.basketRefuse p .nothingToUndo
  | e :: rest =>
    let r := (s.setBasket p { s.basket p with undo := rest }).reverse p e
    let s := r.1.setBasket p (r.1.basket p).reopened
    s.basketOk p (u8 e.code ++ u8 r.2.length ++ r.2.flatMap (fun x => u24 x.1 ++ [x.2.code]))

/-- UNDO (R54). -/
def execUndo (port : PortNo) (tag : Byte) (payload : Bytes) (s : State) : Host.Outcome State Fault Refusal :=
  .next (s.request .undo port tag (basketRequest port true (readEmpty payload) (undoBody port)))

/-! ## CANCEL (R61) -/

/-- R61: CANCEL after R46. -/
def cancelBody (p : PortNo) (_ : Unit) (s : State) : Answer :=
  let b := s.basket p
  (s.voidBasket p).basketOk p (u8 b.seatLines.length ++ u8 b.claims.length)

/-- CANCEL (R61). -/
def execCancel (port : PortNo) (tag : Byte) (payload : Bytes) (s : State) : Host.Outcome State Fault Refusal :=
  .next (s.request .cancel port tag (basketRequest port true (readEmpty payload) (cancelBody port)))

end Sys2Proof.Machine
end

