-- ==== Sys2Proof/Machine/Prices.lean ====
section
/-! DEFINITION. Chapter 4: the price tables, their staging and commit, and PRICE. -/

namespace Sys2Proof.Machine

/-! ## The stage commands (R71 to R74) -/

/-- Replace the Staged copy. -/
def State.setStaged (s : State) (t : PriceTables) : State := { s with prices := { s.prices with staged := t } }

/-- The position of the first argument that is refused, arguments counted from 0 (R71; assumption 19). -/
def firstBad (ok : List Bool) : Option Nat := ok.findIdx? (fun b => !b)

/-- R71: a stage command whose arguments are each in range or not: BAD_ARG names the first that is not, else every value is
written and echoed as stored (assumption 20). -/
def State.stage (s : State) (ok : List Bool) (tables : PriceTables) (echo : Bytes) : Answer :=
  match firstBad ok with
  | some k => s.refuse .badArg (u8 k)
  | none => (s.setStaged tables, .ok, echo)

/-- A name of at most `limit` characters in the range 0x20–0x7E (R71). -/
def goodName (limit : Nat) (t : Bytes) : Bool := decide (t.length ≤ limit) && printable t

/-- A flag byte holds 0 or 1 (R204). -/
def goodFlag (n : Nat) : Bool := decide (n ≤ 1)

/-- The layout of Stage Band: band, four base prices (R72). -/
def readStageBand (b : Bytes) : Option (Nat × Nat × Nat × Nat × Nat) := do
  let (band, b) ← readNat 1 b
  let (p0, b) ← readNat 3 b
  let (p1, b) ← readNat 3 b
  let (p2, b) ← readNat 3 b
  let (p3, b) ← readNat 3 b
  done (band, p0, p1, p2, p3) b

/-- A base price, or 65,535 for NOT_SOLD (R66, R72). -/
def goodPrice (p : Nat) : Bool := decide (p ≤ 65535)

/-- R72: Stage Band. -/
def stageBand (args : Bytes) (s : State) : Answer :=
  match readStageBand args with
  | none => s.refuse .badArg
  | some (band, p0, p1, p2, p3) =>
    let t := s.prices.staged
    s.stage [decide (band < 8), goodPrice p0, goodPrice p1, goodPrice p2, goodPrice p3]
      { t with base := t.base.setIfInBounds band #v[p0, p1, p2, p3] } (u24 p0 ++ u24 p1 ++ u24 p2 ++ u24 p3)

/-- STAGE_BAND (R72). -/
def execStageBand (tag : Byte) (args : Bytes) (s : State) : Host.Outcome State Fault Refusal :=
  .next (s.manage .stageBand tag (stageBand args))

/-- The layout of Stage Ticket Type: type, factor, Valid, BOXOFFICE-only, name (R72). -/
def readStageType (b : Bytes) : Option (Nat × Nat × Nat × Nat × Bytes) := do
  let (t, b) ← readNat 1 b
  let (f, b) ← readNat 2 b
  let (valid, b) ← readNat 1 b
  let (box, b) ← readNat 1 b
  let (name, b) ← readText b
  done (t, f, valid, box, name) b

/-- A Ticket Type Table entry as a reply gives it, in the order of Stage Ticket Type. -/
def TicketType.bytes (t : TicketType) : Bytes := u16 t.factor ++ flag t.valid ++ flag t.boxOfficeOnly ++ text t.name

/-- R72: Stage Ticket Type; a factor above 2,000 is clamped. -/
def stageTicketType (args : Bytes) (s : State) : Answer :=
  match readStageType args with
  | none => s.refuse .badArg
  | some (k, f, valid, box, name) =>
    let t := s.prices.staged
    let entry : TicketType := { factor := min 2000 f, valid := decide (valid = 1), boxOfficeOnly := decide (box = 1), name := name }
    s.stage [decide (k < 8), true, goodFlag valid, goodFlag box, goodName 8 name]
      { t with types := t.types.setIfInBounds k entry } entry.bytes

/-- STAGE_TICKET_TYPE (R72). -/
def execStageTicketType (tag : Byte) (args : Bytes) (s : State) : Host.Outcome State Fault Refusal :=
  .next (s.manage .stageTicketType tag (stageTicketType args))

/-- The arguments of Stage Combo as carried (R73). -/
structure ComboFields where
  code : Nat
  price : Nat
  discount : Nat
  minSeats : Nat
  template : Nat
  name : Bytes
  valid : Nat
  deriving DecidableEq, Repr

/-- The layout of Stage Combo (R73). -/
def readStageCombo (b : Bytes) : Option ComboFields := do
  let (code, b) ← readNat 1 b
  let (price, b) ← readNat 3 b
  let (discount, b) ← readNat 2 b
  let (minSeats, b) ← readNat 1 b
  let (template, b) ← readNat 1 b
  let (name, b) ← readText b
  let (valid, b) ← readNat 1 b
  done { code := code, price := price, discount := discount, minSeats := minSeats, template := template, name := name,
         valid := valid } b

/-- A Combo Table entry as a reply gives it, in the order of Stage Combo. -/
def Combo.bytes (c : Combo) : Bytes :=
  u24 c.price ++ u16 c.discount ++ u8 c.minSeats ++ u8 c.template.val ++ text c.name ++ flag c.valid

/-- R73: Stage Combo; a discount above 1,000 is clamped. -/
def stageCombo (args : Bytes) (s : State) : Answer :=
  match readStageCombo args with
  | none => s.refuse .badArg
  | some f =>
    let t := s.prices.staged
    let entry : Combo :=
      { price := f.price, discount := min 1000 f.discount, minSeats := f.minSeats, template := Fin.ofNat 32 f.template,
        name := f.name, valid := decide (f.valid = 1) }
    s.stage [decide (f.code < 32), goodPrice f.price, true, decide (f.minSeats ≤ 10), decide (f.template < 32),
        goodName 16 f.name, goodFlag f.valid]
      { t with combos := t.combos.setIfInBounds f.code entry } entry.bytes

/-- STAGE_COMBO (R73). -/
def execStageCombo (tag : Byte) (args : Bytes) (s : State) : Host.Outcome State Fault Refusal :=
  .next (s.manage .stageCombo tag (stageCombo args))

/-- R74: Stage Tax; each rate above 5,000 is clamped. -/
def stageTax (args : Bytes) (s : State) : Answer :=
  match readTwoDurations args with
  | none => s.refuse .badArg
  | some (rt, rk) =>
    let rt := min 5000 rt
    let rk := min 5000 rk
    s.stage [] { s.prices.staged with ticketRate := rt, snackRate := rk } (u16 rt ++ u16 rk)

/-- STAGE_TAX (R74). -/
def execStageTax (tag : Byte) (args : Bytes) (s : State) : Host.Outcome State Fault Refusal :=
  .next (s.manage .stageTax tag (stageTax args))

/-- The layout of Stage Ceiling: C in a 24-bit field (R74). -/
def readCeiling (b : Bytes) : Option Nat := do
  let (c, b) ← readNat 3 b
  done c b

/-- R74: Stage Ceiling; a C of 0 is refused. -/
def stageCeiling (args : Bytes) (s : State) : Answer :=
  match readCeiling args with
  | none => s.refuse .badArg
  | some c => s.stage [decide (0 < c)] { s.prices.staged with ceiling := c } (u24 c)

/-- STAGE_CEILING (R74). -/
def execStageCeiling (tag : Byte) (args : Bytes) (s : State) : Host.Outcome State Fault Refusal :=
  .next (s.manage .stageCeiling tag (stageCeiling args))

/-! ## Reload Staged, Read Prices, Commit Prices (R75, R76) -/

/-- R75: Reload Staged. -/
def reloadStaged (args : Bytes) : State → Answer := noArgs args (fun s => (s.setStaged s.prices.live, .ok, []))

/-- RELOAD_STAGED (R75). -/
def execReloadStaged (tag : Byte) (args : Bytes) (s : State) : Host.Outcome State Fault Refusal :=
  .next (s.manage .reloadStaged tag (reloadStaged args))

/-- A section of Read Prices (R75). -/
inductive PriceSection where
  | bands | types
  | combos (first count : Nat)
  | rates
  deriving DecidableEq, Repr

/-- The layout of Read Prices: copy (clear for LIVE), section, and for COMBOS a first code and a count (R75; chapter 11.5). -/
def readPricesArgs (b : Bytes) : Option (Bool × PriceSection) := do
  let (staged, b) ← readFlag b
  let (k, b) ← readNat 1 b
  match k with
  | 0 => done (staged, .bands) b
  | 1 => done (staged, .types) b
  | 2 => do
    let (first, b) ← readNat 1 b
    let (n, b) ← readNat 1 b
    done (staged, .combos first n) b
  | 3 => done (staged, .rates) b
  | _ => none

/-- R75: the entries of a section. -/
def PriceTables.section (t : PriceTables) : PriceSection → Bytes
  | .bands => t.base.toList.flatMap (fun row => row.toList.flatMap u24)
  | .types => t.types.toList.flatMap TicketType.bytes
  | .combos first n => ((t.combos.toList.drop first).take n).flatMap Combo.bytes
  | .rates => u16 t.ticketRate ++ u16 t.snackRate ++ u24 t.ceiling

/-- R75: the bounds of a section. -/
def PriceSection.inRange : PriceSection → Bool
  | .combos first n => decide (first < 32 ∧ 1 ≤ n ∧ n ≤ 8 ∧ first + n ≤ 32)
  | _ => true

/-- What every Read Prices reply gives, a refusal too: the Price Generation and the Committed flag (R75, R205). -/
def State.priceState (s : State) : Bytes := u8 s.prices.generation ++ flag s.prices.committed

/-- R75: Read Prices (assumption 22). -/
def readPrices (args : Bytes) (s : State) : Answer :=
  match readPricesArgs args with
  | none => s.refuse .badArg s.priceState
  | some (staged, sec) =>
    if sec.inRange = false then s.refuse .badArg s.priceState
    else (s, .ok, (if staged then s.prices.staged else s.prices.live).section sec ++ s.priceState)

/-- READ_PRICES (R75). -/
def execReadPrices (tag : Byte) (args : Bytes) (s : State) : Host.Outcome State Fault Refusal :=
  .next (s.manage .readPrices tag (readPrices args))

/-- R76: the Live copy takes the Staged one, the generation advances modulo 256 and the Committed flag is set. -/
def PriceUnit.commit (u : PriceUnit) : PriceUnit :=
  { live := u.staged, staged := u.staged, generation := (u.generation + 1) % 256, committed := true }

/-- R76: Commit Prices. -/
def commitPrices (args : Bytes) : State → Answer :=
  noArgs args (fun s => ({ s with prices := s.prices.commit }, .ok, u8 s.prices.commit.generation))

/-- COMMIT_PRICES (R76). -/
def execCommitPrices (tag : Byte) (args : Bytes) (s : State) : Host.Outcome State Fault Refusal :=
  .next (s.manage .commitPrices tag (commitPrices args))

/-! ## The computation (R82 to R87) -/

/-- R82: division rounding half up. -/
def roundDiv (x d : Nat) : Nat := (2 * x + d) / (2 * d)

/-- R82: the amount of a seat line. -/
def seatAmount (base factor surcharge : Nat) : Nat := roundDiv (base * factor) 1000 + surcharge

/-- R83: the discount applies. -/
def Combo.discounted (c : Combo) (n : Nat) : Bool := decide (0 < c.minSeats ∧ c.minSeats ≤ n)

/-- R83: the amount of a combo line in a basket of `n` seat lines. -/
def Combo.amount (c : Combo) (n : Nat) : Nat :=
  if c.discounted n then c.price - roundDiv (c.price * c.discount) 1000 else c.price

/-- R86: an inclusive tax portion of an amount due. -/
def taxPortion (due rate : Nat) : Nat := roundDiv (due * rate) (10000 + rate)

/-- R82, R83: the priced lines. -/
def State.pricedSeats (s : State) (b : Basket) : List PricedLine :=
  b.seatLines.map (fun l =>
    { seat := l.seat, ticketType := l.ticketType,
      amount := seatAmount (s.basePrice b.handle.index l.seat) (s.prices.live.types[l.ticketType]).factor
        (s.showAt b.handle.index).surcharge })

/-- R83: the priced combo lines. -/
def State.pricedCombos (s : State) (b : Basket) : List PricedCombo :=
  b.combos.map (fun c =>
    { code := c, discounted := (s.prices.live.combos[c]).discounted b.seatLines.length,
      amount := (s.prices.live.combos[c]).amount b.seatLines.length })

/-- R84 to R87: the amounts of a basket, from its line amounts, the value of its claims and the Live copy. -/
def PriceUnit.amounts (u : PriceUnit) (seats : List PricedLine) (combos : List PricedCombo) (v : Nat) : Snapshot :=
  let t := (seats.map (·.amount)).sum
  let k := (combos.map (·.amount)).sum
  let t' := t - v
  let r := v - t
  let k' := k - r
  { generation := u.generation
    seats := seats
    combos := combos
    ticketPortion := t
    snackPortion := k
    gross := t + k
    creditValue := v
    creditsApplied := (t + k) - (t' + k')
    creditUnused := r - k
    ticketDue := t'
    snackDue := k'
    net := t' + k'
    ticketTax := taxPortion t' u.live.ticketRate
    snackTax := taxPortion k' u.live.snackRate
    overLimit := overLimit (t' + k') u.live.ceiling }

/-- R80, R82 to R87: the snapshot of a basket. -/
def State.snapshotOf (s : State) (b : Basket) : Snapshot :=
  s.prices.amounts (s.pricedSeats b) (s.pricedCombos b) (b.claims.map s.valueOf).sum

/-! ## PRICE (R78 to R81) -/

/-- The Priced Snapshot in a reply (chapter 11.2, PRICE, orders 1 to 5). -/
def Snapshot.bytes (x : Snapshot) : Bytes :=
  u8 x.generation
    ++ (u8 x.seats.length ++ x.seats.flatMap (fun l => u16 l.seat ++ u8 l.ticketType.val ++ u24 l.amount))
    ++ (u8 x.combos.length ++ x.combos.flatMap (fun c => u8 c.code.val ++ flag c.discounted ++ u24 c.amount))
    ++ (u24 x.ticketPortion ++ u24 x.snackPortion ++ u24 x.gross ++ u24 x.creditValue ++ u24 x.creditsApplied
      ++ u24 x.creditUnused ++ u24 x.ticketDue ++ u24 x.snackDue ++ u24 x.net ++ u24 x.ticketTax ++ u24 x.snackTax)
    ++ flag x.overLimit

/-- R79: the reason a seat line fails, if it does. -/
def State.seatLineReason (s : State) (p : PortNo) (i : ShowNo) (l : SeatLine) : Option Result :=
  if s.basePrice i l.seat = notSold then some .notOnSale
  else if (s.prices.live.types[l.ticketType]).valid = false then some .badType
  else if (s.prices.live.types[l.ticketType]).boxOfficeOnly ∧ (s.port p).role ≠ .boxOffice then some .badType
  else none

/-- R79: the failing seat lines, by kind byte 1, seat index and reason. -/
def State.failingSeats (s : State) (p : PortNo) (b : Basket) : List (Nat × Nat × Result) :=
  b.seatLines.filterMap (fun l => (s.seatLineReason p b.handle.index l).map (fun r => (1, l.seat, r)))

/-- R79: the failing combo lines, by kind byte 2, position and reason. -/
def State.failingCombos (s : State) (b : Basket) : List (Nat × Nat × Result) :=
  b.combos.zipIdx.filterMap (fun x => if (s.prices.live.combos[x.1]).valid then none else some (2, x.2, .badCombo))

/-- The content of a PRICE refused for failing lines (chapter 11.2). -/
def failingLines (xs : List (Nat × Nat × Result)) : Bytes :=
  u8 xs.length ++ xs.flatMap (fun x => u8 x.1 ++ u16 x.2.1 ++ [x.2.2.code])

/-- R78, checks 4 to 6. -/
def State.priceCheck (s : State) (p : PortNo) : Option Result :=
  if s.control.foyer = .closed then some .closed
  else if (s.basket p).state = .authorising then some .busy
  else if (s.basket p).seatLines = [] then some .emptyBasket
  else none

/-- R80: the effect of a PRICE that succeeds. -/
def State.priceBasket (s : State) (p : PortNo) : State :=
  let b := s.basket p
  s.setBasket p { b with state := .priced, lapsed := false, snapshot := some (s.snapshotOf b) }

/-- R78 to R81: PRICE. -/
def price (p : PortNo) (payload : Bytes) (s : State) : Answer :=
  match s.sellerCheck p with
  | some r => s.refuse r
  | none => if payload ≠ [] then s.refuse .badArg
    else match s.priceCheck p with
      | some r => s.refuse r
      | none =>
        let b := s.basket p
        match s.failingSeats p b ++ s.failingCombos b with
        | (k, n, r) :: rest => s.refuse r (failingLines ((k, n, r) :: rest))
        | [] => (s.priceBasket p, .ok, (s.snapshotOf b).bytes ++ u8 b.undo.length)

/-- PRICE (R78). -/
def execPrice (port : PortNo) (tag : Byte) (payload : Bytes) (s : State) : Host.Outcome State Fault Refusal :=
  .next (s.request .price port tag (price port payload))

end Sys2Proof.Machine
end

