-- ==== Sys2Proof/Machine/Templates.lean ====
section
/-! DEFINITION. Reading the Template Store and the Site Record, the template header (R157), rendering (R136 to R138), the
field values (R137) and the proof values (R152). -/

namespace Sys2Proof.Machine

/-! ## Stored bytes -/

/-- What an unlisted byte of the store reads as (R156, R168). -/
def TemplateStore.unlisted (st : TemplateStore) (a : Nat) : Byte :=
  match toFin 32 (a / 4096) with
  | none => 0xFF
  | some k => match st.fill[k] with
    | .erased => 0xFF
    | .undefined n => Config.undefinedByte n a

/-- A stored byte. -/
def TemplateStore.byte (st : TemplateStore) (a : Nat) : Byte := Sparse.get st.unlisted st.cells a

/-- `n` stored bytes from an address on. -/
def TemplateStore.bytes (st : TemplateStore) (a n : Nat) : Bytes := (List.range n).map (fun i => st.byte (a + i))

/-- The first address of a sector (R156). -/
def sectorBase (k : SectorNo) : Nat := 4096 * k.val

/-- An unprogrammed byte of the Site Record (R156). -/
def erasedByte (_ : Nat) : Byte := 0xFF

/-- `n` bytes of the Site Record from an offset on (chapter 11.4). -/
def TemplateStore.site (st : TemplateStore) (a n : Nat) : Bytes :=
  (List.range n).map (fun i => Sparse.get erasedByte st.siteRecord (a + i))

/-- Site Number (chapter 11.4). -/
def TemplateStore.siteNumber (st : TemplateStore) : Nat := beNat (st.site 0 2)
/-- Currency Exponent (chapter 11.4). -/
def TemplateStore.exponent (st : TemplateStore) : Nat := beNat (st.site 2 1)
/-- Ticket Serial Prefix (chapter 11.4). -/
def TemplateStore.serialPrefix (st : TemplateStore) : Bytes := st.site 3 4
/-- Site Name (chapter 11.4). -/
def TemplateStore.siteName (st : TemplateStore) : Bytes := st.site 7 32

/-! ## The template header (R135, R157) -/

/-- The kinds of template (R157, chapter 11.4). -/
inductive TemplateKind where
  | ticket | voucher
  deriving DecidableEq, Repr

/-- Template kind codes (chapter 11.4). -/
def TemplateKind.code : TemplateKind → Nat
  | .ticket => 1 | .voucher => 2

/-- The first failing check of a header: also the proof header result (R151, chapter 11.5). -/
inductive HeaderFault where
  | badKind | badLength | badCheck
  deriving DecidableEq, Repr

/-- Proof header result codes (chapter 11.5). -/
def HeaderFault.code : HeaderFault → Nat
  | .badKind => 1 | .badLength => 2 | .badCheck => 3

/-- A sector's Kind; an UNSETTLED sector is given as one whose Kind is no kind (R157). -/
def TemplateStore.kindOf (st : TemplateStore) (k : SectorNo) : Option TemplateKind :=
  if st.unsettled[k] then none
  else if st.byte (sectorBase k) = 0x01 then some .ticket
  else if st.byte (sectorBase k) = 0x02 then some .voucher
  else none

/-- A sector's Body Length (R157, chapter 11.4). -/
def TemplateStore.bodyLength (st : TemplateStore) (k : SectorNo) : Nat := beNat (st.bytes (sectorBase k + 1) 2)
/-- A sector's Body Check (R157, chapter 11.4). -/
def TemplateStore.bodyCheck (st : TemplateStore) (k : SectorNo) : Bytes := st.bytes (sectorBase k + 3) 2
/-- The first Body Length bytes of a sector's body (R157). -/
def TemplateStore.body (st : TemplateStore) (k : SectorNo) : Bytes := st.bytes (sectorBase k + 16) (st.bodyLength k)

/-- The three header checks in their order, for a document of a kind that `accept` admits (R135, R151). -/
def TemplateStore.readTemplate (st : TemplateStore) (k : SectorNo) (accept : TemplateKind → Bool) :
    HeaderFault ⊕ (TemplateKind × Bytes) :=
  match st.kindOf k with
  | none => .inl .badKind
  | some kind =>
    if accept kind = false then .inl .badKind
    else if st.bodyLength k < 1 ∨ 4080 < st.bodyLength k then .inl .badLength
    else if checkBytes (st.body k) ≠ st.bodyCheck k then .inl .badCheck
    else .inr (kind, st.body k)

/-! ## Rendering (R136 to R138) -/

/-- Decimal digits of a number, without leading zeros (R137). `fuel` bounds the digits. -/
def decimalFuel : Nat → Nat → Bytes
  | 0, _ => []
  | fuel + 1, n => (if n < 10 then [] else decimalFuel fuel (n / 10)) ++ [BitVec.ofNat 8 (48 + n % 10)]

/-- A number in decimal (R137). -/
def decimal (n : Nat) : Bytes := decimalFuel (n + 1) n

/-- Two decimal digits (R137, field 9). -/
def twoDigits (n : Nat) : Bytes := [BitVec.ofNat 8 (48 + n / 10 % 10), BitVec.ofNat 8 (48 + n % 10)]

/-- Hours, a colon and minutes of a time of day; seconds are dropped (R137, field 9). -/
def clockText (t : Nat) : Bytes := twoDigits (t / 3600) ++ [0x3A] ++ twoDigits (t / 60 % 60)

/-- The character "?" (R136). -/
def question : Bytes := [0x3F]

/-- What an escape and the byte after it render as (R136). -/
def renderPair (field : Nat → Bytes) (c : Byte) : Bytes :=
  if 1 ≤ c.toNat ∧ c.toNat ≤ 20 then (field c.toNat).take 32
  else if c = 0x1B then [0x1B]
  else question

/-- R136: copy the body, replacing escape pairs. -/
def renderBody (field : Nat → Bytes) : Bytes → Bytes
  | [] => []
  | [b] => if b = 0x1B then question else [b]
  | b :: c :: rest =>
    if b = 0x1B then renderPair field c ++ renderBody field rest else b :: renderBody field (c :: rest)

/-- R138: at most 8,192 bytes; what lies beyond is discarded and the document is marked Truncated. -/
def render (field : Nat → Bytes) (body : Bytes) : Rendered :=
  let r := renderBody field body
  { data := r.take 8192, truncated := decide (8192 < r.length) }

/-- R137: the value of a field for a document, fields 1 to 4 from the Site Record as it stands. -/
def Document.field (d : Document) (st : TemplateStore) (n : Nat) : Bytes :=
  match n with
  | 1 => decimal st.siteNumber
  | 2 => st.siteName
  | 3 => st.serialPrefix
  | 4 => decimal st.exponent
  | 5 => decimal d.sale
  | 6 => decimal d.index
  | n => match d.fields with
    | .ticket title startDay startTime _ rowLabel seatNumber typeName amount =>
      match n with
      | 7 => title
      | 8 => decimal startDay
      | 9 => clockText startTime
      | 10 => rowLabel
      | 11 => decimal seatNumber
      | 12 => typeName
      | 13 => decimal amount
      | _ => question
    | .voucher comboName serial expiryDay =>
      match n with
      | 14 => comboName
      | 15 => decimal serial
      | 16 => decimal expiryDay
      | _ => question

/-- The characters of an ASCII string. -/
def ascii (t : String) : Bytes := t.toList.map (fun c => BitVec.ofNat 8 c.toNat)

/-- R152: the proof value of a field for a template kind. -/
def proofField (kind : TemplateKind) (n : Nat) : Bytes :=
  match n with
  | 1 => ascii "65535"
  | 2 => ascii "ABCDEFGHIJKLMNOPQRSTUVWXYZ012345"
  | 3 => ascii "ZZ99"
  | 4 => ascii "2"
  | 5 => ascii "4294967295"
  | 6 => ascii "15"
  | n => match kind with
    | .ticket => match n with
      | 7 => ascii "ABCDEFGHIJKLMNOPQRSTUVWXYZ012345"
      | 8 => ascii "65535"
      | 9 => ascii "23:59"
      | 10 => ascii "AA"
      | 11 => ascii "255"
      | 12 => ascii "TYPENAME"
      | 13 => ascii "135163"
      | _ => question
    | .voucher => match n with
      | 14 => ascii "COMBONAME0123456"
      | 15 => ascii "16777215"
      | 16 => ascii "65535"
      | _ => question

/-- The template kind a document needs (R135, check 1). -/
def Document.kind (d : Document) : TemplateKind :=
  match d.fields with
  | .ticket .. => .ticket
  | .voucher .. => .voucher

end Sys2Proof.Machine
end

