-- ==== Sys2Proof/Machine/Printing.lean ====
section
/-! DEFINITION. The Print Engine's own steps: the Owed Ticket List (R146), a job's end and failure (R140, R144), fetching and
rendering (R135, R151), offering frames (R139), and the channel arbiter (R134). -/

namespace Sys2Proof.Machine

/-! ## Jobs and channels -/

/-- A job's Destination Port; absent for PROOF (R130). -/
def Job.dest (j : Job) : Option PortNo :=
  match j.work with
  | .print _ _ _ d _ => some d
  | .proof _ => none

/-- A PROOF job. -/
def Job.isProof (j : Job) : Bool :=
  match j.work with
  | .print .. => false
  | .proof _ => true

/-- A job's documents; none for PROOF. -/
def Job.docs (j : Job) : List Document :=
  match j.work with
  | .print _ _ _ _ ds => ds
  | .proof _ => []

/-- The template sectors of a job: every document's, or the one to be proved (R160, check 5). -/
def Job.sectors (j : Job) : List SectorNo :=
  match j.work with
  | .print _ _ _ _ ds => ds.map (·.template)
  | .proof k => [k]

/-- The document being printed (R130, Next Position). -/
def Job.current (j : Job) : Option Document := j.docs[j.next]?

/-- A channel. -/
def State.channel (s : State) (c : ChannelNo) : Channel := s.print.channels[c]
/-- Replace a channel. -/
def State.setChannel (s : State) (c : ChannelNo) (x : Channel) : State :=
  { s with print := { s.print with channels := s.print.channels.set c x } }
/-- Replace the Print Queue. -/
def State.setJobs (s : State) (js : List Job) : State := { s with print := { s.print with jobs := js } }

/-- A job of the Print Queue by number. -/
def State.jobNumbered (s : State) (n : Nat) : Option Job := s.print.jobs.find? (fun j => decide (j.number = n))
/-- The job a channel serves. -/
def State.jobOn (s : State) (c : ChannelNo) : Option Job :=
  match (s.channel c).job with
  | some n => s.jobNumbered n
  | none => none
/-- Replace a job of the Print Queue, its place kept. -/
def State.changeJob (s : State) (n : Nat) (f : Job → Job) : State :=
  s.setJobs (s.print.jobs.map (fun j => if j.number = n then f j else j))
/-- A job leaves the Print Queue. -/
def State.dropJob (s : State) (n : Nat) : State := s.setJobs (s.print.jobs.filter (fun j => decide (j.number ≠ n)))

/-- The channel whose RUNNING job has this port as Destination Port (R141). -/
def State.channelFor (s : State) (p : PortNo) : Option ChannelNo :=
  allChannels.find? (fun c => match s.jobOn c with
    | some j => decide (j.dest = some p)
    | none => false)

/-- The next free Job Number from the counter on (R130): one that no job in the queue carries. -/
def freeJobNumber (js : List Job) : Nat → Nat → Nat
  | 0, n => n
  | fuel + 1, n => if js.any (fun j => decide (j.number = n)) then freeJobNumber js fuel (if n < 65535 then n + 1 else 1) else n

/-- A new job joins the end of the queue QUEUED at position 0, with the next Job Number (R130, R132). The counter then stands one
past the number taken (assumption 41). -/
def State.addJob (s : State) (w : JobWork) : State × Nat :=
  let n := freeJobNumber s.print.jobs (s.print.jobs.length + 1) s.print.jobCounter
  ({ s with print := { s.print with
      jobs := s.print.jobs ++ [{ number := n, work := w, next := 0, channel := none }]
      jobCounter := if n < 65535 then n + 1 else 1 } }, n)

/-! ## Owed documents (R146) -/

/-- The list has room for one more entry (R146). -/
def State.owedRoom (s : State) : Bool := decide (s.print.owed.length < 64)

/-- R146: an entry is added, or its documents are discarded when the list holds 64; OWED_ADDED either way. -/
def State.owe (s : State) (e : OwedEntry) : State :=
  let content := u32 e.sale ++ u8 e.origin.val ++ u8 e.reason.code ++ u8 e.docs.length ++ flag (!s.owedRoom)
  (if s.owedRoom then { s with print := { s.print with owed := s.print.owed ++ [e] } } else s).raise .owedAdded content

/-! ## Frames to the printer (R139) -/

/-- R139: frame `k` of a rendered document. -/
def printFrame (job : Nat) (doc : Nat) (r : Rendered) (k : Nat) : PrintOffer :=
  let last := decide (r.data.length ≤ 232 * (k + 1))
  let markers := (if last then 1 else 0) + (if last && r.truncated then 2 else 0)
  { frame := { cls := printDataClass, tag := 0,
               payload := u16 job ++ u8 doc ++ u8 k ++ u8 markers ++ (r.data.drop (232 * k)).take 232 }
    last := last
    current := true }

/-- A channel in SEND offers its next frame to its port's transmit arbiter, one at a time (R139, R182). -/
def State.offer (s : State) (c : ChannelNo) : State :=
  match (s.channel c).state, s.jobOn c, (s.channel c).buffer with
  | .send, some j, some r =>
    match j.dest, j.current with
    | some p, some d =>
      if (s.port p).printOffer.isNone then
        s.setPort p { s.port p with printOffer := some (printFrame j.number d.index r (s.channel c).nextFrame) }
      else s
    | _, _ => s
  | _, _, _ => s

/-- The channel enters SEND with next frame index 0 (R135, R142). -/
def State.enterSend (s : State) (c : ChannelNo) (r : Rendered) : State :=
  (s.setChannel c { s.channel c with state := .send, buffer := some r, nextFrame := 0 }).offer c

/-- The channel no longer waits for the frame it has handed to the port's arbiter; the frame is still sent (R141;
assumption 24). -/
def State.releaseOffer (s : State) (p : PortNo) : State :=
  s.setPort p { s.port p with printOffer := (s.port p).printOffer.map (fun o => { o with current := false }) }

/-! ## The end of a job (R133, R140, R144) -/

/-- The job leaves the queue and its channel becomes IDLE, its buffer and wait counter released. -/
def State.endJob (s : State) (c : ChannelNo) (n : Nat) : State := (s.dropJob n).setChannel c Channel.idle

/-- R144: the job on a channel fails. PRINT_FAILED joins the Notice Queue before OWED_ADDED. -/
def State.failJob (s : State) (c : ChannelNo) (why : FailReason) : State :=
  match s.jobOn c with
  | none => s
  | some j => match j.work with
    | .proof _ => s
    | .print _ sale origin dest docs =>
      let index := match j.current with
        | some d => d.index
        | none => 0
      let sector := match j.current with
        | some d => d.template.val
        | none => 0
      let s := s.raise .printFailed (u16 j.number ++ u32 sale ++ u8 dest.val ++ u8 why.code ++ u8 index
        ++ u8 (if why = .templateBad then sector else 255) ++ flag s.owedRoom)
      let s := s.owe { sale := sale, origin := origin, reason := .printFailed, docs := docs.drop j.next }
      (s.releaseOffer dest).endJob c j.number

/-- R151: a PROOF job completes in the step of its read. -/
def State.completeProof (s : State) (c : ChannelNo) (j : Job) (k : SectorNo) : State :=
  let content := match s.store.readTemplate k (fun _ => true) with
    | .inl f => u8 f.code ++ u8 0 ++ u16 0 ++ flag false ++ u16 0
    | .inr (kind, body) =>
      let r := render (proofField kind) body
      u8 0 ++ u8 kind.code ++ u16 r.data.length ++ flag r.truncated ++ checkBytes r.data
  (s.raise .proofDone (u16 j.number ++ u8 k.val ++ content)).endJob c j.number

/-- R135: the channel reads the current document's sector and renders it into SEND, or the job fails TEMPLATE_BAD. A job with
no document at its position has nothing left to print and ends (assumption 30). -/
def State.readSector (s : State) (c : ChannelNo) : State :=
  match s.jobOn c with
  | none => s
  | some j => match j.work with
    | .proof k => s.completeProof c j k
    | .print .. => match j.current with
      | none => s.endJob c j.number
      | some d => match s.store.readTemplate d.template (fun k => decide (k = d.kind)) with
        | .inl _ => s.failJob c .templateBad
        | .inr (_, body) => s.enterSend c (render (d.field s.store) body)

/-- R135: the channel enters FETCH, and reads at once unless the store is BUSY. While it waits its next frame index is 0
(assumption 53). -/
def State.enterFetch (s : State) (c : ChannelNo) : State :=
  let s := s.setChannel c { s.channel c with state := .fetch, buffer := none, nextFrame := 0 }
  if s.store.operation.isSome then s else s.readSector c

/-! ## The channel arbiter (R134) -/

/-- R134: a QUEUED job is eligible when it is a PROOF job, or its port is ACTIVE and no RUNNING job has the same port. -/
def State.eligible (s : State) (j : Job) : Bool :=
  j.channel.isNone && match j.dest with
    | none => true
    | some p => decide ((s.port p).state = .active)
        && !s.print.jobs.any (fun k => k.channel.isSome && decide (k.dest = some p))

/-- The Print Level that ranks a job. -/
def State.levelOf (s : State) (j : Job) : Nat :=
  match j.dest with
  | some p => (s.port p).printLevel.val
  | none => 0

/-- The first job of the highest level. -/
def State.highest (s : State) : List Job → Option Job
  | [] => none
  | j :: rest => match s.highest rest with
    | some k => if s.levelOf j < s.levelOf k then some k else some j
    | none => some j

/-- R134: the job an IDLE channel takes: the oldest eligible PROOF, else the oldest of the highest Print Level. -/
def State.pickJob (s : State) : Option Job :=
  let es := s.print.jobs.filter s.eligible
  match es.find? Job.isProof with
  | some j => some j
  | none => s.highest es

/-- The lowest-numbered IDLE channel. -/
def State.idleChannel (s : State) : Option ChannelNo := allChannels.find? (fun c => decide ((s.channel c).state = .idle))

/-- The channel takes the job: RUNNING with Next Position unchanged, and FETCH. -/
def State.takeJob (s : State) (c : ChannelNo) (j : Job) : State :=
  let s := s.changeJob j.number (fun k => { k with channel := some c })
  (s.setChannel c { Channel.idle with state := .fetch, job := some j.number }).enterFetch c

/-- Channels take jobs, lowest IDLE channel first, while one is IDLE and a job is eligible. -/
def State.assign : Nat → State → State
  | 0, s => s
  | fuel + 1, s => match s.idleChannel, s.pickJob with
    | some c, some j => State.assign fuel (s.takeJob c j)
    | _, _ => s

/-- R134, in the step that made a channel IDLE or a job eligible. Each job of the queue is taken at most once in it. -/
def State.runArbiter (s : State) : State := State.assign s.print.jobs.length s

end Sys2Proof.Machine
end

