-- ==== Sys2Proof/Machine/Sales.lean ====
section
/-! DEFINITION. The completion of a sale (R100), the issue of vouchers (R115, R116), the counters (R92, R107), the documents
of a sale (R131, R132) and the ends of an authorisation that the Payment Relay's commands share (R94, R97 to R99, R103,
R104). -/

namespace Sys2Proof.Machine

/-! ## Vouchers (R115, R116) -/

/-- The serial after this one; 16,777,215 is followed by 1 (R115). -/
def nextSerial (n : Nat) : Nat := if n < 16777215 then n + 1 else 1

/-- R115, step 2: the first candidate that is not in the Serial Index. -/
def State.freeSerial (s : State) : Nat → Nat → Nat
  | 0, n => n
  | fuel + 1, n => if (s.indexed n).isSome then s.freeSerial fuel (nextSerial n) else n

/-- The lowest-numbered FREE slot from `n` on (R116, R122). -/
def State.lowestFree (s : State) : Nat → Nat → Nat
  | 0, n => n
  | fuel + 1, n => if s.slotAt n = .free then n else s.lowestFree fuel (n + 1)

/-- Issue one voucher: the lowest FREE slot, the next serial, the pair in the Serial Index (R114, R115, R116, R122). Answers
the serial drawn. -/
def State.issue (s : State) (kind : VoucherKind) (sale expiry : Nat) : State × Nat :=
  let start := if s.vouchers.serialCounter = 0 then 1 else s.vouchers.serialCounter
  let serial := s.freeSerial (s.vouchers.index.length + 1) start
  let n := s.lowestFree 4096 0
  let v : Voucher := { serial := serial, kind := kind, issuingSale := sale, expiryDay := expiry }
  ({ s with vouchers := { s.vouchers with
      slots := Sparse.set freeSlot s.vouchers.slots n (.issued v)
      index := Sparse.set noSlot s.vouchers.index serial (some n)
      serialCounter := nextSerial serial } }, serial)

/-- The Expiry Day of a show's snack vouchers: Start Day plus Voucher Grace Days, at most 65,535 (R116). -/
def Show.expiryDay (sh : Show) : Nat := min 65535 (sh.startDay + sh.graceDays)

/-- One snack voucher for each combo line, in order; the serials in that order (R100, step 3). -/
def State.issueSnacks (s : State) (sale expiry : Nat) : List (Fin 32) → State × List Nat
  | [] => (s, [])
  | c :: rest =>
    let r := s.issue (.snack c) sale expiry
    let q := r.1.issueSnacks sale expiry rest
    (q.1, r.2 :: q.2)

/-! ## Counters (R92, R107) -/

/-- R92: the first value from the tag counter on that no entry carries. -/
def freeTag (es : List AuthEntry) : Nat → Nat → Nat
  | 0, n => n
  | fuel + 1, n => if es.any (fun e => decide (e.tag = n)) then freeTag es fuel (if n < 65535 then n + 1 else 1) else n

/-- R107: the Sale Number a sale takes. -/
def PaymentRelay.saleNumber (r : PaymentRelay) : Nat := if r.saleCounter = 0 then 1 else r.saleCounter

/-- R107: the counter after it. -/
def nextSale (n : Nat) : Nat := if n < 4294967295 then n + 1 else 1

/-! ## Documents (R131) -/

/-- What the completion of a sale works on: an Authorisation List entry, or a basket whose Net is 0 (R100, R106). -/
structure Sale where
  origin : PortNo
  handle : Handle
  seatLines : List PricedLine
  combos : List (Fin 32)
  claims : List Nat
  net : Nat
  ticketTax : Nat
  snackTax : Nat
  reservation : Nat
  deriving DecidableEq, Repr

/-- The sale of an entry. -/
def AuthEntry.sale (e : AuthEntry) : Sale :=
  { origin := e.origin, handle := e.handle, seatLines := e.seatLines, combos := e.combos, claims := e.claims, net := e.net,
    ticketTax := e.ticketTax, snackTax := e.snackTax, reservation := e.reservation }

/-- One ticket document for each seat line, numbered from `i`, with the seat's whole fixed part (R5, R131). -/
def State.ticketDocs (s : State) (sale : Nat) (h : Handle) : Nat → List PricedLine → List Document
  | _, [] => []
  | i, l :: rest =>
    let sh := s.showAt h.index
    let seat := s.seatAt h.index l.seat
    { template := sh.ticketTemplate, index := i, sale := sale,
      fields := .ticket sh.title sh.startDay sh.startTime seat.zone seat.rowLabel seat.number
        (s.prices.live.types[l.ticketType]).name l.amount } :: s.ticketDocs sale h (i + 1) rest

/-- One voucher document for each combo line and its serial, numbered from `i` (R131). -/
def State.voucherDocs (s : State) (sale expiry : Nat) : Nat → List (Fin 32 × Nat) → List Document
  | _, [] => []
  | i, (c, serial) :: rest =>
    { template := (s.prices.live.combos[c]).template, index := i, sale := sale,
      fields := .voucher (s.prices.live.combos[c]).name serial expiry } :: s.voucherDocs sale expiry (i + 1) rest

/-- The documents of a sale: tickets in seat-line order, then vouchers in combo-line order (R131). -/
def State.saleDocs (s : State) (x : Sale) (sale : Nat) (serials : List Nat) : List Document :=
  s.ticketDocs sale x.handle 0 x.seatLines
    ++ s.voucherDocs sale (s.showAt x.handle.index).expiryDay x.seatLines.length (x.combos.zip serials)

/-! ## Completion (R100) -/

/-- R100, step 2: every seat of the sale becomes SOLD with the Sale Number and its line's ticket type. -/
def State.sellSeats (s : State) (i : ShowNo) (sale : Nat) (lines : List PricedLine) : State :=
  lines.foldl (fun s l => s.setSeatState i l.seat (.sold sale l.ticketType)) s

/-- R100, step 4: every credit voucher of the sale becomes REDEEMED with its stamp. -/
def State.redeemCredits (s : State) (p : PortNo) (serials : List Nat) : State :=
  serials.foldl (fun s n => s.changeSlot n (Slot.redeem p s.control.day s.control.seconds)) s

/-- R100, steps 1 to 5: the completion of a sale. Answers the Sale Number and the serials of the snack vouchers. -/
def State.completeSale (s : State) (x : Sale) (code : Bytes) : State × Nat × List Nat :=
  let n := s.relay.saleNumber
  let s := { s with relay := { s.relay with saleCounter := nextSale n } }
  let s := s.sellSeats x.handle.index n x.seatLines
  let r := s.issueSnacks n (s.showAt x.handle.index).expiryDay x.combos
  let s := r.1
  let s := { s with vouchers := { s.vouchers with reservation := s.vouchers.reservation - x.reservation } }
  let s := s.redeemCredits x.origin x.claims
  let s := s.raise .sale (u32 n ++ u8 x.origin.val ++ x.handle.bytes ++ u24 x.net ++ u24 x.ticketTax ++ u24 x.snackTax
    ++ text code ++ u8 x.seatLines.length ++ u8 r.2.length)
  (s, n, r.2)

/-- R132: the sale's documents become a SALE job for the origin port, or are owed QUEUE_FULL. Answers whether they are owed. -/
def State.printSale (s : State) (x : Sale) (sale : Nat) (serials : List Nat) : State × Bool :=
  let docs := s.saleDocs x sale serials
  if s.print.jobs.length < 32 then ((s.addJob (.print false sale x.origin x.origin docs)).1, false)
  else (s.owe { sale := sale, origin := x.origin, reason := .queueFull, docs := docs }, true)

/-- The content of PAY_RESULT APPROVED (chapter 11.2). -/
def approvedContent (tag sale net : Nat) (code : Bytes) (owed : Bool) (serials : List Nat) : Bytes :=
  u16 tag ++ u32 sale ++ u24 net ++ text code ++ u8 (if owed then 1 else 0) ++ u8 serials.length ++ serials.flatMap u24

/-! ## The end of an authorisation -/

/-- R94: an AUTH_REQUEST whose entry leaves ACTIVE is withdrawn; one that has started is sent whole (R186). -/
def State.withdrawRequest (s : State) (tag : Nat) : State :=
  { s with uplink := { s.uplink with
      authRequests := s.uplink.authRequests.filter (fun r => decide (r.tag ≠ tag))
      sending := s.uplink.sending.map (fun x => if x.source = .authRequest tag then { x with source := .detached } else x) } }

/-- The entry with this tag leaves the list. -/
def State.dropEntry (s : State) (tag : Nat) : State :=
  { s with relay := { s.relay with entries := s.relay.entries.eraseP (fun e => decide (e.tag = tag)) } }

/-- An entry of the list by tag. -/
def State.entryTagged (s : State) (tag : Nat) : Option AuthEntry := s.relay.entries.find? (fun e => decide (e.tag = tag))

/-- A PAY_RESULT made in the place its PAY kept, behind the replies already waiting (R88, R181); with `make` clear it is
dropped and the place is freed. Without a kept place there is no PAY to answer (assumption 30). -/
def State.answerKept (s : State) (p : PortNo) (make : Bool) (r : Result) (content : Bytes) : State :=
  match (s.port p).kept with
  | none => s
  | some tag =>
    let s := s.setPort p { s.port p with kept := none }
    if make then s.answer .pay p tag r content else s

/-- The origin port is ACTIVE. -/
def State.portActive (s : State) (p : PortNo) : Bool := decide ((s.port p).state = .active)

/-- Give back slots set aside for an entry (R117). -/
def State.freeReservation (s : State) (n : Nat) : State :=
  { s with vouchers := { s.vouchers with reservation := s.vouchers.reservation - n } }

/-- R98: APPROVED for an ACTIVE entry. -/
def State.approve (s : State) (e : AuthEntry) (code : Bytes) : State :=
  let r := s.completeSale e.sale code
  let s := (r.1.dropEntry e.tag).withdrawRequest e.tag
  let s := s.setBasket e.origin (s.basket e.origin).cleared
  let q := s.printSale e.sale r.2.1 r.2.2
  let s := q.1.answerKept e.origin (q.1.portActive e.origin) .approved
    (approvedContent e.tag r.2.1 e.net code q.2 r.2.2)
  s.runArbiter

/-- PENDING seats of a declined payment become HELD again by the origin port (R99). -/
def SeatState.reheld (p : PortNo) (lease : Nat) : SeatState → SeatState
  | .pending _ houseOrigin => .held p lease houseOrigin
  | st => st

/-- R99, R101: DECLINED or GATEWAY_FAULT for an ACTIVE entry. -/
def State.decline (s : State) (e : AuthEntry) (fault : Bool) : State :=
  let seats := e.seatLines.map (·.seat)
  let stays := s.portActive e.origin && decide ((s.port e.origin).role ≠ .counter)
  let s := ((s.dropEntry e.tag).withdrawRequest e.tag).freeReservation e.reservation
  let s :=
    if stays then
      let s := seats.foldl (fun s k =>
        s.setSeatState e.handle.index k ((s.seatAt e.handle.index k).state.reheld e.origin s.seats.declineGrace)) s
      let s := e.claims.foldl (fun s n => s.changeSlot n (Slot.claim (.port e.origin))) s
      s.setBasket e.origin { s.basket e.origin with state := .priced, undo := [], lapsed := false }
    else
      let s := s.returnSeats e.handle.index seats
      let s := s.returnClaims e.claims
      s.setBasket e.origin (s.basket e.origin).cleared
  (s.answerKept e.origin stays .declined (u16 e.tag ++ flag fault)).checkLow

/-- R101: the Gateway Hold latch is set. -/
def State.holdGateway (s : State) : State := { s with relay := { s.relay with gatewayHold := true } }

/-- LATE_RESULT (R102): outcome and Sale Number, and the source, 1 RESPONSE or 2 RECONCILE. -/
def State.raiseLate (s : State) (e : AuthEntry) (outcome sale source : Nat) : State :=
  s.raise .lateResult (u16 e.tag ++ u8 e.origin.val ++ u8 outcome ++ u32 sale ++ u8 source)

/-- R103: a late APPROVED, and Reconcile SOLD. Answers the Sale Number. -/
def State.approveLate (s : State) (e : AuthEntry) (code : Bytes) (source : Nat) : State × Nat :=
  let r := s.completeSale e.sale code
  let s := r.1.dropEntry e.tag
  let s := s.owe { sale := r.2.1, origin := e.origin, reason := .late, docs := s.saleDocs e.sale r.2.1 r.2.2 }
  (s.raiseLate e 1 r.2.1 source, r.2.1)

/-- R104: a late DECLINED or GATEWAY_FAULT, and Reconcile RELEASE. -/
def State.releaseLate (s : State) (e : AuthEntry) (source : Nat) : State :=
  let s := s.returnSeats e.handle.index (e.seatLines.map (·.seat))
  let s := s.returnClaims e.claims
  let s := (s.freeReservation e.reservation).dropEntry e.tag
  (s.raiseLate e 2 0 source).checkLow

/-- R97: one entry times out. -/
def State.timeOut (s : State) (e : AuthEntry) : State :=
  let s := { s with relay := { s.relay with
    entries := s.relay.entries.map (fun (x : AuthEntry) => if x.tag = e.tag then { x with state := .lost } else x) } }
  let s := s.setBasket e.origin (s.basket e.origin).cleared
  let s := s.answerKept e.origin (s.portActive e.origin) .unknown (u16 e.tag)
  let s := s.withdrawRequest e.tag
  s.raise .authLost (u16 e.tag ++ u8 e.origin.val ++ u24 e.net)

end Sys2Proof.Machine
end

