-- ==== Sys2Proof/Machine/Payment.lean ====
section
/-! DEFINITION. Chapter 5: PAY, the responses of the site server, the timeout of authorisations, Reconcile, and the
management commands of the Payment Relay. -/

namespace Sys2Proof.Machine

/-! ## PAY: checks (R88 to R90) -/

/-- R88, checks 1 to 5; the token is the whole payload. -/
def State.payFormCheck (s : State) (p : PortNo) (token : Bytes) : Option Result :=
  match s.sellerCheck p with
  | some r => some r
  | none =>
    if token.length = 0 ∨ 64 < token.length then some .badArg
    else if s.control.foyer = .closed then some .closed
    else if (s.basket p).state = .authorising then some .busy
    else none

/-- R89, checks 2 to 8, for a PRICED basket with its snapshot. -/
def State.payRefusal (s : State) (b : Basket) (x : Snapshot) : Option Result :=
  if x.generation ≠ s.prices.generation then some .priceChanged
  else if (s.current b.handle && decide ((s.showAt b.handle.index).state = .onSale)) = false then some .showClosed
  else if x.overLimit then some .overLimit
  else if 0 < x.net ∧ s.relay.gatewayHold = true then some .gatewayHeld
  else if 0 < x.net ∧ s.uplink.linkUp = false then some .noUplink
  else if 0 < x.net ∧ 24 ≤ s.relay.entries.length then some .authFull
  else if s.vouchers.freeSlots < s.vouchers.reservation + b.combos.length then some .voucherFull
  else none

/-- R89, check 1: the refusal of a basket that is not PRICED. -/
def Basket.notPayable (b : Basket) : Result :=
  if b.state = .building ∧ b.lapsed = true then .holdLapsed else .notPriced

/-- R90: the effect of a refusal; only PRICE_CHANGED has one. -/
def State.payRefused (s : State) (p : PortNo) (r : Result) : State :=
  if r = .priceChanged then s.setBasket p { s.basket p with state := .building, snapshot := none } else s

/-- R90: the content of a refusal; only VOUCHER_FULL has any. -/
def State.payRefusalContent (s : State) (r : Result) : Bytes :=
  if r = .voucherFull then u16 s.vouchers.available else []

/-! ## PAY: acceptance (R92 to R94) -/

/-- R92: the tag a new entry takes. -/
def PaymentRelay.nextTag (r : PaymentRelay) : Nat := freeTag r.entries (r.entries.length + 1) r.tagCounter

/-- R91: the entry of an accepted PAY. -/
def State.newEntry (s : State) (p : PortNo) (x : Snapshot) : AuthEntry :=
  let b := s.basket p
  { tag := s.relay.nextTag, state := .active s.relay.authTimeout, origin := p, handle := b.handle, seatLines := x.seats,
    combos := b.combos, claims := b.claims, net := x.net, ticketTax := x.ticketTax, snackTax := x.snackTax,
    reservation := b.combos.length }

/-- R93: a HELD seat becomes PENDING, its House Origin mark kept. -/
def SeatState.pend (tag : Nat) : SeatState → SeatState
  | .held _ _ houseOrigin => .pending tag houseOrigin
  | st => st

/-- R94: the AUTH_REQUEST of an entry (chapter 11.3). -/
def AuthEntry.request (e : AuthEntry) (exponent : Nat) (token : Bytes) : AuthRequest :=
  { tag := e.tag
    payload := u16 e.tag ++ u8 e.origin.val ++ u24 e.net ++ u24 e.ticketTax ++ u24 e.snackTax ++ u8 exponent
      ++ e.handle.bytes ++ u8 e.seatLines.length ++ u8 token.length ++ token }

/-- R93: the entry joins the list and the tag counter advances past its tag. -/
def PaymentRelay.accept (r : PaymentRelay) (e : AuthEntry) : PaymentRelay :=
  { r with entries := r.entries ++ [e], tagCounter := if e.tag < 65535 then e.tag + 1 else 1 }

/-- R93: a PAY with Net above 0 is accepted; its reply's place is kept (R88). -/
def State.acceptPay (s : State) (p : PortNo) (tag : Byte) (token : Bytes) (x : Snapshot) : State :=
  let b := s.basket p
  let e := s.newEntry p x
  let s := { s with relay := s.relay.accept e }
  let s := e.seatLines.foldl (fun s l =>
    s.setSeatState b.handle.index l.seat ((s.seatAt b.handle.index l.seat).state.pend e.tag)) s
  let s := { s with vouchers := { s.vouchers with reservation := s.vouchers.reservation + e.reservation } }
  let s := e.claims.foldl (fun s n => s.changeSlot n (Slot.claim (.tag e.tag))) s
  let s := s.setBasket p { b with state := .authorising, undo := [], lapsed := false }
  let s := s.setPort p { s.port p with kept := some tag }
  let s := { s with uplink := { s.uplink with
    authRequests := s.uplink.authRequests ++ [e.request s.store.exponent token] } }
  s.checkLow

/-- R106: the sale of a basket whose Net is 0. -/
def Basket.zeroSale (b : Basket) (p : PortNo) (x : Snapshot) : Sale :=
  { origin := p, handle := b.handle, seatLines := x.seats, combos := b.combos, claims := b.claims, net := x.net,
    ticketTax := x.ticketTax, snackTax := x.snackTax, reservation := 0 }

/-- R106: a PAY with Net 0 completes its sale at once. -/
def State.zeroTotal (s : State) (p : PortNo) (tag : Byte) (x : Snapshot) : State :=
  let sale := (s.basket p).zeroSale p x
  let r := s.completeSale sale []
  let s := r.1.setBasket p (r.1.basket p).cleared
  let q := s.printSale sale r.2.1 r.2.2
  let s := q.1.answer .pay p tag .approved (approvedContent 0 r.2.1 x.net [] q.2 r.2.2)
  s.runArbiter.checkLow

/-- R88 to R94, R106: PAY. -/
def State.pay (s : State) (p : PortNo) (tag : Byte) (token : Bytes) : State :=
  match s.payFormCheck p token with
  | some r => s.answer .pay p tag r []
  | none =>
    match (s.basket p).state, (s.basket p).snapshot with
    | .priced, some x =>
      match s.payRefusal (s.basket p) x with
      | some r => (s.payRefused p r).answer .pay p tag r (s.payRefusalContent r)
      | none => if x.net = 0 then s.zeroTotal p tag x else s.acceptPay p tag token x
    | _, _ => s.answer .pay p tag (s.basket p).notPayable []

/-- PAY (R88). -/
def execPay (port : PortNo) (tag : Byte) (payload : Bytes) (s : State) : Host.Outcome State Fault Refusal :=
  .next (s.takeRequest port (fun s => s.pay port tag payload))

/-! ## AUTH_RESPONSE (R95, R98 to R104) -/

/-- The results of an authorisation (R95). -/
inductive AuthOutcome where
  | approved | declined | gatewayFault
  deriving DecidableEq, Repr

/-- The outcome with this result byte (chapter 11.5). -/
def AuthOutcome.ofByte (b : Byte) : Option AuthOutcome :=
  if b = Result.approved.code then some .approved
  else if b = Result.declined.code then some .declined
  else if b = Result.gatewayFault.code then some .gatewayFault
  else none

/-- An approval code of 0 to 8 characters in 0x20–0x7E (R95, R105). -/
def goodCode (t : Bytes) : Bool := decide (t.length ≤ 8) && printable t

/-- R95, first test: a response of the layout of chapter 11.3, as its tag, outcome and approval code. -/
def readAuthResponse (b : Bytes) : Option (Nat × AuthOutcome × Bytes) := do
  let (tag, b) ← readNat 2 b
  let (r, b) ← readRaw 1 b
  let o ← AuthOutcome.ofByte (r.headD 0)
  let (code, b) ← readText b
  if goodCode code then done (tag, o, code) b else none

/-- R95: STRAY_RESULT with the tag and the result as received, a missing byte as 0. -/
def State.strayResult (s : State) (payload : Bytes) : State :=
  s.raise .strayResult [payload.getD 0 0, payload.getD 1 0, payload.getD 2 0]

/-- R95: a response to an entry of the list, by the entry's state and the result. -/
def State.resolve (s : State) (e : AuthEntry) (o : AuthOutcome) (code : Bytes) : State :=
  match e.state, o with
  | .active _, .approved => s.approve e code
  | .active _, .declined => s.decline e false
  | .active _, .gatewayFault => s.holdGateway.decline e true
  | .lost, .approved => (s.approveLate e code 1).1
  | .lost, .declined => s.releaseLate e 1
  | .lost, .gatewayFault => s.holdGateway.releaseLate e 1

/-- The uplink hands a frame to the Payment Relay or the Foyer Link Unit: the part runs and the foyer is not NIGHT (R95, R184,
R190, R194). -/
def State.takesUplink (s : State) : Bool := s.control.running && decide (s.control.foyer ≠ .night)

/-- R95: AUTH_RESPONSE. -/
def State.authResponse (s : State) (payload : Bytes) : State :=
  if s.takesUplink = false then s
  else match readAuthResponse payload with
    | none => s.strayResult payload
    | some (tag, o, code) => match s.entryTagged tag with
      | none => s.strayResult payload
      | some e => s.resolve e o code

/-- AUTH_RESPONSE (R95). -/
def execAuthResponse (payload : Bytes) (s : State) : Host.Outcome State Fault Refusal := .next (s.authResponse payload)

/-! ## Auth Timeout and the timeout of entries (R96, R97) -/

/-- The layout of a single duration. -/
def readDuration (b : Bytes) : Option Nat := do
  let (n, b) ← readNat 2 b
  done n b

/-- R96: Set Auth Timeout. -/
def setAuthTimeout (args : Bytes) (s : State) : Answer :=
  match readDuration args with
  | none => s.refuse .badArg
  | some n =>
    let n := clamp 10 120 n
    ({ s with relay := { s.relay with authTimeout := n } }, .ok, u16 n)

/-- SET_AUTH_TIMEOUT (R96). -/
def execSetAuthTimeout (tag : Byte) (args : Bytes) (s : State) : Host.Outcome State Fault Refusal :=
  .next (s.manage .setAuthTimeout tag (setAuthTimeout args))

/-- R96: Read Auth Timeout. -/
def readAuthTimeout (args : Bytes) : State → Answer := noArgs args (fun s => (s, .ok, u16 s.relay.authTimeout))

/-- READ_AUTH_TIMEOUT (R96). -/
def execReadAuthTimeout (tag : Byte) (args : Bytes) (s : State) : Host.Outcome State Fault Refusal :=
  .next (s.manage .readAuthTimeout tag (readAuthTimeout args))

/-- One second off an ACTIVE entry (R97). -/
def AuthState.second : AuthState → AuthState
  | .active n => .active (n - 1)
  | .lost => .lost

/-- R97: 1 off the Timeout Remaining of every ACTIVE entry. -/
def State.countAuths (s : State) : State :=
  { s with relay := { s.relay with
      entries := s.relay.entries.map (fun (e : AuthEntry) => { e with state := e.state.second }) } }

/-- R97: every ACTIVE entry whose Timeout Remaining is 0 times out, in the order of the list. -/
def State.expireAuths (s : State) : State :=
  (s.relay.entries.filter (fun e => decide (e.state = .active 0))).foldl (fun s e => s.timeOut e) s

/-- AUTH_TIMEOUT (R97): the timeout alone; a tick takes it too (assumption 4). -/
def execAuthTimeout (s : State) : Host.Outcome State Fault Refusal := .next (if s.control.running then s.expireAuths else s)

/-! ## Clear Gateway Hold, Reconcile, Read Authorisations (R101, R105, R108) -/

/-- R101: Clear Gateway Hold. -/
def clearGatewayHold (args : Bytes) : State → Answer :=
  noArgs args (fun s => ({ s with relay := { s.relay with gatewayHold := false } }, .ok, flag s.relay.gatewayHold))

/-- CLEAR_GATEWAY_HOLD (R101). -/
def execClearGatewayHold (tag : Byte) (args : Bytes) (s : State) : Host.Outcome State Fault Refusal :=
  .next (s.manage .clearGatewayHold tag (clearGatewayHold args))

/-- The layout of Reconcile, with R105's check 1: a tag, and SOLD with an approval code or RELEASE without one. -/
def readReconcile (b : Bytes) : Option (Nat × Option Bytes) := do
  let (tag, b) ← readNat 2 b
  let (action, b) ← readNat 1 b
  match action with
  | 1 => do
    let (code, b) ← readText b
    if goodCode code then done (tag, some code) b else none
  | 2 => done (tag, none) b
  | _ => none

/-- R105: Reconcile. -/
def reconcile (args : Bytes) (s : State) : Answer :=
  match readReconcile args with
  | none => s.refuse .badArg
  | some (tag, action) => match s.entryTagged tag with
    | none => s.refuse .notFound
    | some e =>
      if e.state ≠ .lost then s.refuse .badState
      else match action with
        | some code => ((s.approveLate e code 2).1, .ok, u32 (s.approveLate e code 2).2)
        | none => (s.releaseLate e 2, .ok, u8 e.seatLines.length ++ u8 e.claims.length)

/-- RECONCILE (R105). -/
def execReconcile (tag : Byte) (args : Bytes) (s : State) : Host.Outcome State Fault Refusal :=
  .next (s.manage .reconcile tag (reconcile args))

/-- An entry as Read Authorisations gives it: every field of R91 in order, Timeout Remaining for an ACTIVE one (R108). -/
def AuthEntry.bytes (e : AuthEntry) : Bytes :=
  u16 e.tag ++ u8 e.state.code ++ u8 e.origin.val ++ e.handle.bytes
    ++ (u8 e.seatLines.length ++ e.seatLines.flatMap (fun l => u16 l.seat ++ u8 l.ticketType.val ++ u24 l.amount))
    ++ (u8 e.combos.length ++ e.combos.flatMap (fun c => u8 c.val))
    ++ (u8 e.claims.length ++ e.claims.flatMap u24)
    ++ u24 e.net ++ u24 e.ticketTax ++ u24 e.snackTax ++ u8 e.reservation
    ++ (match e.state with
        | .active n => u16 n
        | .lost => [])

/-- An ACTIVE entry. -/
def AuthEntry.isActive (e : AuthEntry) : Bool := decide (e.state ≠ .lost)

/-- The layout of a first position and a count. -/
def readFirstCount (b : Bytes) : Option (Nat × Nat) := do
  let (first, b) ← readNat 1 b
  let (n, b) ← readNat 1 b
  done (first, n) b

/-- A first position and count within a list's bound. -/
def goodWindow (limit most first n : Nat) : Bool := decide (first < limit ∧ 1 ≤ n ∧ n ≤ most ∧ first + n ≤ limit)

/-- R108: Read Authorisations. -/
def readAuthorisations (args : Bytes) (s : State) : Answer :=
  match readFirstCount args with
  | none => s.refuse .badArg
  | some (first, n) =>
    if goodWindow 24 8 first n = false then s.refuse .badArg
    else
      let r := s.relay
      let es := (r.entries.drop first).take n
      (s, .ok, u8 r.entries.length ++ u8 (r.entries.filter AuthEntry.isActive).length ++ flag r.gatewayHold
        ++ u16 r.authTimeout ++ u16 r.tagCounter ++ u32 r.saleCounter ++ flag r.saleLoaded ++ u16 s.vouchers.reservation
        ++ u8 es.length ++ es.flatMap AuthEntry.bytes)

/-- READ_AUTHORISATIONS (R108). -/
def execReadAuthorisations (tag : Byte) (args : Bytes) (s : State) : Host.Outcome State Fault Refusal :=
  .next (s.manage .readAuthorisations tag (readAuthorisations args))

end Sys2Proof.Machine
end

