-- ==== Sys2Proof/Machine/PrintCommands.lean ====
section
/-! DEFINITION. Chapter 7: PRINTER_STATUS, REPRINT, the management commands of the Print Engine, and the waits. -/

namespace Sys2Proof.Machine

/-! ## PRINTER_STATUS (R140 to R142) -/

/-- The reports of PRINTER_STATUS (chapter 11.5). -/
inductive PrinterReport where
  | ready | busy | paperOut | jam | done
  deriving DecidableEq, Repr

/-- The report with this code. -/
def PrinterReport.ofCode : Nat → Option PrinterReport
  | 0 => some .ready | 1 => some .busy | 2 => some .paperOut | 3 => some .jam | 4 => some .done | _ => none

/-- The layout of PRINTER_STATUS: report, Document Index (R141; chapter 11.2). -/
def readPrinterStatus (b : Bytes) : Option (PrinterReport × Nat) :=
  match b with
  | [r, d] => (PrinterReport.ofCode r.toNat).map (fun x => (x, d.toNat))
  | _ => none

/-- R140: the current document is done: the next one is fetched, or the job completes. -/
def State.documentDone (s : State) (c : ChannelNo) (j : Job) : State :=
  if j.next + 1 < j.docs.length then (s.changeJob j.number (fun k => { k with next := k.next + 1 })).enterFetch c
  else s.endJob c j.number

/-- R142: the channel enters PAUSED with the render buffer given. Its next frame index stays where it stands (assumption 46). -/
def State.pause (s : State) (c : ChannelNo) (buffer : Option Rendered) : State :=
  s.setChannel c { s.channel c with state := .paused s.print.paperWait, buffer := buffer }

/-- R142: READY in PAUSED resends the current document. -/
def State.resend (s : State) (c : ChannelNo) : State :=
  match (s.channel c).buffer with
  | some r => s.enterSend c r
  | none => s.enterFetch c

/-- R141: the table of reports by channel state; channels take jobs where a job has ended (R134). -/
def State.report (s : State) (c : ChannelNo) (p : PortNo) (j : Job) (r : PrinterReport) (index : Nat) : State :=
  match r, (s.channel c).state with
  | .done, .await _ => if j.current.map (·.index) = some index then (s.documentDone c j).runArbiter else s
  | .busy, .await _ => s.setChannel c { s.channel c with state := .await s.print.printerWait }
  | .paperOut, .fetch => s.pause c none
  | .paperOut, .send => (s.releaseOffer p).pause c (s.channel c).buffer
  | .paperOut, .await _ => s.pause c (s.channel c).buffer
  | .ready, .paused _ => (s.resend c).runArbiter
  | .jam, .idle => s
  | .jam, _ => (s.failJob c .jam).runArbiter
  | _, _ => s

/-- R141: a PRINTER_STATUS goes to the channel whose RUNNING job has this port as Destination Port, or is ignored. -/
def State.printerStatus (s : State) (p : PortNo) (payload : Bytes) : State :=
  match readPrinterStatus payload, s.channelFor p with
  | some (r, index), some c => match s.jobOn c with
    | some j => s.report c p j r index
    | none => s
  | _, _ => s

/-- PRINTER_STATUS (R141): a good frame, taken whatever the reply queue holds, and not answered. -/
def execPrinterStatus (port : PortNo) (_tag : Byte) (payload : Bytes) (s : State) : Host.Outcome State Fault Refusal :=
  .next (if s.takesFrames port = false then s else (s.goodFrame port).printerStatus port payload)

/-! ## REPRINT (R147) -/

/-- A Sale Number other than 0 as the whole payload (R147, R150). -/
def readSaleNumber (b : Bytes) : Option Nat := do
  let (n, b) ← readNat 4 b
  if n = 0 then none else done n b

/-- The oldest Owed Ticket List entry for a sale (R147, R150). -/
def State.owedFor (s : State) (sale : Nat) : Option OwedEntry := s.print.owed.find? (fun e => decide (e.sale = sale))

/-- The oldest entry for a sale leaves the list (R146). -/
def State.dropOwedFor (s : State) (sale : Nat) : State :=
  { s with print := { s.print with owed := s.print.owed.eraseP (fun e => decide (e.sale = sale)) } }

/-- R147, checks 1 and 2. -/
def State.boxOfficeCheck (s : State) (p : PortNo) : Option Result :=
  if s.control.foyer = .unconfigured then some .notReady
  else if (s.port p).role ≠ .boxOffice then some .wrongRole
  else none

/-- R147: REPRINT. -/
def reprint (p : PortNo) (payload : Bytes) (s : State) : Answer :=
  match s.boxOfficeCheck p with
  | some r => s.refuse r
  | none => match readSaleNumber payload with
    | none => s.refuse .badArg
    | some sale =>
      if s.control.foyer = .closed then s.refuse .closed
      else match s.owedFor sale with
        | none => s.refuse .notFound
        | some e =>
          if 32 ≤ s.print.jobs.length then s.refuse .queueFull
          else
            let r := (s.dropOwedFor sale).addJob (.print true e.sale e.origin p e.docs)
            (r.1.runArbiter, .ok, u16 r.2 ++ u8 e.docs.length)

/-- REPRINT (R147). -/
def execReprint (port : PortNo) (tag : Byte) (payload : Bytes) (s : State) : Host.Outcome State Fault Refusal :=
  .next (s.request .reprint port tag (reprint port payload))

/-! ## Set Print Waits and the waits (R143) -/

/-- R143: Set Print Waits. -/
def setPrintWaits (args : Bytes) (s : State) : Answer :=
  match readTwoDurations args with
  | none => s.refuse .badArg
  | some (a, b) =>
    let a := clamp 5 60 a
    let b := clamp 30 600 b
    ({ s with print := { s.print with printerWait := a, paperWait := b } }, .ok, u16 a ++ u16 b)

/-- SET_PRINT_WAITS (R143). -/
def execSetPrintWaits (tag : Byte) (args : Bytes) (s : State) : Host.Outcome State Fault Refusal :=
  .next (s.manage .setPrintWaits tag (setPrintWaits args))

/-- One second off a wait counter (R143). -/
def ChannelState.second : ChannelState → ChannelState
  | .await n => .await (n - 1)
  | .paused n => .paused (n - 1)
  | st => st

/-- R143: every channel subtracts 1 from its wait counter, if present. -/
def State.countWaits (s : State) : State :=
  { s with print := { s.print with
      channels := s.print.channels.map (fun (x : Channel) => { x with state := x.state.second }) } }

/-- R143: a Printer Wait of 0 fails the channel's job. -/
def State.expirePrinterWait (s : State) (c : ChannelNo) : State :=
  if (s.channel c).state = .await 0 then s.failJob c .printerWait else s

/-- R143: a Paper Wait of 0 fails the channel's job. -/
def State.expirePaperWait (s : State) (c : ChannelNo) : State :=
  if (s.channel c).state = .paused 0 then s.failJob c .paperWait else s

/-- R143: the jobs whose waits reach 0 at one tick fail in channel order; then channels take jobs (assumption 23). -/
def State.expireWaits (s : State) : State :=
  (allChannels.foldl (fun s c => (s.expirePrinterWait c).expirePaperWait c) s).runArbiter

/-- PRINTER_WAIT_EXPIRY (R143): the expiry of one channel alone; a tick takes it too (assumption 4). -/
def execPrinterWaitExpiry (channel : ChannelNo) (s : State) : Host.Outcome State Fault Refusal :=
  .next (if s.control.running then (s.expirePrinterWait channel).runArbiter else s)

/-- PAPER_WAIT_EXPIRY (R143): the expiry of one channel alone; a tick takes it too (assumption 4). -/
def execPaperWaitExpiry (channel : ChannelNo) (s : State) : Host.Outcome State Fault Refusal :=
  .next (if s.control.running then (s.expirePaperWait channel).runArbiter else s)

/-! ## Redirect Job, Cancel Job, Drop Owed (R148 to R150) -/

/-- The layout of Redirect Job, with R148's check 1. -/
def readRedirect (b : Bytes) : Option (Nat × PortNo) := do
  let (n, b) ← readNat 2 b
  let (p, b) ← readNat 1 b
  let p ← toFin 16 p
  if n = 0 then none else done (n, p) b

/-- A job's work with a new Destination Port. -/
def JobWork.redirect (p : PortNo) : JobWork → JobWork
  | .print r sale origin _ docs => .print r sale origin p docs
  | .proof k => .proof k

/-- R148: Redirect Job. -/
def redirectJob (args : Bytes) (s : State) : Answer :=
  match readRedirect args with
  | none => s.refuse .badArg
  | some (n, p) => match s.jobNumbered n with
    | none => s.refuse .notFound
    | some j => match j.dest with
      | none => s.refuse .badState
      | some old =>
        if j.channel.isSome then s.refuse .busy
        else ((s.changeJob n (fun k => { k with work := k.work.redirect p })).runArbiter, .ok, u8 old.val ++ u8 p.val)

/-- REDIRECT_JOB (R148). -/
def execRedirectJob (tag : Byte) (args : Bytes) (s : State) : Host.Outcome State Fault Refusal :=
  .next (s.manage .redirectJob tag (redirectJob args))

/-- The layout of Cancel Job, with R149's check 1. -/
def readJobNumber (b : Bytes) : Option Nat := do
  let (n, b) ← readNat 2 b
  if n = 0 then none else done n b

/-- R149: Cancel Job. -/
def cancelJob (args : Bytes) (s : State) : Answer :=
  match readJobNumber args with
  | none => s.refuse .badArg
  | some n => match s.jobNumbered n with
    | none => s.refuse .notFound
    | some j => match j.work with
      | .proof _ => s.refuse .badState
      | .print _ sale origin _ docs =>
        if j.channel.isSome then s.refuse .busy
        else if s.owedRoom = false then s.refuse .full
        else
          let left := docs.drop j.next
          ((s.dropJob n).owe { sale := sale, origin := origin, reason := .cancelled, docs := left }, .ok,
            u32 sale ++ u8 left.length)

/-- CANCEL_JOB (R149). -/
def execCancelJob (tag : Byte) (args : Bytes) (s : State) : Host.Outcome State Fault Refusal :=
  .next (s.manage .cancelJob tag (cancelJob args))

/-- R150: Drop Owed. -/
def dropOwed (args : Bytes) (s : State) : Answer :=
  match readSaleNumber args with
  | none => s.refuse .badArg
  | some sale => match s.owedFor sale with
    | none => s.refuse .notFound
    | some e => (s.dropOwedFor sale, .ok, u8 e.reason.code ++ u8 e.docs.length)

/-- DROP_OWED (R150). -/
def execDropOwed (tag : Byte) (args : Bytes) (s : State) : Host.Outcome State Fault Refusal :=
  .next (s.manage .dropOwed tag (dropOwed args))

/-! ## Proof Template (R151) -/

/-- The layout of a command that carries a sector alone; a sector above 31 is BAD_ARG. -/
def readSectorNo (b : Bytes) : Option SectorNo := do
  let (k, b) ← readNat 1 b
  let k ← toFin 32 k
  done k b

/-- R151: Proof Template. -/
def proofTemplate (args : Bytes) (s : State) : Answer :=
  match readSectorNo args with
  | none => s.refuse .badArg
  | some k =>
    if 32 ≤ s.print.jobs.length then s.refuse .full
    else
      let r := s.addJob (.proof k)
      (r.1.runArbiter, .accepted, u16 r.2)

/-- PROOF_TEMPLATE (R151). -/
def execProofTemplate (tag : Byte) (args : Bytes) (s : State) : Host.Outcome State Fault Refusal :=
  .next (s.manage .proofTemplate tag (proofTemplate args))

/-! ## Read Print Status (R153) -/

/-- A section of Read Print Status (chapter 11.5). -/
inductive PrintSection where
  | channels
  | queue (first count : Nat)
  | owed (first count : Nat)
  deriving DecidableEq, Repr

/-- The layout of Read Print Status. -/
def readPrintSection (b : Bytes) : Option PrintSection := do
  let (k, b) ← readNat 1 b
  match k with
  | 0 => done .channels b
  | 1 => do
    let (first, n) ← readFirstCount b
    some (.queue first n)
  | 2 => do
    let (first, n) ← readFirstCount b
    some (.owed first n)
  | _ => none

/-- A channel's state, next frame index and wait counter, where present (R130, Attempt State; assumption 37). -/
def Channel.attempt (x : Channel) : Bytes :=
  u8 x.state.code ++ u8 x.nextFrame
    ++ (match x.state with
        | .await n => u16 n
        | .paused n => u16 n
        | _ => [])

/-- A channel as Read Print Status gives it (R153; assumption 37). -/
def State.channelBytes (s : State) (c : ChannelNo) : Bytes :=
  let x := s.channel c
  match s.jobOn c with
  | none => u8 x.state.code
  | some j => u8 x.state.code ++ u16 j.number
    ++ (match j.current with
        | some d => u8 d.index
        | none => [])
    ++ u8 x.nextFrame
    ++ (match x.state with
        | .await n => u16 n
        | .paused n => u16 n
        | _ => [])

/-- A job as Read Print Status gives it: every field of R130, the documents as their number (assumptions 17, 37). -/
def State.jobBytes (s : State) (j : Job) : Bytes :=
  u16 j.number
    ++ (match j.work with
        | .print isReprint sale origin dest docs =>
          u8 (if isReprint then 2 else 1) ++ u32 sale ++ u8 origin.val ++ u8 dest.val ++ flag j.channel.isSome
            ++ u8 docs.length
        | .proof _ => u8 3 ++ flag j.channel.isSome ++ u8 1)
    ++ u8 j.next
    ++ (match j.channel with
        | some c => u8 c.val ++ (s.channel c).attempt
        | none => [])

/-- An owed entry as Read Print Status gives it (R153). -/
def OwedEntry.bytes (e : OwedEntry) : Bytes :=
  u32 e.sale ++ u8 e.origin.val ++ u8 e.reason.code ++ u8 e.docs.length
    ++ e.docs.flatMap (fun d => u8 d.index ++ u8 d.fields.code)

/-- What every Read Print Status reply gives, a refusal too (R153, R205). -/
def State.printCounts (s : State) : Bytes :=
  u8 s.print.jobs.length ++ u8 (s.print.jobs.filter (fun j => j.channel.isSome)).length ++ u8 s.print.owed.length
    ++ u16 s.print.printerWait ++ u16 s.print.paperWait ++ u16 s.print.jobCounter

/-- R153: Read Print Status. -/
def readPrintStatus (args : Bytes) (s : State) : Answer :=
  match readPrintSection args with
  | none => s.refuse .badArg s.printCounts
  | some .channels => (s, .ok, s.printCounts ++ allChannels.flatMap s.channelBytes)
  | some (.queue first n) =>
    if goodWindow 32 8 first n = false then s.refuse .badArg s.printCounts
    else
      let js := (s.print.jobs.drop first).take n
      (s, .ok, s.printCounts ++ u8 js.length ++ js.flatMap s.jobBytes)
  | some (.owed first n) =>
    if goodWindow 64 8 first n = false then s.refuse .badArg s.printCounts
    else
      let es := (s.print.owed.drop first).take n
      (s, .ok, s.printCounts ++ u8 es.length ++ es.flatMap OwedEntry.bytes)

/-- READ_PRINT_STATUS (R153). -/
def execReadPrintStatus (tag : Byte) (args : Bytes) (s : State) : Host.Outcome State Fault Refusal :=
  .next (s.manage .readPrintStatus tag (readPrintStatus args))

end Sys2Proof.Machine
end

