-- ==== Sys2Proof/Machine/Store.lean ====
section
/-! DEFINITION. Chapter 8: the commands of the Template Store and the Site Record, and the completion of a store operation. -/

namespace Sys2Proof.Machine

/-! ## What store commands share (R158, R159, R160, R166) -/

/-- Replace the Template Store. -/
def State.setStore (s : State) (st : TemplateStore) : State := { s with store := st }

/-- R158: the store is BUSY. -/
def TemplateStore.busy (st : TemplateStore) : Bool := st.operation.isSome

/-- R159: a latched command with the store IDLE clears the latch whatever its outcome, then makes its checks: `ok` its own
check 2, the latch, and those of `body`. With the store BUSY it is refused BUSY and the latch stays. -/
def latched (ok : Bool) (body : State → Answer) (s : State) : Answer :=
  if s.store.busy then s.refuse .busy
  else
    let t := s.setStore { s.store with writeEnable := false }
    if ok = false then t.refuse .badArg
    else if s.store.writeEnable = false then t.refuse .notEnabled
    else body t

/-- R159: Write Enable and Write Disable: the latch takes its value; the reply gives its state before. -/
def setLatch (v : Bool) (args : Bytes) : State → Answer :=
  noArgs args (fun s =>
    if s.store.busy then s.refuse .busy
    else (s.setStore { s.store with writeEnable := v }, .ok, flag s.store.writeEnable))

/-- R159: Write Enable. -/
def writeEnable (args : Bytes) : State → Answer := setLatch true args

/-- WRITE_ENABLE (R159). -/
def execWriteEnable (tag : Byte) (args : Bytes) (s : State) : Host.Outcome State Fault Refusal :=
  .next (s.manage .writeEnable tag (writeEnable args))

/-- R159: Write Disable. -/
def writeDisable (args : Bytes) : State → Answer := setLatch false args

/-- WRITE_DISABLE (R159). -/
def execWriteDisable (tag : Byte) (args : Bytes) (s : State) : Host.Outcome State Fault Refusal :=
  .next (s.manage .writeDisable tag (writeDisable args))

/-- R166: the lowest protected sector of a span code; 32 where none is. -/
def spanBase (code : Fin 8) : Nat :=
  match code.val with
  | 0 => 32 | 1 => 31 | 2 => 30 | 3 => 28 | 4 => 24 | 5 => 16 | _ => 0

/-- R166: a sector lies within the Protect Span. -/
def TemplateStore.protects (st : TemplateStore) (k : SectorNo) : Bool := decide (spanBase st.protectSpan ≤ k.val)

/-- R160, check 5: a job of the Print Queue has a document on this sector. -/
def State.sectorInUse (s : State) (k : SectorNo) : Bool := s.print.jobs.any (fun j => j.sectors.contains k)

/-- The store takes up an accepted operation: the sectors named become UNSETTLED and Write Aborted is cleared (R160 to R162,
R168). -/
def TemplateStore.begin (st : TemplateStore) (op : StoreOp) (unsettled : Vector Bool 32) : TemplateStore :=
  { st with operation := some op, unsettled := unsettled, writeAborted := none }

/-! ## Erase Sector, Erase All, Program Page (R160 to R162) -/

/-- The layout of a single byte. -/
def readByte (b : Bytes) : Option Nat := do
  let (n, b) ← readNat 1 b
  done n b

/-- R160: Erase Sector, from check 4 on. -/
def eraseSectorBody (k : SectorNo) (s : State) : Answer :=
  if s.store.protects k then s.refuse .spanProtected
  else if s.sectorInUse k then s.refuse .inUse
  else (s.setStore (s.store.begin (.eraseSector k) (s.store.unsettled.set k true)), .accepted, u8 k.val)

/-- R160: Erase Sector. -/
def eraseSector (args : Bytes) (s : State) : Answer :=
  match readByte args with
  | none => s.refuse .badArg
  | some n => match toFin 32 n with
    | none => latched false (fun s => s.refuse .badArg) s
    | some k => latched true (eraseSectorBody k) s

/-- ERASE_SECTOR (R160). -/
def execEraseSector (tag : Byte) (args : Bytes) (s : State) : Host.Outcome State Fault Refusal :=
  .next (s.manage .eraseSector tag (eraseSector args))

/-- R161: Erase All, from check 3 on. -/
def eraseAllBody (s : State) : Answer :=
  if s.store.protectSpan ≠ 0 then s.refuse .spanProtected
  else if s.print.jobs ≠ [] then s.refuse .inUse
  else (s.setStore (s.store.begin .eraseAll (Vector.replicate 32 true)), .accepted, [])

/-- R161: Erase All. -/
def eraseAll (args : Bytes) : State → Answer := noArgs args (latched true eraseAllBody)

/-- ERASE_ALL (R161). -/
def execEraseAll (tag : Byte) (args : Bytes) (s : State) : Host.Outcome State Fault Refusal :=
  .next (s.manage .eraseAll tag (eraseAll args))

/-- The layout of Program Page: sector, page, first offset, length, and the data bytes, which R162's check 2 counts. -/
def readProgramPage (b : Bytes) : Option (Nat × Nat × Nat × Nat × Bytes) := do
  let (k, b) ← readNat 1 b
  let (g, b) ← readNat 1 b
  let (o, b) ← readNat 1 b
  let (n, b) ← readNat 2 b
  some (k, g, o, n, b)

/-- R162, check 2, but for the sector and the page. -/
def goodProgram (o n : Nat) (data : Bytes) : Bool := decide (1 ≤ n ∧ n ≤ 256 ∧ o + n ≤ 256 ∧ data.length = n)

/-- R162: Program Page, from check 4 on. -/
def programPageBody (k : SectorNo) (g : Fin 16) (o : Nat) (data : Bytes) (s : State) : Answer :=
  if s.store.protects k then s.refuse .spanProtected
  else if s.sectorInUse k then s.refuse .inUse
  else (s.setStore (s.store.begin (.programPage k g o data s.store.unsettled[k]) (s.store.unsettled.set k true)), .accepted,
    u8 k.val ++ u8 g.val)

/-- R162: Program Page. -/
def programPage (args : Bytes) (s : State) : Answer :=
  match readProgramPage args with
  | none => s.refuse .badArg
  | some (k, g, o, n, data) => match toFin 32 k, toFin 16 g with
    | some k, some g => latched (goodProgram o n data) (programPageBody k g o data) s
    | _, _ => latched false (fun s => s.refuse .badArg) s

/-- PROGRAM_PAGE (R162). -/
def execProgramPage (tag : Byte) (args : Bytes) (s : State) : Host.Outcome State Fault Refusal :=
  .next (s.manage .programPage tag (programPage args))

/-! ## Set Protect (R167) -/

/-- The layout of Set Protect: span code, lock value. -/
def readSetProtect (b : Bytes) : Option (Nat × Nat) := do
  let (span, b) ← readNat 1 b
  let (lock, b) ← readNat 1 b
  done (span, lock) b

/-- R167: the lock test. -/
def State.lockTest (s : State) (span : Fin 8) (lock : Bool) : Bool :=
  !s.store.protectLock || s.control.keyActive || (decide (span = s.store.protectSpan) && lock)

/-- R167: Set Protect, check 4 and the effect. -/
def setProtectBody (span : Fin 8) (lock : Bool) (s : State) : Answer :=
  if s.lockTest span lock = false then s.refuse .spanProtected
  else (s.setStore { s.store with protectSpan := span, protectLock := lock }, .ok, u8 span.val ++ flag lock)

/-- R167: Set Protect. -/
def setProtect (args : Bytes) (s : State) : Answer :=
  match readSetProtect args with
  | none => s.refuse .badArg
  | some (span, lock) => match toFin 8 span with
    | some span => latched (decide (lock ≤ 1)) (setProtectBody span (decide (lock = 1))) s
    | none => latched false (fun s => s.refuse .badArg) s

/-- SET_PROTECT (R167). -/
def execSetProtect (tag : Byte) (args : Bytes) (s : State) : Host.Outcome State Fault Refusal :=
  .next (s.manage .setProtect tag (setProtect args))

/-! ## Read Store and Read Store Status (R165) -/

/-- The layout of Read Store: address, count. -/
def readReadStore (b : Bytes) : Option (Nat × Nat) := do
  let (a, b) ← readNat 3 b
  let (n, b) ← readNat 1 b
  done (a, n) b

/-- A Condition's code: 0 SETTLED, 1 UNSETTLED (chapter 11.5). -/
def conditionCode (unsettled : Bool) : Bytes := flag unsettled

/-- The sector being worked is this one, or every one. -/
def StoreOp.works (k : SectorNo) : StoreOp → Bool
  | .eraseAll => true
  | .eraseSector j => decide (j = k)
  | .programPage j _ _ _ _ => decide (j = k)

/-- The sectors that a range of `n` bytes from `a` touches. -/
def touched (a n : Nat) : List SectorNo :=
  allSectors.filter (fun k => decide (a < sectorBase k + 4096 ∧ sectorBase k < a + n))

/-- R165: Read Store (assumption 31). A range that is both out of bounds and over the sector being worked is refused BAD_ARG
(assumption 47). The request fixes how many bytes and sectors the reply gives, and no count precedes them. -/
def readStore (args : Bytes) (s : State) : Answer :=
  match readReadStore args with
  | none => s.refuse .badArg
  | some (a, n) =>
    if n = 0 ∨ 200 < n ∨ 131072 < a + n then s.refuse .badArg
    else
      let ks := touched a n
      let working := match s.store.operation with
        | none => false
        | some op => ks.any (fun k => op.works k)
      if working then s.refuse .busy
      else (s, .ok, s.store.bytes a n ++ ks.flatMap (fun k => u8 k.val ++ conditionCode s.store.unsettled[k]))

/-- READ_STORE (R165). -/
def execReadStore (tag : Byte) (args : Bytes) (s : State) : Host.Outcome State Fault Refusal :=
  .next (s.manage .readStore tag (readStore args))

/-- The sector byte of an operation: 255 for ALL, as chapter 11.3 gives for STORE_DONE, and in Read Store Status by
assumption 45. -/
def StoreOp.sectorByte : StoreOp → Nat
  | .eraseSector k => k.val
  | .eraseAll => 255
  | .programPage k _ _ _ _ => k.val

/-- The page byte of an operation: 0 for an erase, as chapter 11.3 gives for STORE_DONE, and in Read Store Status by assumption 48. -/
def StoreOp.pageByte : StoreOp → Nat
  | .eraseSector _ => 0
  | .eraseAll => 0
  | .programPage _ g _ _ _ => g.val

/-- A list of sectors. -/
def sectorList (ks : List SectorNo) : Bytes := u8 ks.length ++ ks.flatMap (fun k => u8 k.val)

/-- R165: the content of Read Store Status (assumption 31); ALL is 255 in its Operation Record and in Write Aborted
(assumption 45). -/
def State.storeStatus (s : State) : Bytes :=
  let st := s.store
  (match st.operation with
    | none => flag false
    | some op => flag true ++ u8 op.code ++ u8 op.sectorByte ++ u8 op.pageByte)
    ++ flag st.writeEnable ++ u8 st.protectSpan.val ++ sectorList (allSectors.filter st.protects) ++ flag st.protectLock
    ++ flag s.control.keyActive
    ++ (match st.writeAborted with
        | none => flag false
        | some a => flag true ++ u8 a.kind ++ u8 (match a.sector with | some k => k.val | none => 255))
    ++ sectorList (allSectors.filter (fun k => st.unsettled[k])) ++ flag st.siteLock

/-- R165: Read Store Status. -/
def readStoreStatus (args : Bytes) : State → Answer := noArgs args (fun s => (s, .ok, s.storeStatus))

/-- READ_STORE_STATUS (R165). -/
def execReadStoreStatus (tag : Byte) (args : Bytes) (s : State) : Host.Outcome State Fault Refusal :=
  .next (s.manage .readStoreStatus tag (readStoreStatus args))

/-! ## The Site Record (R170 to R172) -/

/-- A character of the Site Record, or 0xFF, which leaves its byte alone (R170). -/
def goodSiteByte (c : Byte) : Bool := decide (0x20 ≤ c.toNat ∧ c.toNat ≤ 0x7E) || decide (c = 0xFF)

/-- R170, check 2, on the 39 bytes of the four fields in the order of chapter 11.4. -/
def goodSite (b : Bytes) : Bool :=
  (decide ((b.getD 2 0).toNat ≤ 3) || decide (b.getD 2 0 = 0xFF)) && (b.drop 3).all goodSiteByte

/-- R170: the Site Record after a Site Program of the 39 bytes given. -/
def TemplateStore.programSite (st : TemplateStore) (b : Bytes) : TemplateStore :=
  { st with siteRecord := Sparse.update erasedByte st.siteRecord 0 39 (fun i old => old &&& b.getD i 0xFF) }

/-- A field as stored, with its Mismatch indication (R170; assumption 31). -/
def TemplateStore.siteField (st : TemplateStore) (b : Bytes) (a n : Nat) : Bytes :=
  st.site a n ++ flag (decide (0 < mismatches (st.site a n) ((b.drop a).take n)))

/-- R170: Site Program, check 4 and the effect. -/
def siteProgramBody (b : Bytes) (s : State) : Answer :=
  if s.store.siteLock then s.refuse .locked
  else
    let st := s.store.programSite b
    (s.setStore st, .ok, st.siteField b 0 2 ++ st.siteField b 2 1 ++ st.siteField b 3 4 ++ st.siteField b 7 32)

/-- R170: Site Program. -/
def siteProgram (args : Bytes) (s : State) : Answer :=
  if args.length ≠ 39 then s.refuse .badArg else latched (goodSite args) (siteProgramBody args) s

/-- SITE_PROGRAM (R170). -/
def execSiteProgram (tag : Byte) (args : Bytes) (s : State) : Host.Outcome State Fault Refusal :=
  .next (s.manage .siteProgram tag (siteProgram args))

/-- R171: Site Lock, checks 3 and 4 and the effect. -/
def siteLockBody (s : State) : Answer :=
  if s.store.siteLock then s.refuse .locked
  else if 3 < s.store.exponent then s.refuse .badState
  else (s.setStore { s.store with siteLock := true }, .ok, [])

/-- R171: Site Lock. -/
def siteLock (args : Bytes) : State → Answer := noArgs args (latched true siteLockBody)

/-- SITE_LOCK (R171). -/
def execSiteLock (tag : Byte) (args : Bytes) (s : State) : Host.Outcome State Fault Refusal :=
  .next (s.manage .siteLock tag (siteLock args))

/-- R172: Read Site Record. -/
def readSiteRecord (args : Bytes) : State → Answer :=
  noArgs args (fun s => (s, .ok, s.store.site 0 39 ++ flag s.store.siteLock))

/-- READ_SITE_RECORD (R172). -/
def execReadSiteRecord (tag : Byte) (args : Bytes) (s : State) : Host.Outcome State Fault Refusal :=
  .next (s.manage .readSiteRecord tag (readSiteRecord args))

/-! ## Completion (R164) -/

/-- The first address a program works on. -/
def programBase (k : SectorNo) (g : Fin 16) (o : Nat) : Nat := sectorBase k + 256 * g.val + o

/-- R164, steps 1 to 3: the bytes and the Condition take their values, and the store becomes IDLE. -/
def TemplateStore.complete (st : TemplateStore) (op : StoreOp) : TemplateStore :=
  match op with
  | .eraseSector k =>
    { st with cells := st.cells.filter (fun c => decide (c.1 / 4096 ≠ k.val)), fill := st.fill.set k .erased,
              unsettled := st.unsettled.set k false, operation := none }
  | .eraseAll =>
    { st with cells := [], fill := Vector.replicate 32 .erased, unsettled := Vector.replicate 32 false, operation := none }
  | .programPage k g o data was =>
    { st with
      cells := Sparse.update st.unlisted st.cells (programBase k g o) data.length (fun i old => old &&& data.getD i 0xFF)
      unsettled := st.unsettled.set k was, operation := none }

/-- The Condition of an operation's sector after completion, and the Mismatch Count (R162, R164). -/
def TemplateStore.outcome (st : TemplateStore) (op : StoreOp) : Bytes :=
  match op with
  | .eraseSector k => conditionCode st.unsettled[k] ++ u16 0
  | .eraseAll => conditionCode false ++ u16 0
  | .programPage k g o data _ =>
    conditionCode st.unsettled[k] ++ u16 (mismatches (st.bytes (programBase k g o) data.length) data)

/-- The channels waiting in FETCH (R164, step 5). -/
def State.waitingChannels (s : State) : List ChannelNo :=
  allChannels.filter (fun c => decide ((s.channel c).state = .fetch))

/-- R164: the completion of a store operation; nothing where the store is IDLE. -/
def State.completeStore (s : State) : State :=
  match s.store.operation with
  | none => s
  | some op =>
    let st := s.store.complete op
    let s := (s.setStore st).raise .storeDone (u8 op.code ++ u8 op.sectorByte ++ u8 op.pageByte ++ st.outcome op)
    (s.waitingChannels.foldl (fun s c => s.readSector c) s).runArbiter

/-- STORE_OPERATION_COMPLETION (R164). -/
def execStoreOperationCompletion (s : State) : Host.Outcome State Fault Refusal :=
  .next (if s.control.running then s.completeStore else s)

end Sys2Proof.Machine
end

