-- ==== Sys2Proof/Machine/Links.lean ====
section
/-! DEFINITION. Chapter 9: framing errors and quarantine, port states and the Port Table, the transmit arbiters, pass-through,
and the uplink's link. -/

namespace Sys2Proof.Machine

/-! ## A port leaves ACTIVE (R41, R62, R145, R179) -/

/-- The port's own side of R179: its new state, its receiver stopped, and nothing left to send but a kept place. -/
def Port.lose (x : Port) (st : PortState) : Port :=
  { x with state := st, awaitingIdle := true, replies := [], downPass := [], printOffer := none, sending := none }

/-- R41: every seat HELD with this port as Owner Port returns to FREE. -/
def State.freeHeldBy (s : State) (p : PortNo) : State :=
  s.forSeats (fun s i k => if (s.seatAt i k).state.heldBy p then s.giveUpSeat i k else s)

/-- R145: a RUNNING job for the port is stopped and its unfinished documents are owed PORT_LOST. -/
def State.stopJob (s : State) (p : PortNo) : State :=
  match s.channelFor p with
  | none => s
  | some c => match s.jobOn c with
    | none => s
    | some j => match j.work with
      | .proof _ => s
      | .print _ sale origin _ docs =>
        (s.owe { sale := sale, origin := origin, reason := .portLost, docs := docs.drop j.next }).endJob c j.number

/-- R179: a port leaves ACTIVE for the state given. -/
def State.leaveActive (s : State) (p : PortNo) (st : PortState) : State :=
  let s := s.setPort p ((s.port p).lose st)
  let s := s.voidUnlessAuthorising p
  let s := s.freeHeldBy p
  (s.stopJob p).runArbiter

/-! ## Framing errors (R176) -/

/-- The content of PORT_WARN and PORT_QUARANTINED (chapter 11.3). -/
def State.portNotice (s : State) (p : PortNo) : Bytes :=
  u8 p.val ++ u8 (s.port p).errorCount ++ u8 (s.port p).lastError.code

/-- R176: the effects of a run that fails the checks of R175. -/
def State.runFailed (s : State) (p : PortNo) (e : FramingError) : State :=
  let n := (s.port p).errorCount
  let m := min 255 (n + 8)
  let s := s.setPort p { s.port p with errorCount := m, lastError := e }
  let s := if n < 96 ∧ 96 ≤ m then s.raise .portWarn (s.portNotice p) else s
  if 128 ≤ m then (s.raise .portQuarantined (s.portNotice p)).leaveActive p .quarantined else s

/-- LINE_IDLE (R174): the receiver of an ACTIVE port has found line idle and takes the next run. -/
def execLineIdle (port : PortNo) (s : State) : Host.Outcome State Fault Refusal :=
  .next (if s.control.running && decide (s.control.foyer ≠ .night) && decide ((s.port port).state = .active) then
      s.setPort port { s.port port with awaitingIdle := false }
    else s)

/-! ## Port commands (R178, R180) -/

/-- The layout of a command that carries a port number alone; a number above 15 is BAD_ARG. -/
def readPortNo (b : Bytes) : Option PortNo := do
  let (p, b) ← readNat 1 b
  let p ← toFin 16 p
  done p b

/-- What the three commands of R178 reply: the port's new state and Error Count. -/
def State.portReply (s : State) (p : PortNo) : Bytes := u8 (s.port p).state.code ++ u8 (s.port p).errorCount

/-- R178: the port becomes ACTIVE with this Error Count; its receiver waits for line idle (R174), its transmit side is empty
but for a kept place, and a channel may take a job for it (R134). -/
def State.activate (s : State) (p : PortNo) (count : Nat) : State :=
  (s.setPort p { (s.port p).lose .active with errorCount := count }).runArbiter

/-- R178: Enable Port. -/
def enablePort (args : Bytes) (s : State) : Answer :=
  match readPortNo args with
  | none => s.refuse .badArg
  | some p =>
    if (s.port p).state ≠ .disabled then s.refuse .badState
    else (s.activate p 0, .ok, (s.activate p 0).portReply p)

/-- ENABLE_PORT (R178). -/
def execEnablePort (tag : Byte) (args : Bytes) (s : State) : Host.Outcome State Fault Refusal :=
  .next (s.manage .enablePort tag (enablePort args))

/-- R178: a port becomes DISABLED, by the column of its state. -/
def State.disable (s : State) (p : PortNo) : State :=
  match (s.port p).state with
  | .disabled => s.voidUnlessAuthorising p
  | .active => s.leaveActive p .disabled
  | .quarantined => s.setPort p { s.port p with state := .disabled }

/-- R178: Disable Port. -/
def disablePort (args : Bytes) (s : State) : Answer :=
  match readPortNo args with
  | none => s.refuse .badArg
  | some p => (s.disable p, .ok, (s.disable p).portReply p)

/-- DISABLE_PORT (R178). -/
def execDisablePort (tag : Byte) (args : Bytes) (s : State) : Host.Outcome State Fault Refusal :=
  .next (s.manage .disablePort tag (disablePort args))

/-- The layout of Restore Port: port, and a Count option, 0 CLEAR or 1 KEEP, here whether it is KEEP (R178; chapter 11.5). -/
def readRestorePort (b : Bytes) : Option (PortNo × Bool) := do
  let (p, b) ← readNat 1 b
  let p ← toFin 16 p
  let (keep, b) ← readFlag b
  done (p, keep) b

/-- R178: Restore Port. -/
def restorePort (args : Bytes) (s : State) : Answer :=
  match readRestorePort args with
  | none => s.refuse .badArg
  | some (p, keep) =>
    if (s.port p).state ≠ .quarantined then s.refuse .badState
    else
      let s := s.activate p (if keep then (s.port p).errorCount else 0)
      (s, .ok, s.portReply p)

/-- RESTORE_PORT (R178). -/
def execRestorePort (tag : Byte) (args : Bytes) (s : State) : Host.Outcome State Fault Refusal :=
  .next (s.manage .restorePort tag (restorePort args))

/-- The layout of Configure Port, with R180's check 1. -/
def readConfigurePort (b : Bytes) : Option (PortNo × Role × Fin 4 × Bool) := do
  let (p, b) ← readNat 1 b
  let p ← toFin 16 p
  let (r, b) ← readNat 1 b
  let r ← Role.ofCode r
  let (l, b) ← readNat 1 b
  let l ← toFin 4 l
  let (pass, b) ← readFlag b
  done (p, r, l, pass) b

/-- A port's Port Table entry as a reply gives it. -/
def Port.entryBytes (x : Port) : Bytes := u8 x.role.code ++ u8 x.printLevel.val ++ flag x.passAllowed

/-- R180: Configure Port. -/
def configurePort (args : Bytes) (s : State) : Answer :=
  match readConfigurePort args with
  | none => s.refuse .badArg
  | some (p, r, l, pass) =>
    if (s.port p).state ≠ .disabled then s.refuse .badState
    else
      let x := { s.port p with role := r, printLevel := l, passAllowed := pass }
      (s.setPort p x, .ok, x.entryBytes)

/-- CONFIGURE_PORT (R180). -/
def execConfigurePort (tag : Byte) (args : Bytes) (s : State) : Host.Outcome State Fault Refusal :=
  .next (s.manage .configurePort tag (configurePort args))

/-- R180: Clear Error Code. -/
def clearErrorCode (args : Bytes) (s : State) : Answer :=
  match readPortNo args with
  | none => s.refuse .badArg
  | some p => (s.setPort p { s.port p with lastError := .none }, .ok, u8 (s.port p).lastError.code)

/-- CLEAR_ERROR_CODE (R180). -/
def execClearErrorCode (tag : Byte) (args : Bytes) (s : State) : Host.Outcome State Fault Refusal :=
  .next (s.manage .clearErrorCode tag (clearErrorCode args))

/-- The frames of a port's upward pass buffer (R183). -/
def State.upwardOf (s : State) (p : PortNo) : List UpwardFrame := s.uplink.upwardPass.filter (fun f => decide (f.port = p))

/-- R180: Read Port; the upward buffer's frame count stands before the downward one's (assumption 43). -/
def readPort (args : Bytes) (s : State) : Answer :=
  match readPortNo args with
  | none => s.refuse .badArg
  | some p =>
    let x := s.port p
    (s, .ok, u8 x.state.code ++ x.entryBytes ++ u8 x.errorCount ++ u8 x.lastError.code ++ u8 x.replies.length
      ++ flag x.kept.isSome ++ u8 (s.upwardOf p).length ++ u8 x.downPass.length ++ flag s.uplink.linkUp)

/-- READ_PORT (R180). -/
def execReadPort (tag : Byte) (args : Bytes) (s : State) : Host.Outcome State Fault Refusal :=
  .next (s.manage .readPort tag (readPort args))

/-! ## The kiosk transmit arbiter (R182) -/

/-- R182: the frame the arbiter starts next, with its source. -/
def Port.nextFrame (x : Port) : Option KioskSending :=
  match x.replies with
  | f :: _ => some { source := .reply, frame := f }
  | [] => match x.printOffer with
    | some o => some { source := .print, frame := o.frame }
    | none => match x.downPass with
      | f :: _ => some { source := .pass, frame := { cls := passClass, tag := f.tag, payload := f.payload } }
      | [] => none

/-- KIOSK_FRAME_START (R182): the arbiter of an ACTIVE port whose link is free starts the next frame, if one waits. -/
def execKioskFrameStart (port : PortNo) (s : State) : Host.Outcome State Fault Refusal :=
  .next (if s.control.running && decide ((s.port port).state = .active) && (s.port port).sending.isNone then
      s.setPort port { s.port port with sending := (s.port port).nextFrame }
    else s)

/-- R139: the channel whose frame has been sent offers its next frame, or enters AWAIT after the frame marked Last. In AWAIT the
next frame index stays at that of the last frame (assumption 42). -/
def State.printSent (s : State) (c : ChannelNo) (last : Bool) : State :=
  if last then s.setChannel c { s.channel c with state := .await s.print.printerWait }
  else (s.setChannel c { s.channel c with nextFrame := (s.channel c).nextFrame + 1 }).offer c

/-- R139, R182: a print frame has been sent. One the channel no longer waits for only makes room for its next offer
(assumption 24), and leaves its next frame index (assumption 46). -/
def State.printFrameEnd (s : State) (p : PortNo) (o : PrintOffer) : State :=
  let s := s.setPort p { s.port p with printOffer := none }
  match s.channelFor p with
  | none => s
  | some c => if o.current then s.printSent c o.last else s.offer c

/-- R182: the frame being sent leaves its source. -/
def State.kioskFrameEnd (s : State) (p : PortNo) : State :=
  match (s.port p).sending with
  | none => s
  | some x =>
    let s := s.setPort p { s.port p with sending := none }
    match x.source with
    | .reply => s.setPort p { s.port p with replies := (s.port p).replies.drop 1 }
    | .pass => s.setPort p { s.port p with downPass := (s.port p).downPass.drop 1 }
    | .print => match (s.port p).printOffer with
      | some o => s.printFrameEnd p o
      | none => s
    | .detached => s

/-- KIOSK_FRAME_END (R182). -/
def execKioskFrameEnd (port : PortNo) (s : State) : Host.Outcome State Fault Refusal := .next (s.kioskFrameEnd port)

/-! ## Pass-through (R183, R184) -/

/-- R183: a good PASS frame joins the port's upward buffer or is dropped. -/
def State.passUp (s : State) (p : PortNo) (tag : Byte) (payload : Bytes) : State :=
  if (s.port p).passAllowed && s.uplink.linkUp && decide ((s.upwardOf p).length < 4) then
    { s with uplink := { s.uplink with
        upwardPass := s.uplink.upwardPass ++ [{ port := p, tag := tag, payload := payload }] } }
  else s

/-- KIOSK_PASS (R183): a good frame, taken whatever the reply queue holds. -/
def execKioskPass (port : PortNo) (tag : Byte) (payload : Bytes) (s : State) : Host.Outcome State Fault Refusal :=
  .next (if s.takesFrames port = false then s else (s.goodFrame port).passUp port tag payload)

/-- R184, checks 4 and 5, and the effect. -/
def State.passDown (s : State) (p : PortNo) (tag : Byte) (payload : Bytes) : State :=
  let x := s.port p
  if decide (x.state = .active) && x.passAllowed && decide (x.downPass.length < 4) then
    s.setPort p { x with downPass := x.downPass ++ [{ tag := tag, payload := payload }] }
  else s

/-- R184: an uplink PASS frame, its checks in order. -/
def State.uplinkPass (s : State) (port : Byte) (tag : Byte) (payload : Bytes) : State :=
  match toFin 16 port.toNat with
  | none => s
  | some p => if decide (payload.length ≤ 240) && s.takesUplink then s.passDown p tag payload else s

/-- UPLINK_PASS (R184). -/
def execUplinkPass (port : Byte) (tag : Byte) (payload : Bytes) (s : State) : Host.Outcome State Fault Refusal :=
  .next (s.uplinkPass port tag payload)

/-! ## The uplink transmit arbiter and the link (R186, R187, R201) -/

/-- An envelope from the part itself (chapter 11.3). -/
def ownEnvelope (cls tag : Byte) (payload : Bytes) : Envelope := { port := 255, cls := cls, tag := tag, payload := payload }

/-- R186: the oldest AUTH_REQUEST held for an ACTIVE entry. -/
def State.nextRequest (s : State) : Option AuthRequest :=
  s.uplink.authRequests.find? (fun r => s.relay.entries.any (fun e => decide (e.tag = r.tag) && e.isActive))

/-- The payload of a NOTICE (chapter 11.3). -/
def Notice.bytes (n : Notice) : Bytes := u8 n.code ++ flag n.carriesLost ++ u16 n.day ++ u24 n.seconds ++ n.content

/-- A frame starts on the uplink: it carries one envelope (R186). -/
def State.uplinkStarts (s : State) (src : UplinkSource) (e : Envelope) : State :=
  { s with uplink := { s.uplink with sending := some { source := src, frame := ownFrame e } } }

/-- R201: the head notice's frame starts; it carries the Notices Lost indication, which is cleared. -/
def State.startNotice (s : State) (n : Notice) (rest : List Notice) : State :=
  let n := { n with carriesLost := n.carriesLost || s.control.noticesLost }
  { s with control := { s.control with notices := n :: rest, noticesLost := false } }.uplinkStarts .notice
    (ownEnvelope noticeClass 0 n.bytes)

/-- R186: the frame the uplink arbiter starts next. -/
def State.uplinkStart (s : State) : State :=
  match s.nextRequest with
  | some r => s.uplinkStarts (.authRequest r.tag) (ownEnvelope authRequestClass 0 r.payload)
  | none => match s.uplink.replies with
    | r :: _ => s.uplinkStarts .reply (ownEnvelope mgmtClass r.tag r.payload)
    | [] => match s.control.notices with
      | n :: rest => s.startNotice n rest
      | [] => match s.uplink.upwardPass with
        | f :: _ => s.uplinkStarts .pass
            { port := BitVec.ofNat 8 f.port.val, cls := passClass, tag := f.tag, payload := f.payload }
        | [] => s

/-- UPLINK_FRAME_START (R186): with the link UP and no frame being sent. -/
def execUplinkFrameStart (s : State) : Host.Outcome State Fault Refusal :=
  .next (if s.control.running && s.uplink.linkUp && s.uplink.sending.isNone then s.uplinkStart else s)

/-- R199: the step in which the last byte of Restart's reply is sent takes the reset. Restart's reply is the last one made, so
it has been sent when none is left (assumption 32). -/
def State.replySent (s : State) : State :=
  if s.control.restartPending && s.uplink.replies.isEmpty then s.restartNow else s

/-- R186: the frame being sent leaves its source. -/
def State.uplinkFrameEnd (s : State) : State :=
  match s.uplink.sending with
  | none => s
  | some x =>
    let s := { s with uplink := { s.uplink with sending := none } }
    match x.source with
    | .authRequest t =>
      { s with uplink := { s.uplink with authRequests := s.uplink.authRequests.filter (fun r => decide (r.tag ≠ t)) } }
    | .reply => { s with uplink := { s.uplink with replies := s.uplink.replies.drop 1 } }.replySent
    | .notice => { s with control := { s.control with notices := s.control.notices.drop 1 } }
    | .pass => { s with uplink := { s.uplink with upwardPass := s.uplink.upwardPass.drop 1 } }
    | .detached => s

/-- UPLINK_FRAME_END (R186). -/
def execUplinkFrameEnd (s : State) : Host.Outcome State Fault Refusal := .next s.uplinkFrameEnd

/-- UPLINK_LINK_DOWN (R187): the frame being sent is lost and kept at its source, every upward buffer is emptied, and a pending
Restart takes its reset (R199). -/
def execUplinkLinkDown (s : State) : Host.Outcome State Fault Refusal :=
  .next { s with uplink := { s.uplink with linkUp := false, sending := none, upwardPass := [] } }.settleRestart

/-- UPLINK_LINK_UP (R187); in reset the part does not see the link (assumption 7). -/
def execUplinkLinkUp (s : State) : Host.Outcome State Fault Refusal :=
  .next (if s.control.running then { s with uplink := { s.uplink with linkUp := true } } else s)

end Sys2Proof.Machine
end

