-- ==== Sys2Proof/Machine/Vouchers.lean ====
section
/-! DEFINITION. Chapter 6: REDEEM, the management of vouchers, and Day Roll's reclamation. -/

namespace Sys2Proof.Machine

/-! ## REDEEM (R120, R121) -/

/-- A reply to REDEEM carries the serial as received; a payload that holds no serial field leaves it out (assumption 34). -/
def echoSerial (payload : Bytes) : Bytes := if payload.length = 3 then payload else []

/-- R120, checks 1 and 2. -/
def State.counterCheck (s : State) (p : PortNo) : Option Result :=
  if s.control.foyer = .unconfigured then some .notReady
  else if (s.port p).role ≠ .counter then some .wrongRole
  else none

/-- The content of REDEEM's OK after the serial: Combo Code, Issuing Sale, Combo Name (R121; chapter 11.2). -/
def State.redeemContent (s : State) (v : Voucher) : Bytes :=
  match v.kind with
  | .snack c => u8 c.val ++ u32 v.issuingSale ++ text (s.prices.live.combos[c]).name
  | .credit _ => []

/-- R119 to R121: REDEEM. -/
def redeem (p : PortNo) (payload : Bytes) (s : State) : Answer :=
  match s.counterCheck p with
  | some r => s.refuse r (echoSerial payload)
  | none => match readSerial payload with
    | none => s.refuse .badArg (echoSerial payload)
    | some serial => match s.testVoucher true serial with
      | .inl (r, content) => s.refuse r (u24 serial ++ content)
      | .inr v => (s.changeSlot serial (Slot.redeem p s.control.day s.control.seconds), .ok,
        u24 serial ++ s.redeemContent v)

/-- REDEEM (R120). -/
def execRedeem (port : PortNo) (tag : Byte) (payload : Bytes) (s : State) : Host.Outcome State Fault Refusal :=
  .next (s.request .redeem port tag (redeem port payload))

/-! ## Issue Credit and Void Voucher (R122, R123) -/

/-- The layout of Issue Credit: Value, Expiry Day. -/
def readIssueCredit (b : Bytes) : Option (Nat × Nat) := do
  let (v, b) ← readNat 3 b
  let (d, b) ← readNat 2 b
  done (v, d) b

/-- R122: Issue Credit. -/
def issueCredit (args : Bytes) (s : State) : Answer :=
  match readIssueCredit args with
  | none => s.refuse .badArg
  | some (v, d) =>
    if v = 0 ∨ 65535 < v then s.refuse .badArg
    else if s.vouchers.serialLoaded = false then s.refuse .badState
    else if s.vouchers.available < 1 then s.refuse .full
    else
      let r := s.issue (.credit v) 0 d
      (r.1.checkLow, .ok, u24 r.2 ++ u24 v ++ u16 d)

/-- ISSUE_CREDIT (R122). -/
def execIssueCredit (tag : Byte) (args : Bytes) (s : State) : Host.Outcome State Fault Refusal :=
  .next (s.manage .issueCredit tag (issueCredit args))

/-- R123: Void Voucher. -/
def voidVoucher (args : Bytes) (s : State) : Answer :=
  match readSerial args with
  | none => s.refuse .badArg
  | some serial => match s.slotOf serial with
    | none => s.refuse .notFound
    | some (_, .claimed _ _) => s.refuse .inUse
    | some (n, .issued v) => (s.setSlot n (.void v s.control.day), .ok, u24 serial ++ u8 v.kind.code)
    | some _ => s.refuse .badState

/-- VOID_VOUCHER (R123). -/
def execVoidVoucher (tag : Byte) (args : Bytes) (s : State) : Host.Outcome State Fault Refusal :=
  .next (s.manage .voidVoucher tag (voidVoucher args))

/-! ## Inspection (R127) -/

/-- The fields of a voucher in a reply: Serial, Kind, Combo Code or Value, Issuing Sale, Expiry Day. -/
def Voucher.bytes (v : Voucher) : Bytes :=
  u24 v.serial ++ u8 v.kind.code
    ++ (match v.kind with
        | .snack c => u8 c.val
        | .credit n => u24 n)
    ++ u32 v.issuingSale ++ u16 v.expiryDay

/-- A Claim Owner with its kind stated: 0 a port, 1 a tag (R127; assumption 17), the kind before the owner (assumption 40). -/
def ClaimOwner.bytes : ClaimOwner → Bytes
  | .port p => u8 0 ++ u8 p.val
  | .tag t => u8 1 ++ u16 t

/-- A slot's state and every field it holds in that state, in the order of R113 (R127; assumption 40). -/
def Slot.bytes (x : Slot) : Bytes :=
  u8 x.code ++ match x with
    | .free => []
    | .issued v => v.bytes
    | .claimed v o => v.bytes ++ o.bytes
    | .redeemed v p day time => v.bytes ++ u8 p.val ++ u16 day ++ u24 time
    | .void v day => v.bytes ++ u16 day

/-- R127: Read Voucher. -/
def readVoucher (args : Bytes) (s : State) : Answer :=
  match readSerial args with
  | none => s.refuse .badArg
  | some serial => match s.slotOf serial with
    | none => s.refuse .notFound
    | some (n, x) => (s, .ok, u16 n ++ x.bytes)

/-- READ_VOUCHER (R127). -/
def execReadVoucher (tag : Byte) (args : Bytes) (s : State) : Host.Outcome State Fault Refusal :=
  .next (s.manage .readVoucher tag (readVoucher args))

/-- The number of slots in the state with a code. -/
def VoucherTable.count (v : VoucherTable) (code : Nat) : Nat := (v.slots.filter (fun c => decide (c.2.code = code))).length

/-- R127: Read Voucher Status. The five counts stand in the order of the slot states' codes (assumption 52). -/
def readVoucherStatus (args : Bytes) : State → Answer :=
  noArgs args (fun s =>
    let v := s.vouchers
    (s, .ok, u16 v.freeSlots ++ u16 (v.count 1) ++ u16 (v.count 2) ++ u16 (v.count 3) ++ u16 (v.count 4)
      ++ u16 v.reservation ++ u16 v.available ++ flag v.lowArmed ++ u24 v.serialCounter ++ flag v.serialLoaded))

/-- READ_VOUCHER_STATUS (R127). -/
def execReadVoucherStatus (tag : Byte) (args : Bytes) (s : State) : Host.Outcome State Fault Refusal :=
  .next (s.manage .readVoucherStatus tag (readVoucherStatus args))

/-! ## Day Roll reclamation (R125) -/

/-- R125: a slot that Day Roll frees on its new day. -/
def Slot.spent (day : Nat) : Slot → Bool
  | .redeemed _ _ d _ => decide (d < day)
  | .void _ d => decide (d < day)
  | .issued v => decide (v.expiryDay < day)
  | .claimed _ _ => false
  | .free => false

/-- R125: the Voucher Table after the reclamation of a new day: spent slots FREE, their serials out of the index. -/
def VoucherTable.reclaim (v : VoucherTable) (day : Nat) : VoucherTable :=
  { v with
    slots := v.slots.filter (fun c => !c.2.spent day)
    index := v.index.filter (fun c => match c.2 with
      | some n => !(Sparse.get freeSlot v.slots n).spent day
      | none => true) }

/-- The number of slots a reclamation frees (R125). -/
def VoucherTable.spentCount (v : VoucherTable) (day : Nat) : Nat := (v.slots.filter (fun c => c.2.spent day)).length

end Sys2Proof.Machine
end

