-- ==== Sys2Proof/Machine/Control.lean ====
section
/-! DEFINITION. Chapter 10: the Foyer State, Night and Wake, the Sale Clock and the tick, Day Roll, the counters, Restart and the
resets, and the notice enables. -/

namespace Sys2Proof.Machine

/-- Replace Foyer Control. -/
def State.setControl (s : State) (c : FoyerControl) : State := { s with control := c }

/-! ## The Foyer State (R191 to R194) -/

/-- R192: the four conditions of Open Foyer, by number. -/
def State.openConditions (s : State) : List (Nat × Bool) :=
  [(1, s.store.siteLock), (2, s.relay.saleLoaded && s.vouchers.serialLoaded), (3, s.prices.committed),
    (4, s.control.clockSet)]

/-- R192: the numbers of the conditions that fail. -/
def State.openFailures (s : State) : List Nat := (s.openConditions.filter (fun x => !x.2)).map (·.1)

/-- A change of Foyer State, answered OK with the new one (R191). -/
def State.enterFoyer (s : State) (f : FoyerState) : Answer := (s.setControl { s.control with foyer := f }, .ok, u8 f.code)

/-- R191, R192: Open Foyer; in OPEN it is refused without a list (assumption 35). -/
def openFoyer (args : Bytes) : State → Answer :=
  noArgs args (fun s =>
    if s.control.foyer ≠ .unconfigured ∧ s.control.foyer ≠ .closed then s.refuse .badState
    else if s.openFailures ≠ [] then s.refuse .badState (u8 s.openFailures.length ++ s.openFailures.flatMap u8)
    else s.enterFoyer .opened)

/-- OPEN_FOYER (R192). -/
def execOpenFoyer (tag : Byte) (args : Bytes) (s : State) : Host.Outcome State Fault Refusal :=
  .next (s.manage .openFoyer tag (openFoyer args))

/-- R191, R193: Close Foyer. -/
def closeFoyer (args : Bytes) : State → Answer :=
  noArgs args (fun s => if s.control.foyer ≠ .opened then s.refuse .badState else s.enterFoyer .closed)

/-- CLOSE_FOYER (R193). -/
def execCloseFoyer (tag : Byte) (args : Bytes) (s : State) : Host.Outcome State Fault Refusal :=
  .next (s.manage .closeFoyer tag (closeFoyer args))

/-- R194: Night's downward pass buffers; a pass frame being sent is finished without its source (assumption 27). -/
def Port.emptyPass (x : Port) : Port :=
  { x with
    downPass := []
    sending := x.sending.map (fun y => if y.source = .pass then { y with source := .detached } else y) }

/-- R194: Night's upward pass buffers; a pass frame being sent is finished without its source (assumption 27). -/
def UplinkUnit.emptyPass (u : UplinkUnit) : UplinkUnit :=
  { u with
    upwardPass := []
    sending := u.sending.map (fun y => if y.source = .pass then { y with source := .detached } else y) }

/-- R194: every HELD seat of every show returns to FREE. -/
def State.freeAllHeld (s : State) : State :=
  s.forSeats (fun s i k => if (s.seatAt i k).state.isHeld then s.giveUpSeat i k else s)

/-- R63, R194: the step of Night but for its Foyer State. -/
def State.nightfall (s : State) : State :=
  let s := allPorts.foldl (fun s p => s.voidBasket p) s
  let s := s.freeAllHeld
  { s with
    ports := s.ports.map Port.emptyPass
    uplink := s.uplink.emptyPass
    control := { s.control with tickRunning := false } }

/-- R194: Night is refused BUSY. -/
def State.nightBusy (s : State) : Bool := s.relay.entries.any AuthEntry.isActive || !s.print.jobs.isEmpty

/-- R194: Night. -/
def night (args : Bytes) : State → Answer :=
  noArgs args (fun s =>
    if s.control.foyer ≠ .closed then s.refuse .badState
    else if s.nightBusy then s.refuse .busy
    else s.nightfall.enterFoyer .night)

/-- NIGHT (R194). -/
def execNight (tag : Byte) (args : Bytes) (s : State) : Host.Outcome State Fault Refusal :=
  .next (s.manage .night tag (night args))

/-- R174: the receiver of an ACTIVE port waits for line idle. -/
def Port.awaken (x : Port) : Port := if x.state = .active then { x with awaitingIdle := true } else x

/-- R193: Wake's effect but for the Foyer State. -/
def State.daybreak (s : State) : State :=
  { s with ports := s.ports.map Port.awaken, control := { s.control with tickRunning := true } }

/-- R191, R193: Wake. -/
def wake (args : Bytes) : State → Answer :=
  noArgs args (fun s => if s.control.foyer ≠ .night then s.refuse .badState else s.daybreak.enterFoyer .closed)

/-- WAKE (R193). -/
def execWake (tag : Byte) (args : Bytes) (s : State) : Host.Outcome State Fault Refusal :=
  .next (s.manage .wake tag (wake args))

/-! ## Restart, Identify, Read Foyer Status (R199) -/

/-- R199: Restart; `manage` takes the reset in this step if the uplink is DOWN. -/
def restart (args : Bytes) : State → Answer :=
  noArgs args (fun s => (s.setControl { s.control with restartPending := true }, .ok, []))

/-- RESTART (R199). -/
def execRestart (tag : Byte) (args : Bytes) (s : State) : Host.Outcome State Fault Refusal :=
  .next (s.manage .restart tag (restart args))

/-- R199: Identify. -/
def identify (args : Bytes) : State → Answer :=
  noArgs args (fun s => (s, .ok, u16 1640 ++ [Config.siliconRevision] ++ u8 s.control.foyer.code ++ flag s.store.siteLock
    ++ flag s.control.keyActive))

/-- IDENTIFY (R199). -/
def execIdentify (tag : Byte) (args : Bytes) (s : State) : Host.Outcome State Fault Refusal :=
  .next (s.manage .identify tag (identify args))

/-- The enables as flags: global, then each kind in the order of its code in chapter 11.3 (assumption 49). -/
def NoticeEnables.bytes (e : NoticeEnables) : Bytes :=
  flag e.all ++ flag e.sale ++ flag e.authLost ++ flag e.lateResult ++ flag e.strayResult ++ flag e.portWarn
    ++ flag e.portQuarantined ++ flag e.printFailed ++ flag e.owedAdded ++ flag e.storeDone ++ flag e.proofDone
    ++ flag e.voucherLow

/-- R199: Read Foyer Status. -/
def readFoyerStatus (args : Bytes) : State → Answer :=
  noArgs args (fun s =>
    let c := s.control
    (s, .ok, u8 c.foyer.code ++ s.openConditions.flatMap (fun x => flag x.2) ++ u16 c.day ++ u24 c.seconds ++ flag c.clockSet
      ++ u8 c.resetCause.code ++ u8 c.notices.length ++ flag c.noticesLost ++ c.enables.bytes))

/-- READ_FOYER_STATUS (R199). -/
def execReadFoyerStatus (tag : Byte) (args : Bytes) (s : State) : Host.Outcome State Fault Refusal :=
  .next (s.manage .readFoyerStatus tag (readFoyerStatus args))

/-! ## Time and counters (R195 to R197) -/

/-- The layout of Set Clock: Day Number, seconds of day. -/
def readClock (b : Bytes) : Option (Nat × Nat) := do
  let (d, b) ← readNat 2 b
  let (t, b) ← readNat 3 b
  done (d, t) b

/-- R195: Set Clock. -/
def setClock (args : Bytes) (s : State) : Answer :=
  match readClock args with
  | none => s.refuse .badArg
  | some (d, t) =>
    if 86399 < t then s.refuse .badArg
    else (s.setControl { s.control with day := d, seconds := t, clockSet := true }, .ok, u16 d ++ u24 t ++ u16 s.control.day)

/-- SET_CLOCK (R195). -/
def execSetClock (tag : Byte) (args : Bytes) (s : State) : Host.Outcome State Fault Refusal :=
  .next (s.manage .setClock tag (setClock args))

/-- The layout of Day Roll: a Day Number. -/
def readDay (b : Bytes) : Option Nat := do
  let (d, b) ← readNat 2 b
  done d b

/-- R125, R196: the effect of Day Roll. -/
def State.rollDay (s : State) (d : Nat) : State :=
  { s with control := { s.control with day := d }, vouchers := s.vouchers.reclaim d }.checkLow

/-- R196: Day Roll. -/
def dayRoll (args : Bytes) (s : State) : Answer :=
  match readDay args with
  | none => s.refuse .badArg
  | some d =>
    if d ≤ s.control.day then s.refuse .badArg
    else (s.rollDay d, .ok, u16 d ++ u16 (s.vouchers.spentCount d))

/-- DAY_ROLL (R196). -/
def execDayRoll (tag : Byte) (args : Bytes) (s : State) : Host.Outcome State Fault Refusal :=
  .next (s.manage .dayRoll tag (dayRoll args))

/-- The layout of Load Counters: a Sale Number value, a Voucher Serial value. -/
def readCounters (b : Bytes) : Option (Nat × Nat) := do
  let (n, b) ← readNat 4 b
  let (v, b) ← readNat 3 b
  done (n, v) b

/-- R197: Load Counters. -/
def loadCounters (args : Bytes) (s : State) : Answer :=
  match readCounters args with
  | none => s.refuse .badArg
  | some (n, v) =>
    if s.control.foyer = .opened then s.refuse .badState
    else
      ({ s with
          relay := { s.relay with saleCounter := n, saleLoaded := true }
          vouchers := { s.vouchers with serialCounter := v, serialLoaded := true } }, .ok, u32 n ++ u24 v)

/-- LOAD_COUNTERS (R197). -/
def execLoadCounters (tag : Byte) (args : Bytes) (s : State) : Host.Outcome State Fault Refusal :=
  .next (s.manage .loadCounters tag (loadCounters args))

/-- The layout of Set Notice Enables: the global enable, then the eleven kinds' (R202), in the order of their codes in chapter 11.3
(assumption 49). -/
def readEnables (b : Bytes) : Option NoticeEnables := do
  let (all, b) ← readFlag b
  let (sale, b) ← readFlag b
  let (authLost, b) ← readFlag b
  let (lateResult, b) ← readFlag b
  let (strayResult, b) ← readFlag b
  let (portWarn, b) ← readFlag b
  let (portQuarantined, b) ← readFlag b
  let (printFailed, b) ← readFlag b
  let (owedAdded, b) ← readFlag b
  let (storeDone, b) ← readFlag b
  let (proofDone, b) ← readFlag b
  let (voucherLow, b) ← readFlag b
  done { all := all, sale := sale, authLost := authLost, lateResult := lateResult, strayResult := strayResult,
         portWarn := portWarn, portQuarantined := portQuarantined, printFailed := printFailed, owedAdded := owedAdded,
         storeDone := storeDone, proofDone := proofDone, voucherLow := voucherLow } b

/-- R202: Set Notice Enables. -/
def setNoticeEnables (args : Bytes) (s : State) : Answer :=
  match readEnables args with
  | none => s.refuse .badArg
  | some e => (s.setControl { s.control with enables := e }, .ok, s.control.enables.bytes ++ e.bytes)

/-- SET_NOTICE_ENABLES (R202). -/
def execSetNoticeEnables (tag : Byte) (args : Bytes) (s : State) : Host.Outcome State Fault Refusal :=
  .next (s.manage .setNoticeEnables tag (setNoticeEnables args))

/-! ## The tick (R195) -/

/-- R195: the Sale Clock advances by one second; 86,399 is followed by 0 with the Day Number unchanged. -/
def FoyerControl.second (c : FoyerControl) : FoyerControl :=
  { c with seconds := if c.seconds < 86399 then c.seconds + 1 else 0 }

/-- R34, R35: leases count, and those that reach 0 expire. -/
def State.tickLeases (s : State) : State := s.countLeases.expireLeases
/-- R97: authorisation timers count, and entries that reach 0 time out. -/
def State.tickAuths (s : State) : State := s.countAuths.expireAuths
/-- R143: printer waits count, and jobs whose waits reach 0 fail. -/
def State.tickWaits (s : State) : State := s.countWaits.expireWaits

/-- R195: one tick: the clock first, then leases, authorisation timers and printer waits (assumption 5). -/
def State.tick (s : State) : State := (s.setControl s.control.second).tickLeases.tickAuths.tickWaits

/-- TICK (R195); nothing while the tick is stopped or the part in reset. -/
def execTick (s : State) : Host.Outcome State Fault Refusal :=
  .next (if s.control.running && s.control.tickRunning then s.tick else s)

/-! ## Resets, start-up and the KEY input (R190, R198) -/

/-- POWER_ON (R198): its start-up is START_UP (assumption 6), or the release of a Reset input that is low (assumption 54). -/
def execPowerOn (s : State) : Host.Outcome State Fault Refusal := .next (s.resetPart .power)

/-- RESET_INPUT_ASSERTED (R190): one reset, however long the input then stays low (assumption 8). -/
def execResetInputAsserted (s : State) : Host.Outcome State Fault Refusal :=
  .next (if s.control.resetLow then s
    else (s.resetPart .line).setControl { (s.resetPart .line).control with resetLow := true })

/-- Start-up begins if the part is in reset and the Reset input is high (R190, R198). After a POWER_ON taken while the input was
low, it comes with the input's return, and START reports POWER (assumption 54). -/
def State.beginStart (s : State) : State := if s.control.running || s.control.resetLow then s else s.start

/-- RESET_INPUT_RELEASED (R190): the input returns high and start-up begins. -/
def execResetInputReleased (s : State) : Host.Outcome State Fault Refusal :=
  .next (if s.control.resetLow then (s.setControl { s.control with resetLow := false }).beginStart else s)

/-- START_UP (R198). -/
def execStartUp (s : State) : Host.Outcome State Fault Refusal := .next s.beginStart

/-- KEY_INPUT_CHANGE (R190): the filtered KEY input takes its level. -/
def execKeyInputChange (active : Bool) (s : State) : Host.Outcome State Fault Refusal :=
  .next (s.setControl { s.control with keyActive := active })

end Sys2Proof.Machine
end

