-- ==== Sys2Proof/Machine/Arrivals.lean ====
section
/-! DEFINITION. What an arrival is, by its own bytes: a management payload by its Command Code (R200, R205), a kiosk frame by its
class (R177), a run by the checks of R175, an uplink frame by the table of R185. -/

namespace Sys2Proof.Machine

/-! ## Management payloads (R200, R205) -/

/-- A management command by its code. -/
def runCommand (c : Command) (tag : Byte) (args : Bytes) (s : State) : Host.Outcome State Fault Refusal :=
  match c with
  | .defineShow => execDefineShow tag args s
  | .loadSeats => execLoadSeats tag args s
  | .openShow => execOpenShow tag args s
  | .closeShow => execCloseShow tag args s
  | .removeShow => execRemoveShow tag args s
  | .setSeat => execSetSeat tag args s
  | .markSold => execMarkSold tag args s
  | .releaseBlock => execReleaseBlock tag args s
  | .readSeats => execReadSeats tag args s
  | .setLeaseTimes => execSetLeaseTimes tag args s
  | .readLeaseTimes => execReadLeaseTimes tag args s
  | .stageBand => execStageBand tag args s
  | .stageTicketType => execStageTicketType tag args s
  | .stageCombo => execStageCombo tag args s
  | .stageTax => execStageTax tag args s
  | .stageCeiling => execStageCeiling tag args s
  | .reloadStaged => execReloadStaged tag args s
  | .readPrices => execReadPrices tag args s
  | .commitPrices => execCommitPrices tag args s
  | .setAuthTimeout => execSetAuthTimeout tag args s
  | .readAuthTimeout => execReadAuthTimeout tag args s
  | .clearGatewayHold => execClearGatewayHold tag args s
  | .reconcile => execReconcile tag args s
  | .readAuthorisations => execReadAuthorisations tag args s
  | .issueCredit => execIssueCredit tag args s
  | .voidVoucher => execVoidVoucher tag args s
  | .readVoucher => execReadVoucher tag args s
  | .readVoucherStatus => execReadVoucherStatus tag args s
  | .setPrintWaits => execSetPrintWaits tag args s
  | .redirectJob => execRedirectJob tag args s
  | .cancelJob => execCancelJob tag args s
  | .dropOwed => execDropOwed tag args s
  | .proofTemplate => execProofTemplate tag args s
  | .readPrintStatus => execReadPrintStatus tag args s
  | .writeEnable => execWriteEnable tag args s
  | .writeDisable => execWriteDisable tag args s
  | .eraseSector => execEraseSector tag args s
  | .eraseAll => execEraseAll tag args s
  | .programPage => execProgramPage tag args s
  | .setProtect => execSetProtect tag args s
  | .readStore => execReadStore tag args s
  | .readStoreStatus => execReadStoreStatus tag args s
  | .siteProgram => execSiteProgram tag args s
  | .siteLock => execSiteLock tag args s
  | .readSiteRecord => execReadSiteRecord tag args s
  | .configurePort => execConfigurePort tag args s
  | .enablePort => execEnablePort tag args s
  | .disablePort => execDisablePort tag args s
  | .restorePort => execRestorePort tag args s
  | .clearErrorCode => execClearErrorCode tag args s
  | .readPort => execReadPort tag args s
  | .openFoyer => execOpenFoyer tag args s
  | .closeFoyer => execCloseFoyer tag args s
  | .night => execNight tag args s
  | .wake => execWake tag args s
  | .restart => execRestart tag args s
  | .identify => execIdentify tag args s
  | .readFoyerStatus => execReadFoyerStatus tag args s
  | .setClock => execSetClock tag args s
  | .dayRoll => execDayRoll tag args s
  | .loadCounters => execLoadCounters tag args s
  | .setNoticeEnables => execSetNoticeEnables tag args s

/-- R200: BAD_ARG for a code that names no command, the code echoed as received (R205). -/
def State.unknownCode (s : State) (tag code : Byte) : State :=
  if s.takesCommand none = false then s else s.mgmtAnswer code tag .badArg []

/-- A payload without a Command Code is of no command's layout: BAD_ARG, the byte in the code's place a free value (assumption
12). -/
def State.emptyCommand (s : State) (tag : Byte) : State :=
  if s.takesCommand none = false then s
  else { s with freeCount := s.freeCount + 1 }.mgmtAnswer (Config.absentCode s.freeCount) tag .badArg []

/-- UNKNOWN_COMMAND (R200): a management payload by its Command Code. One whose code names a command is that command
(assumption 2). -/
def execUnknownCommand (tag : Byte) (payload : Bytes) (s : State) : Host.Outcome State Fault Refusal :=
  match payload with
  | [] => .next (s.emptyCommand tag)
  | code :: args => match Command.ofCode code with
    | some c => runCommand c tag args s
    | none => .next (s.unknownCode tag code)

/-! ## Kiosk frames (R175 to R177) -/

/-- R177: a good frame is handed on by its class. -/
def runClass (c : KioskClass) (p : PortNo) (tag : Byte) (payload : Bytes) (s : State) : Host.Outcome State Fault Refusal :=
  match c with
  | .seatQuery => execSeatQuery p tag payload s
  | .hold => execHold p tag payload s
  | .release => execRelease p tag payload s
  | .setType => execSetType p tag payload s
  | .addCombo => execAddCombo p tag payload s
  | .removeCombo => execRemoveCombo p tag payload s
  | .applyCredit => execApplyCredit p tag payload s
  | .removeCredit => execRemoveCredit p tag payload s
  | .undo => execUndo p tag payload s
  | .cancel => execCancel p tag payload s
  | .price => execPrice p tag payload s
  | .pay => execPay p tag payload s
  | .redeem => execRedeem p tag payload s
  | .reprint => execReprint p tag payload s
  | .printerStatus => execPrinterStatus p tag payload s
  | .pass => execKioskPass p tag payload s

/-- KIOSK_RUN_FAILED (R176): a run by the checks of R175. One that passes them is a good frame (assumption 2). -/
def execKioskRunFailed (port : PortNo) (run : Bytes) (s : State) : Host.Outcome State Fault Refusal :=
  match checkRun run with
  | .inl e => .next (if s.takesFrames port = false then s else s.runFailed port e)
  | .inr (c, tag, payload) => runClass c port tag payload s

/-! ## Uplink frames (R185) -/

/-- UPLINK_ENVELOPE_DISCARDED (R185): an Ethernet frame by the table. One that the table takes is handed on (assumption 2). -/
def execUplinkEnvelopeDiscarded (etherType : BitVec 16) (checkOk : Bool) (data : Bytes) (s : State) :
    Host.Outcome State Fault Refusal :=
  match sortEnvelope etherType checkOk data with
  | none => .next s
  | some (.mgmt tag payload) => execUnknownCommand tag payload s
  | some (.authResponse payload) => execAuthResponse payload s
  | some (.pass port tag payload) => execUplinkPass port tag payload s

end Sys2Proof.Machine
end

