-- ==== Sys2Proof/Machine/Dispatch.lean ====
section
/-! DEFINITION. One arm for each command: its meaning. -/

namespace Sys2Proof.Machine

/-- The effect of one command on everything but the queue. -/
def exec (i : Instr) (s : State) : Host.Outcome State Fault Refusal :=
  match i with
  | .seatQuery port tag payload => Sys2Proof.Machine.execSeatQuery port tag payload s
  | .hold port tag payload => Sys2Proof.Machine.execHold port tag payload s
  | .release port tag payload => Sys2Proof.Machine.execRelease port tag payload s
  | .setType port tag payload => Sys2Proof.Machine.execSetType port tag payload s
  | .addCombo port tag payload => Sys2Proof.Machine.execAddCombo port tag payload s
  | .removeCombo port tag payload => Sys2Proof.Machine.execRemoveCombo port tag payload s
  | .applyCredit port tag payload => Sys2Proof.Machine.execApplyCredit port tag payload s
  | .removeCredit port tag payload => Sys2Proof.Machine.execRemoveCredit port tag payload s
  | .undo port tag payload => Sys2Proof.Machine.execUndo port tag payload s
  | .cancel port tag payload => Sys2Proof.Machine.execCancel port tag payload s
  | .price port tag payload => Sys2Proof.Machine.execPrice port tag payload s
  | .pay port tag payload => Sys2Proof.Machine.execPay port tag payload s
  | .redeem port tag payload => Sys2Proof.Machine.execRedeem port tag payload s
  | .reprint port tag payload => Sys2Proof.Machine.execReprint port tag payload s
  | .printerStatus port tag payload => Sys2Proof.Machine.execPrinterStatus port tag payload s
  | .kioskPass port tag payload => Sys2Proof.Machine.execKioskPass port tag payload s
  | .kioskRunFailed port run => Sys2Proof.Machine.execKioskRunFailed port run s
  | .kioskFrameStart port => Sys2Proof.Machine.execKioskFrameStart port s
  | .kioskFrameEnd port => Sys2Proof.Machine.execKioskFrameEnd port s
  | .authResponse payload => Sys2Proof.Machine.execAuthResponse payload s
  | .uplinkPass port tag payload => Sys2Proof.Machine.execUplinkPass port tag payload s
  | .uplinkEnvelopeDiscarded etherType checkOk data => Sys2Proof.Machine.execUplinkEnvelopeDiscarded etherType checkOk data s
  | .uplinkFrameStart => Sys2Proof.Machine.execUplinkFrameStart s
  | .uplinkFrameEnd => Sys2Proof.Machine.execUplinkFrameEnd s
  | .uplinkLinkDown => Sys2Proof.Machine.execUplinkLinkDown s
  | .uplinkLinkUp => Sys2Proof.Machine.execUplinkLinkUp s
  | .unknownCommand tag payload => Sys2Proof.Machine.execUnknownCommand tag payload s
  | .defineShow tag args => Sys2Proof.Machine.execDefineShow tag args s
  | .loadSeats tag args => Sys2Proof.Machine.execLoadSeats tag args s
  | .openShow tag args => Sys2Proof.Machine.execOpenShow tag args s
  | .closeShow tag args => Sys2Proof.Machine.execCloseShow tag args s
  | .removeShow tag args => Sys2Proof.Machine.execRemoveShow tag args s
  | .setSeat tag args => Sys2Proof.Machine.execSetSeat tag args s
  | .markSold tag args => Sys2Proof.Machine.execMarkSold tag args s
  | .releaseBlock tag args => Sys2Proof.Machine.execReleaseBlock tag args s
  | .readSeats tag args => Sys2Proof.Machine.execReadSeats tag args s
  | .setLeaseTimes tag args => Sys2Proof.Machine.execSetLeaseTimes tag args s
  | .readLeaseTimes tag args => Sys2Proof.Machine.execReadLeaseTimes tag args s
  | .stageBand tag args => Sys2Proof.Machine.execStageBand tag args s
  | .stageTicketType tag args => Sys2Proof.Machine.execStageTicketType tag args s
  | .stageCombo tag args => Sys2Proof.Machine.execStageCombo tag args s
  | .stageTax tag args => Sys2Proof.Machine.execStageTax tag args s
  | .stageCeiling tag args => Sys2Proof.Machine.execStageCeiling tag args s
  | .reloadStaged tag args => Sys2Proof.Machine.execReloadStaged tag args s
  | .readPrices tag args => Sys2Proof.Machine.execReadPrices tag args s
  | .commitPrices tag args => Sys2Proof.Machine.execCommitPrices tag args s
  | .setAuthTimeout tag args => Sys2Proof.Machine.execSetAuthTimeout tag args s
  | .readAuthTimeout tag args => Sys2Proof.Machine.execReadAuthTimeout tag args s
  | .clearGatewayHold tag args => Sys2Proof.Machine.execClearGatewayHold tag args s
  | .reconcile tag args => Sys2Proof.Machine.execReconcile tag args s
  | .readAuthorisations tag args => Sys2Proof.Machine.execReadAuthorisations tag args s
  | .issueCredit tag args => Sys2Proof.Machine.execIssueCredit tag args s
  | .voidVoucher tag args => Sys2Proof.Machine.execVoidVoucher tag args s
  | .readVoucher tag args => Sys2Proof.Machine.execReadVoucher tag args s
  | .readVoucherStatus tag args => Sys2Proof.Machine.execReadVoucherStatus tag args s
  | .setPrintWaits tag args => Sys2Proof.Machine.execSetPrintWaits tag args s
  | .redirectJob tag args => Sys2Proof.Machine.execRedirectJob tag args s
  | .cancelJob tag args => Sys2Proof.Machine.execCancelJob tag args s
  | .dropOwed tag args => Sys2Proof.Machine.execDropOwed tag args s
  | .proofTemplate tag args => Sys2Proof.Machine.execProofTemplate tag args s
  | .readPrintStatus tag args => Sys2Proof.Machine.execReadPrintStatus tag args s
  | .writeEnable tag args => Sys2Proof.Machine.execWriteEnable tag args s
  | .writeDisable tag args => Sys2Proof.Machine.execWriteDisable tag args s
  | .eraseSector tag args => Sys2Proof.Machine.execEraseSector tag args s
  | .eraseAll tag args => Sys2Proof.Machine.execEraseAll tag args s
  | .programPage tag args => Sys2Proof.Machine.execProgramPage tag args s
  | .setProtect tag args => Sys2Proof.Machine.execSetProtect tag args s
  | .readStore tag args => Sys2Proof.Machine.execReadStore tag args s
  | .readStoreStatus tag args => Sys2Proof.Machine.execReadStoreStatus tag args s
  | .siteProgram tag args => Sys2Proof.Machine.execSiteProgram tag args s
  | .siteLock tag args => Sys2Proof.Machine.execSiteLock tag args s
  | .readSiteRecord tag args => Sys2Proof.Machine.execReadSiteRecord tag args s
  | .configurePort tag args => Sys2Proof.Machine.execConfigurePort tag args s
  | .enablePort tag args => Sys2Proof.Machine.execEnablePort tag args s
  | .disablePort tag args => Sys2Proof.Machine.execDisablePort tag args s
  | .restorePort tag args => Sys2Proof.Machine.execRestorePort tag args s
  | .clearErrorCode tag args => Sys2Proof.Machine.execClearErrorCode tag args s
  | .readPort tag args => Sys2Proof.Machine.execReadPort tag args s
  | .openFoyer tag args => Sys2Proof.Machine.execOpenFoyer tag args s
  | .closeFoyer tag args => Sys2Proof.Machine.execCloseFoyer tag args s
  | .night tag args => Sys2Proof.Machine.execNight tag args s
  | .wake tag args => Sys2Proof.Machine.execWake tag args s
  | .restart tag args => Sys2Proof.Machine.execRestart tag args s
  | .identify tag args => Sys2Proof.Machine.execIdentify tag args s
  | .readFoyerStatus tag args => Sys2Proof.Machine.execReadFoyerStatus tag args s
  | .setClock tag args => Sys2Proof.Machine.execSetClock tag args s
  | .dayRoll tag args => Sys2Proof.Machine.execDayRoll tag args s
  | .loadCounters tag args => Sys2Proof.Machine.execLoadCounters tag args s
  | .setNoticeEnables tag args => Sys2Proof.Machine.execSetNoticeEnables tag args s
  | .tick => Sys2Proof.Machine.execTick s
  | .leaseExpiry => Sys2Proof.Machine.execLeaseExpiry s
  | .authTimeout => Sys2Proof.Machine.execAuthTimeout s
  | .printerWaitExpiry channel => Sys2Proof.Machine.execPrinterWaitExpiry channel s
  | .paperWaitExpiry channel => Sys2Proof.Machine.execPaperWaitExpiry channel s
  | .storeOperationCompletion => Sys2Proof.Machine.execStoreOperationCompletion s
  | .powerOn => Sys2Proof.Machine.execPowerOn s
  | .resetInputAsserted => Sys2Proof.Machine.execResetInputAsserted s
  | .resetInputReleased => Sys2Proof.Machine.execResetInputReleased s
  | .startUp => Sys2Proof.Machine.execStartUp s
  | .keyInputChange active => Sys2Proof.Machine.execKeyInputChange active s
  | .lineIdle port => Sys2Proof.Machine.execLineIdle port s

end Sys2Proof.Machine
end

