-- ==== Sys2Proof/WellFormed.lean ====
section
/-! DEFINITION. Well-formed commands: what an arrival of each row can carry. A meaning asks for none of it: it is total on every
term (assumption 2). -/

namespace Sys2Proof

open Sys2Proof.Machine

/-- The payload of a kiosk frame holds at most 240 bytes (R175, check 3). -/
def wfKiosk (payload : Bytes) : Bool := decide (payload.length ≤ 240)

/-- The arguments after a Command Code in an envelope of at most 1,495 payload bytes (chapter 11.3, R205). -/
def wfArgs (args : Bytes) : Bool := decide (args.length ≤ 1494)

/-- The payload of an envelope holds at most 1,495 bytes (chapter 11.3). -/
def wfPayload (payload : Bytes) : Bool := decide (payload.length ≤ 1495)

/-- A run that fails the checks of R175. -/
def wfRun (run : Bytes) : Bool :=
  match checkRun run with
  | .inl _ => true
  | .inr _ => false

/-- A management payload whose Command Code names no command (R200). -/
def wfUnknown (payload : Bytes) : Bool :=
  match payload with
  | [] => true
  | code :: _ => (Command.ofCode code).isNone

/-- An Ethernet frame that R185 discards. -/
def wfDiscarded (etherType : BitVec 16) (checkOk : Bool) (data : Bytes) : Bool :=
  decide (data.length ≤ 1500) && (sortEnvelope etherType checkOk data).isNone

/-- A command as it can arrive. -/
def Instr.wf : Instr → Bool
  | .seatQuery _ _ payload => wfKiosk payload
  | .hold _ _ payload => wfKiosk payload
  | .release _ _ payload => wfKiosk payload
  | .setType _ _ payload => wfKiosk payload
  | .addCombo _ _ payload => wfKiosk payload
  | .removeCombo _ _ payload => wfKiosk payload
  | .applyCredit _ _ payload => wfKiosk payload
  | .removeCredit _ _ payload => wfKiosk payload
  | .undo _ _ payload => wfKiosk payload
  | .cancel _ _ payload => wfKiosk payload
  | .price _ _ payload => wfKiosk payload
  | .pay _ _ payload => wfKiosk payload
  | .redeem _ _ payload => wfKiosk payload
  | .reprint _ _ payload => wfKiosk payload
  | .printerStatus _ _ payload => wfKiosk payload
  | .kioskPass _ _ payload => wfKiosk payload
  | .kioskRunFailed _ run => wfRun run
  | .kioskFrameStart _ => true
  | .kioskFrameEnd _ => true
  | .authResponse payload => wfPayload payload
  | .uplinkPass _ _ payload => wfPayload payload
  | .uplinkEnvelopeDiscarded etherType checkOk data => wfDiscarded etherType checkOk data
  | .uplinkFrameStart => true
  | .uplinkFrameEnd => true
  | .uplinkLinkDown => true
  | .uplinkLinkUp => true
  | .unknownCommand _ payload => wfPayload payload && wfUnknown payload
  | .defineShow _ args => wfArgs args
  | .loadSeats _ args => wfArgs args
  | .openShow _ args => wfArgs args
  | .closeShow _ args => wfArgs args
  | .removeShow _ args => wfArgs args
  | .setSeat _ args => wfArgs args
  | .markSold _ args => wfArgs args
  | .releaseBlock _ args => wfArgs args
  | .readSeats _ args => wfArgs args
  | .setLeaseTimes _ args => wfArgs args
  | .readLeaseTimes _ args => wfArgs args
  | .stageBand _ args => wfArgs args
  | .stageTicketType _ args => wfArgs args
  | .stageCombo _ args => wfArgs args
  | .stageTax _ args => wfArgs args
  | .stageCeiling _ args => wfArgs args
  | .reloadStaged _ args => wfArgs args
  | .readPrices _ args => wfArgs args
  | .commitPrices _ args => wfArgs args
  | .setAuthTimeout _ args => wfArgs args
  | .readAuthTimeout _ args => wfArgs args
  | .clearGatewayHold _ args => wfArgs args
  | .reconcile _ args => wfArgs args
  | .readAuthorisations _ args => wfArgs args
  | .issueCredit _ args => wfArgs args
  | .voidVoucher _ args => wfArgs args
  | .readVoucher _ args => wfArgs args
  | .readVoucherStatus _ args => wfArgs args
  | .setPrintWaits _ args => wfArgs args
  | .redirectJob _ args => wfArgs args
  | .cancelJob _ args => wfArgs args
  | .dropOwed _ args => wfArgs args
  | .proofTemplate _ args => wfArgs args
  | .readPrintStatus _ args => wfArgs args
  | .writeEnable _ args => wfArgs args
  | .writeDisable _ args => wfArgs args
  | .eraseSector _ args => wfArgs args
  | .eraseAll _ args => wfArgs args
  | .programPage _ args => wfArgs args
  | .setProtect _ args => wfArgs args
  | .readStore _ args => wfArgs args
  | .readStoreStatus _ args => wfArgs args
  | .siteProgram _ args => wfArgs args
  | .siteLock _ args => wfArgs args
  | .readSiteRecord _ args => wfArgs args
  | .configurePort _ args => wfArgs args
  | .enablePort _ args => wfArgs args
  | .disablePort _ args => wfArgs args
  | .restorePort _ args => wfArgs args
  | .clearErrorCode _ args => wfArgs args
  | .readPort _ args => wfArgs args
  | .openFoyer _ args => wfArgs args
  | .closeFoyer _ args => wfArgs args
  | .night _ args => wfArgs args
  | .wake _ args => wfArgs args
  | .restart _ args => wfArgs args
  | .identify _ args => wfArgs args
  | .readFoyerStatus _ args => wfArgs args
  | .setClock _ args => wfArgs args
  | .dayRoll _ args => wfArgs args
  | .loadCounters _ args => wfArgs args
  | .setNoticeEnables _ args => wfArgs args
  | .tick => true
  | .leaseExpiry => true
  | .authTimeout => true
  | .printerWaitExpiry _ => true
  | .paperWaitExpiry _ => true
  | .storeOperationCompletion => true
  | .powerOn => true
  | .resetInputAsserted => true
  | .resetInputReleased => true
  | .startUp => true
  | .keyInputChange _ => true
  | .lineIdle _ => true

end Sys2Proof
end

