-- ==== Sys2Proof/Safety.lean ====
section
/-! DEFINITION. The terms claims are stated in: when an arrival is taken, what a reply adds, how two states are compared, and the
invariants of a safe run. -/

namespace Sys2Proof.Machine

/-! ## Arrivals that are taken -/

/-- A request of this port is taken: its receiver takes frames and its reply queue has a free place (R174, R177). -/
def State.hears (s : State) (p : PortNo) : Bool := s.takesFrames p && decide ((s.port p).places < 8)

/-- The reply to a management command joins the replies waiting; nothing else changes (R200, R205). -/
def State.replied (s : State) (c : Command) (tag : Byte) (r : Result) (content : Bytes) : State :=
  { s with uplink := { s.uplink with
      replies := s.uplink.replies ++ [{ tag := tag, payload := c.code :: r.code :: content }] } }

/-- The reply to a kiosk request joins the port's reply queue, and its good frame has lowered the Error Count by 1; nothing else
changes (R177, R181). -/
def State.answered (s : State) (c : KioskClass) (p : PortNo) (tag : Byte) (r : Result) (content : Bytes) : State :=
  { s with ports := s.ports.set p { s.port p with
      errorCount := (s.port p).errorCount - 1
      replies := (s.port p).replies ++ [{ cls := c.replyCode, tag := tag, payload := r.code :: content }] } }

/-- What a result comes to: the machine goes on to a state with this property. -/
def Reaches (o : Host.Outcome State Fault Refusal) (P : State → Prop) : Prop := ∃ t, o = .next t ∧ P t

/-! ## Comparing states -/

/-- The seat record at a pool address (R5). -/
def State.poolSeat (s : State) (a : Nat) : Seat := Sparse.get blankSeat s.seats.pool a

/-- The pool address of seat `k` of a show (R1). -/
def State.seatAddress (s : State) (i : ShowNo) (k : Nat) : Nat := (s.showAt i).seatBase + k

/-- Every seat record but those at these addresses is as it was. -/
def State.poolKept (s t : State) (addresses : List Nat) : Prop := ∀ a, a ∉ addresses → t.poolSeat a = s.poolSeat a

/-- Every directory entry is as it was, but for the live counts of one show. -/
def State.showsKept (s t : State) (i : ShowNo) : Prop :=
  (∀ j, j ≠ i → t.showAt j = s.showAt j) ∧ t.showAt i = { s.showAt i with counts := (t.showAt i).counts }

/-- A seat list's pool addresses in a show. -/
def State.seatAddresses (s : State) (i : ShowNo) (ks : List Nat) : List Nat := ks.map (s.seatAddress i)

/-- The number of listed seats in a state. -/
def State.countSeats (s : State) (i : ShowNo) (ks : List Nat) (st : SeatState → Bool) : Nat :=
  (ks.filter (fun k => st (s.seatAt i k).state)).length

/-- Seats return to FREE, a HOUSE seat to HOUSE (R7), and nothing else in the pool changes. -/
def State.seatsReturned (s t : State) (i : ShowNo) (ks : List Nat) : Prop :=
  (∀ k ∈ ks, t.seatAt i k = { s.seatAt i k with state := (s.seatAt i k).state.givenUp })
    ∧ s.poolKept t (s.seatAddresses i ks) ∧ s.showsKept t i

/-- Every seat of the lines is SOLD with the Sale Number, and with its line's ticket type where no seat has two lines; nothing else
in the pool changes (R100). -/
def State.seatsSold (s t : State) (i : ShowNo) (sale : Nat) (lines : List PricedLine) : Prop :=
  (∀ l ∈ lines, ∃ ty, t.seatAt i l.seat = { s.seatAt i l.seat with state := .sold sale ty })
    ∧ ((lines.map (·.seat)).Nodup → ∀ l ∈ lines,
        t.seatAt i l.seat = { s.seatAt i l.seat with state := .sold sale l.ticketType })
    ∧ s.poolKept t (s.seatAddresses i (lines.map (·.seat))) ∧ s.showsKept t i

/-- An address of the range of a show that is not EMPTY (R1, R2). -/
def State.inAShow (s : State) (a : Nat) : Bool :=
  allShows.any (fun i => decide ((s.showAt i).state ≠ .empty) && decide ((s.showAt i).seatBase ≤ a)
    && decide (a < (s.showAt i).seatBase + (s.showAt i).seatCount))

/-- The seats that `f` picks by pool address return to FREE, a HOUSE seat to HOUSE (R7); every other seat record is as it was, and so
is the directory but for live counts. -/
def State.givesUp (s t : State) (f : Nat → Bool) : Prop :=
  (∀ a, t.poolSeat a = if f a then { s.poolSeat a with state := (s.poolSeat a).state.givenUp } else s.poolSeat a)
    ∧ ∀ i, t.showAt i = { s.showAt i with counts := (t.showAt i).counts }

/-- The pool addresses of the seats that a basket's lines name. -/
def State.lineAddresses (s : State) (b : Basket) : List Nat := s.seatAddresses b.handle.index (b.seatLines.map (·.seat))

/-- What a void of a port's basket gives back: its lines and claims, or nothing while it is AUTHORISING (R60, R62). -/
def State.voidable (s : State) (p : PortNo) : Basket :=
  if (s.basket p).state = .authorising then Basket.reset else s.basket p

/-- A serial's slot holds what `f` makes of it; a serial that names no slot still names none. -/
def State.slotBecomes (s t : State) (serial : Nat) (f : Slot → Slot) : Prop :=
  t.slotOf serial = (s.slotOf serial).map (fun x => (x.1, f x.2))

/-- Every voucher slot but those of these serials is as it was, and so is the Serial Index. -/
def State.slotsKept (s t : State) (serials : List Nat) : Prop :=
  t.vouchers.index = s.vouchers.index
    ∧ ∀ n, (∀ k ∈ serials, s.indexed k ≠ some n) → t.slotAt n = s.slotAt n

/-- These vouchers, where CLAIMED, are ISSUED again (R118), and nothing else in the Voucher Table changes. -/
def State.claimsReturned (s t : State) (serials : List Nat) : Prop :=
  (∀ k ∈ serials, s.slotBecomes t k Slot.unclaim) ∧ s.slotsKept t serials
    ∧ t.vouchers = { s.vouchers with slots := t.vouchers.slots }

/-- Foyer Control is as it was, but for the notices waiting. -/
def State.controlKept (s t : State) : Prop :=
  t.control = { s.control with notices := t.control.notices, noticesLost := t.control.noticesLost }

/-- The uplink holds what it held. -/
def State.uplinkKept (s t : State) : Prop := t.uplink = s.uplink

/-- The waits of the Print Engine are as they were; its jobs, channels, owed documents and job counter may move on. -/
def State.printKept (s t : State) : Prop :=
  t.print = { s.print with
    jobs := t.print.jobs, channels := t.print.channels, owed := t.print.owed, jobCounter := t.print.jobCounter }

/-- The uplink after an AUTH_REQUEST has been withdrawn: it waits no longer, and one that has started is sent whole (R94). -/
def UplinkUnit.without (u : UplinkUnit) (tag : Nat) : UplinkUnit :=
  { u with
    authRequests := u.authRequests.filter (fun r => decide (r.tag ≠ tag))
    sending := u.sending.map (fun x => if x.source = .authRequest tag then { x with source := .detached } else x) }

/-- A kept place is freed, and where the port is ACTIVE the PAY_RESULT takes it, behind the replies waiting (R88, R181). -/
def Port.resulted (x : Port) (make : Bool) (r : Result) (content : Bytes) : Port :=
  match x.kept with
  | none => x
  | some tag => { x with
      kept := none
      replies := x.replies ++ if make then [{ cls := KioskClass.pay.replyCode, tag := tag, payload := r.code :: content }] else [] }

/-! ## Seats lost, loaded and shared -/

/-- A basket whose seat lines for the seats that `f` picks leave other than at its own request (R21, R59): a PRICED basket that
still holds something becomes BUILDING with Lapsed set, one left with nothing becomes EMPTY with Lapsed clear, and the rest
stays. -/
def Basket.lostSeats (b : Basket) (f : Nat → Bool) : Basket :=
  let b' := { b with seatLines := b.seatLines.filter (fun l => !f l.seat) }
  if b'.holds = false then { b' with state := .empty, lapsed := false, snapshot := none }
  else if b.state = .priced then { b' with state := .building, lapsed := true, snapshot := none }
  else b'

/-- The address ranges of two shows that are not EMPTY never meet (R13). -/
def State.disjointShows (s : State) : Prop :=
  ∀ i j, i ≠ j → (s.showAt i).state ≠ .empty → (s.showAt j).state ≠ .empty →
    (s.showAt i).seatBase + (s.showAt i).seatCount ≤ (s.showAt j).seatBase
      ∨ (s.showAt j).seatBase + (s.showAt j).seatCount ≤ (s.showAt i).seatBase

/-- A seat record that Load Seats can carry (R14): Row Label of 1 or 2 characters, Seat Number not 0, and FREE, HOUSE, or SOLD
with Sale Number 0 and Ticket Type 0. -/
def Seat.loadable (x : Seat) : Prop :=
  1 ≤ x.rowLabel.length ∧ x.rowLabel.length ≤ 2 ∧ printable x.rowLabel = true ∧ 1 ≤ x.number ∧ x.number ≤ 255
    ∧ (x.state = .free ∨ x.state = .house ∨ x.state = .sold 0 0)

/-- A record of Load Seats: zone, Row Label, Seat Number, initial state (R14, R204). -/
def Seat.loadBytes (x : Seat) : Bytes := u8 x.zone.val ++ text x.rowLabel ++ u8 x.number ++ u8 x.state.code

/-- FREE. -/
def SeatState.isFree : SeatState → Bool
  | .free => true
  | _ => false

/-- HOUSE. -/
def SeatState.isHouse : SeatState → Bool
  | .house => true
  | _ => false

/-- A list of seat indices as a request or command carries it: a count and the indices (R204). -/
def seatList (ks : List Nat) : Bytes := u8 ks.length ++ ks.flatMap u16

/-- A list that HOLD and RELEASE admit: 1 to 10 indices of two bytes, none twice (R26, R30). -/
def goodSeatList (ks : List Nat) : Prop := 1 ≤ ks.length ∧ ks.length ≤ 10 ∧ noRepeat ks = true ∧ ∀ k ∈ ks, k < 65536

/-- A seat HELD by this port whose lease has reached 0, in a show that is not EMPTY (R35). -/
def State.lapsedSeat (s : State) (p : PortNo) (i : ShowNo) (k : Nat) : Bool :=
  decide ((s.showAt i).state ≠ .empty) && decide (k < (s.showAt i).seatCount) && (s.seatAt i k).state.lapsedLease
    && (s.seatAt i k).state.heldBy p

/-! ## Invariants of a safe run -/

/-- Sum of the Reservation Counts of the Authorisation List (R117). -/
def PaymentRelay.reserved (r : PaymentRelay) : Nat := (r.entries.map (·.reservation)).sum

/-- The Payment Relay and the Voucher Table agree: the reservation count is the sum of the entries' Reservation Counts (R117),
each the number of its combo lines (R91), no two entries carry one tag (R91, R92), the list holds at most 24, the tag counter is 1
to 65,535, the reserved slots are there to be taken (R117), slot numbers are 0 to 4,095 (R112), and the Serial Index pairs each
serial with the one slot in use that carries it, and nothing else (R114). -/
structure State.RelaySound (s : State) : Prop where
  reservation : s.vouchers.reservation = s.relay.reserved
  reservations : ∀ e ∈ s.relay.entries, e.reservation = e.combos.length
  tags : (s.relay.entries.map (·.tag)).Nodup
  entries : s.relay.entries.length ≤ 24
  tagCounter : 1 ≤ s.relay.tagCounter ∧ s.relay.tagCounter ≤ 65535
  room : s.vouchers.used + s.vouchers.reservation ≤ 4096
  slotNumbers : ∀ c ∈ s.vouchers.slots, c.1 < 4096
  index : ∀ serial n, s.indexed serial = some n ↔ ∃ v, (s.slotAt n).voucher = some v ∧ v.serial = serial

/-- The number of a show's seats in a state (R9). -/
def State.seatsIn (s : State) (i : ShowNo) (st : SeatState → Bool) : Nat :=
  s.countSeats i (List.range (s.showAt i).seatCount) st

/-- The handle of the show at a directory index (R3). -/
def State.handleOf (s : State) (i : ShowNo) : Handle := { index := i, generation := (s.showAt i).generation }

/-- PENDING under this Tag. -/
def SeatState.pendingUnder (tag : Nat) : SeatState → Bool
  | .pending t _ => decide (t = tag)
  | _ => false

/-- PENDING. -/
def SeatState.isPending : SeatState → Bool
  | .pending .. => true
  | _ => false

/-- SOLD. -/
def SeatState.isSold : SeatState → Bool
  | .sold .. => true
  | _ => false

/-- The seats of a basket's seat lines, in order. -/
def Basket.seats (b : Basket) : List Nat := b.seatLines.map (·.seat)

/-- The seats of an entry's seat lines, in order. -/
def AuthEntry.seats (e : AuthEntry) : List Nat := e.seatLines.map (·.seat)

/-- The seats a list of lines names are seats of the handle's show, each once and in this state. -/
def State.seatsAre (s : State) (h : Handle) (ks : List Nat) (st : SeatState → Bool) : Prop :=
  ks.Nodup ∧ ∀ k ∈ ks, s.current h = true ∧ k < (s.showAt h.index).seatCount ∧ st (s.seatAt h.index k).state = true

/-- The shows, the baskets and the Authorisation List agree about every seat: shows lie in the pool (R13) and apart from one
another, their live counts are the numbers of their seats in each state (R9), a LOADING show has no seat HELD or PENDING (R14), a
seat line of a basket that is not AUTHORISING names a seat HELD by its port and every HELD seat has such a line (R43), an entry's
seats are PENDING under its Tag and every PENDING seat is some entry's (R92), the basket of an ACTIVE entry's origin port is
AUTHORISING with its seats (R43, R93), no port has two ACTIVE entries, a basket's State, Lapsed and snapshot stand to its contents
as R43's table gives, and a snapshot is of its basket's seats (R80). -/
structure State.SeatsAgree (s : State) : Prop where
  ranges : ∀ i, (s.showAt i).state ≠ .empty →
    1 ≤ (s.showAt i).seatCount ∧ (s.showAt i).seatCount ≤ 1024 ∧ (s.showAt i).seatBase + (s.showAt i).seatCount ≤ 32768
  apart : s.disjointShows
  counts : ∀ i, (s.showAt i).state ≠ .empty → (s.showAt i).counts =
    { free := s.seatsIn i SeatState.isFree, held := s.seatsIn i SeatState.isHeld, pending := s.seatsIn i SeatState.isPending
      sold := s.seatsIn i SeatState.isSold, house := s.seatsIn i SeatState.isHouse }
  loading : ∀ i k, (s.showAt i).state = .loading → k < (s.showAt i).seatCount →
    (s.seatAt i k).state.isHeld = false ∧ (s.seatAt i k).state.isPending = false
  held : ∀ i k p, (s.showAt i).state ≠ .empty → k < (s.showAt i).seatCount → (s.seatAt i k).state.heldBy p = true →
    (s.basket p).state ≠ .authorising ∧ (s.basket p).handle = s.handleOf i ∧ k ∈ (s.basket p).seats
  lines : ∀ p, (s.basket p).state ≠ .authorising →
    s.seatsAre (s.basket p).handle (s.basket p).seats (SeatState.heldBy p)
  pending : ∀ i k tag, (s.showAt i).state ≠ .empty → k < (s.showAt i).seatCount →
    (s.seatAt i k).state.pendingUnder tag = true →
    ∃ e ∈ s.relay.entries, e.tag = tag ∧ e.handle = s.handleOf i ∧ k ∈ e.seats
  entries : ∀ e ∈ s.relay.entries, s.seatsAre e.handle e.seats (SeatState.pendingUnder e.tag)
  authorising : ∀ e ∈ s.relay.entries, e.state ≠ .lost → (s.basket e.origin).state = .authorising
    ∧ (s.basket e.origin).handle = e.handle ∧ (s.basket e.origin).seats = e.seats
  origins : ((s.relay.entries.filter AuthEntry.isActive).map (·.origin)).Nodup
  contents : ∀ p,
    ((s.basket p).state = .empty → (s.basket p).holds = false ∧ (s.basket p).snapshot = none ∧ (s.basket p).lapsed = false)
    ∧ ((s.basket p).state = .building → (s.basket p).holds = true ∧ (s.basket p).snapshot = none)
    ∧ ((s.basket p).state = .priced → (s.basket p).seatLines ≠ [] ∧ (s.basket p).lapsed = false)
    ∧ ((s.basket p).state = .authorising → (s.basket p).seatLines ≠ [] ∧ (s.basket p).lapsed = false
        ∧ ∃ e ∈ s.relay.entries, e.state ≠ .lost ∧ e.origin = p)
  snapshots : ∀ p, (s.basket p).state = .priced ∨ (s.basket p).state = .authorising →
    ∃ x, (s.basket p).snapshot = some x ∧ x.seats.map (·.seat) = (s.basket p).seats

/-- No more than two Credit Claims are held, nor would be after an undo of any part of the stack in which every entry is reversed. -/
def claimsFit : List Nat → List UndoEntry → Bool
  | claims, [] => decide (claims.length ≤ 2)
  | claims, .applyCredit n :: rest => decide (claims.length ≤ 2) && claimsFit (claims.erase n) rest
  | claims, .removeCredit n :: rest => decide (claims.length ≤ 2) && claimsFit (claims ++ [n]) rest
  | claims, _ :: rest => claimsFit claims rest

/-- The capacities of the collections: reply queues of 8 places (R181), downward buffers of 4 (R184), Undo Stacks of 8 (R53),
baskets of 10 seat lines, 6 combo lines and 2 credit claims (R42), which UNDO finds again because its entries fit, snapshots of 10
seat lines (R80), 24 authorisations (R91), each with the lines and claims of a basket, 32 jobs (R132), 64 owed entries (R146), 16
documents in each (R130, R131), 32 notices (R201), 16 management replies (R200), and 4 frames in each upward buffer (R183). -/
structure State.Bounded (s : State) : Prop where
  places : ∀ p, (s.port p).places ≤ 8
  downPass : ∀ p, (s.port p).downPass.length ≤ 4
  upwardPass : ∀ p, (s.upwardOf p).length ≤ 4
  undo : ∀ p, (s.basket p).undo.length ≤ 8
  seatLines : ∀ p, (s.basket p).seatLines.length ≤ 10
  combos : ∀ p, (s.basket p).combos.length ≤ 6
  claims : ∀ p, (s.basket p).claims.length ≤ 2
  undoneClaims : ∀ p, claimsFit (s.basket p).claims (s.basket p).undo = true
  snapshots : ∀ p x, (s.basket p).snapshot = some x → x.seats.length ≤ 10
  entries : s.relay.entries.length ≤ 24
  entryLines : ∀ e ∈ s.relay.entries, e.seatLines.length ≤ 10 ∧ e.combos.length ≤ 6 ∧ e.claims.length ≤ 2
  documents : ∀ j ∈ s.print.jobs, j.docs.length ≤ 16
  owedDocuments : ∀ e ∈ s.print.owed, e.docs.length ≤ 16
  jobs : s.print.jobs.length ≤ 32
  owed : s.print.owed.length ≤ 64
  notices : s.control.notices.length ≤ 32
  replies : s.uplink.replies.length ≤ 16

/-- A copy of the price tables with every value in its range (R66 to R69). -/
structure PriceTables.InRange (t : PriceTables) : Prop where
  prices : ∀ (b : Fin 8) (z : Fin 4), t.base[b][z] ≤ 65535
  factors : ∀ k : Fin 8, t.types[k].factor ≤ 2000
  typeNames : ∀ k : Fin 8, t.types[k].name.length ≤ 8 ∧ printable t.types[k].name = true
  comboPrices : ∀ k : Fin 32, t.combos[k].price ≤ 65535
  discounts : ∀ k : Fin 32, t.combos[k].discount ≤ 1000
  minSeats : ∀ k : Fin 32, t.combos[k].minSeats ≤ 10
  comboNames : ∀ k : Fin 32, t.combos[k].name.length ≤ 16 ∧ printable t.combos[k].name = true
  rates : t.ticketRate ≤ 5000 ∧ t.snackRate ≤ 5000
  ceiling : 1 ≤ t.ceiling ∧ t.ceiling ≤ 16777215

/-- The settings and counters with every value in its range: both price copies (R65) and the generation, the lease settings
(R32), the Auth Timeout (R96), the waits (R143), the clock (R195), the tag counter (R92), the job counter (R130), the Sale Number
and Voucher Serial counters (R107, R115), and the Error Counts (R176). -/
structure State.InRange (s : State) : Prop where
  live : s.prices.live.InRange
  staged : s.prices.staged.InRange
  generation : s.prices.generation ≤ 255
  leaseTime : 30 ≤ s.seats.leaseTime ∧ s.seats.leaseTime ≤ 900
  declineGrace : 15 ≤ s.seats.declineGrace ∧ s.seats.declineGrace ≤ 300
  authTimeout : 10 ≤ s.relay.authTimeout ∧ s.relay.authTimeout ≤ 120
  printerWait : 5 ≤ s.print.printerWait ∧ s.print.printerWait ≤ 60
  paperWait : 30 ≤ s.print.paperWait ∧ s.print.paperWait ≤ 600
  day : s.control.day ≤ 65535
  seconds : s.control.seconds ≤ 86399
  tagCounter : 1 ≤ s.relay.tagCounter ∧ s.relay.tagCounter ≤ 65535
  jobCounter : 1 ≤ s.print.jobCounter ∧ s.print.jobCounter ≤ 65535
  saleCounter : s.relay.saleCounter ≤ 4294967295
  serialCounter : s.vouchers.serialCounter ≤ 16777215
  errorCounts : ∀ p, (s.port p).errorCount ≤ 255

/-- Every addressed store in its canonical form: the Seat Pool, the voucher slots, the Serial Index, the Template Store's bytes
and the Site Record. -/
structure State.Canonical (s : State) : Prop where
  pool : Sparse.wf blankSeat s.seats.pool = true
  slots : Sparse.wf freeSlot s.vouchers.slots = true
  index : Sparse.wf noSlot s.vouchers.index = true
  cells : Sparse.wf s.store.unlisted s.store.cells = true
  siteRecord : Sparse.wf erasedByte s.store.siteRecord = true

/-- A program in progress stays within its page (R162). -/
def StoreOp.fits : StoreOp → Prop
  | .programPage _ _ o data _ => o + data.length ≤ 256
  | _ => True

/-- R162, R166: an operation in progress works on no protected sector, and a program stays within its page. -/
def State.worksUnprotected (s : State) : Prop :=
  ∀ op, s.store.operation = some op → op.fits ∧ ∀ k, op.works k = true → s.store.protects k = false

/-- A byte of a sector within the Protect Span (R166). -/
def TemplateStore.guarded (st : TemplateStore) (a : Nat) : Prop := ∃ k : SectorNo, a / 4096 = k.val ∧ st.protects k = true

end Sys2Proof.Machine
end

