-- ==== Sys2Proof/Certificates/Slice0/Obligations.lean ====
section
/-! DEFINITION. The statements about the model, from the numbered rules of spec/. -/

open Sys2Proof Sys2Proof.Machine

/-! ## The machine as a whole -/

/-- The command at the front of the queue is carried out whole, on the state with the queue's rest (R8, R10). On an empty queue
the block idles: the model's choice (assumption 1). -/
def Obligations.StepRunsFrontCommand : Prop :=
  (∀ (c : Instr) (rest : List Instr) (s : State),
      step { s with pending := c :: rest } = exec c { s with pending := rest })
  ∧ ∀ s : State, s.pending = [] → step s = .next s

/-- Every command answers a next state, whatever it carries and whatever the state (R200: a command is served or discarded), and no
command touches the queue: the queue is the model's, filled from outside (assumption 3). -/
def Obligations.EveryCommandAnswersAndKeepsTheQueue : Prop :=
  ∀ (c : Instr) (s : State), Reaches (exec c s) fun t => t.pending = s.pending

/-! ## Resets and start-up -/

/-- Power-on and the Reset input take every block but the Template Store to its reset values, the pins keep their levels and
nothing runs until start-up (R4, R11, R44, R70, R109, R128, R154, R189, R198); the Template Store is left as State.resetPart leaves it
(StoreAfterEveryReset). That the pins keep their levels is the model's choice (assumption 9), that power-on awaits START_UP its reading
(assumption 6); what a second assertion of Reset does (assumption 8), and that the cause stays POWER after a power-on taken while
Reset is low (assumption 54), are the model's choices. -/
def Obligations.ResetsTakeEveryBlock : Prop :=
  (∀ s : State, Reaches (exec .powerOn s) fun t =>
    t.seats = SeatTable.reset ∧ t.baskets = Vector.replicate 16 Basket.reset ∧ t.prices = PriceUnit.reset
      ∧ t.relay = PaymentRelay.reset ∧ t.vouchers = VoucherTable.reset ∧ t.print = PrintEngine.reset
      ∧ t.ports = Vector.replicate 16 Port.reset ∧ t.uplink = UplinkUnit.reset
      ∧ t.store = (s.resetPart .power).store
      ∧ t.control = FoyerControl.reset .power s.control.resetLow s.control.keyActive)
  ∧ (∀ s : State, s.control.resetLow = false → Reaches (exec .resetInputAsserted s) fun t =>
    t.seats = SeatTable.reset ∧ t.baskets = Vector.replicate 16 Basket.reset ∧ t.prices = PriceUnit.reset
      ∧ t.relay = PaymentRelay.reset ∧ t.vouchers = VoucherTable.reset ∧ t.print = PrintEngine.reset
      ∧ t.ports = Vector.replicate 16 Port.reset ∧ t.uplink = UplinkUnit.reset
      ∧ t.store = (s.resetPart .line).store
      ∧ t.control = FoyerControl.reset .line true s.control.keyActive)
  ∧ ∀ s : State, s.control.resetLow = true → exec .resetInputAsserted s = .next s

/-- R173, for every cause of a reset: what the Template Store keeps and what it loses. -/
def Obligations.StoreAfterEveryReset : Prop :=
  ∀ (s : State) (cause : ResetCause),
    let t := s.resetPart cause
    (s.store.operation = none → ∀ a, t.store.byte a = s.store.byte a)
    ∧ (∀ op, s.store.operation = some op → ∀ (k : SectorNo) (a : Nat), op.works k = false → a / 4096 = k.val →
        t.store.byte a = s.store.byte a)
    ∧ t.store.unsettled = s.store.unsettled
    ∧ t.store.protectSpan = s.store.protectSpan ∧ t.store.protectLock = s.store.protectLock
    ∧ (∀ a, Sparse.get erasedByte t.store.siteRecord a = Sparse.get erasedByte s.store.siteRecord a)
    ∧ t.store.siteLock = s.store.siteLock
    ∧ t.store.operation = none ∧ t.store.writeEnable = false
    ∧ t.store.writeAborted = (match cause, s.store.operation with
        | .power, _ => none
        | _, some op => some op.aborted
        | _, none => s.store.writeAborted)
    ∧ t.control.notices = []

/-- R198: start-up begins the tick and queues START, which reports the Reset Cause, Write Aborted and the Site Lock, whatever
the enables hold; at the Reset input it comes in the step of the release. R199: Restart is answered OK and leaves Restart Pending
set; the reset and the start-up come in the step in which its reply has been sent, or at once if the uplink is DOWN, or when the
link goes DOWN. That Restart's reply is the last (assumption 32),
that START_UP acts alone after a power-on (assumption 6) and that it awaits the release of Reset where that is low (assumption 54)
are the model's. -/
def Obligations.StartUpAndRestart : Prop :=
  (∀ s : State, s.control.running = false → s.control.notices = [] →
    let start : Notice :=
      { code := 1, carriesLost := false, day := s.control.day, seconds := s.control.seconds, content := s.startContent }
    (s.control.resetLow = false → exec .startUp s = .next { s with control := { s.control with
      running := true, tickRunning := true, notices := [start] } })
    ∧ (s.control.resetLow = true → exec .resetInputReleased s = .next { s with control := { s.control with
      running := true, tickRunning := true, notices := [start], resetLow := false } }))
  ∧ (∀ (tag : Byte) (s : State), s.takesCommand (some .restart) = true → s.uplink.linkUp = true →
    exec (.restart tag []) s = .next (({ s with control := { s.control with restartPending := true } } : State).replied
      .restart tag .ok []))
  ∧ (∀ (tag : Byte) (s : State), s.takesCommand (some .restart) = true → s.uplink.linkUp = false →
    exec (.restart tag []) s = .next (s.resetPart .command).start)
  ∧ (∀ (s : State) (x : UplinkSending), s.control.restartPending = true → s.uplink.sending = some x → x.source = .reply →
    s.uplink.replies.length = 1 → exec .uplinkFrameEnd s = .next (s.resetPart .command).start)
  ∧ ∀ s : State, s.control.restartPending = true → exec .uplinkLinkDown s = .next (s.resetPart .command).start

/-! ## Shows and the seat map -/

/-- R13: Define Show writes the entry LOADING with its live counts, and every record of its range HOUSE and unloaded.
The widths of the arguments that chapter 11 does not list are the model's (assumption 15). -/
def Obligations.DefineShowWritesItsRange : Prop :=
  ∀ (tag : Byte) (i : ShowNo) (base n : Nat) (band : Fin 8) (surcharge : Nat) (template : SectorNo) (day time grace : Nat)
    (title : Bytes) (s : State),
    s.takesCommand (some .defineShow) = true → (s.showAt i).state = .empty → 1 ≤ n → n ≤ 1024 → base + n ≤ 32768 →
    surcharge < 16777216 → day < 65536 → time ≤ 86399 → grace ≤ 7 → title.length ≤ 32 → printable title = true →
    (∀ j, (s.showAt j).state ≠ .empty → base + n ≤ (s.showAt j).seatBase
      ∨ (s.showAt j).seatBase + (s.showAt j).seatCount ≤ base) →
    Reaches (exec (.defineShow tag (u8 i.val ++ u16 base ++ u16 n ++ u8 band.val ++ u24 surcharge ++ u8 template.val
        ++ u16 day ++ u24 time ++ u8 grace ++ text title)) s) fun t =>
      t.showAt i =
        { state := .loading, generation := (s.showAt i).generation, seatBase := base, seatCount := n, priceBand := band,
          surcharge := min 4095 surcharge, ticketTemplate := template, startDay := day, startTime := time,
          graceDays := grace, title := title, counts := { free := 0, held := 0, pending := 0, sold := 0, house := n } }
      ∧ (∀ j, j ≠ i → t.showAt j = s.showAt j)
      ∧ (∀ a, t.poolSeat a = if base ≤ a ∧ a < base + n then Seat.blank else s.poolSeat a)
      ∧ t = ({ s with seats := { s.seats with shows := t.seats.shows, pool := t.seats.pool } } : State).replied .defineShow tag
          .ok (u8 i.val ++ u8 (s.showAt i).generation ++ u24 (min 4095 surcharge))

/-- R14: Load Seats writes every record given, to consecutive seat indices of a LOADING show, and no other. The codes
of the Initial State are the model's (assumption 50). -/
def Obligations.LoadSeatsWritesRecords : Prop :=
  ∀ (tag : Byte) (h : Handle) (first : Nat) (xs : List Seat) (s : State),
    s.takesCommand (some .loadSeats) = true → h.generation < 256 → (s.showAt h.index).generation = h.generation →
    (s.showAt h.index).state = .loading → (∀ x ∈ xs, x.loadable) → 1 ≤ xs.length → xs.length ≤ 40 → first < 65536 →
    first + xs.length ≤ (s.showAt h.index).seatCount →
    Reaches (exec (.loadSeats tag (h.bytes ++ u16 first ++ u8 xs.length ++ xs.flatMap Seat.loadBytes)) s) fun t =>
      (∀ (j : Nat) (x : Seat), xs[j]? = some x → t.seatAt h.index (first + j) = x)
      ∧ s.poolKept t (s.seatAddresses h.index ((List.range xs.length).map (fun j => first + j)))
      ∧ s.showsKept t h.index
      ∧ t = ({ s with seats := { s.seats with shows := t.seats.shows, pool := t.seats.pool } } : State).replied .loadSeats tag
          .ok (u8 xs.length ++ (t.showAt h.index).counts.bytes ++ u16 (t.unloaded h.index))

/-- R15, R16, R17: the show goes ON_SALE, then CLOSED, then EMPTY with its Generation advanced. The order of Open Show's reply
(assumption 21) and the blank records after Remove Show (assumption 10) are the model's. -/
def Obligations.ShowsOpenCloseAndGo : Prop :=
  ∀ (tag : Byte) (h : Handle) (s : State), h.generation < 256 → (s.showAt h.index).generation = h.generation →
    (s.takesCommand (some .openShow) = true → (s.showAt h.index).state = .loading →
      exec (.openShow tag h.bytes) s = .next ((s.setShow h.index { s.showAt h.index with state := .onSale }).replied .openShow
        tag .ok (u16 (s.unloaded h.index) ++ (s.showAt h.index).counts.bytes)))
    ∧ (s.takesCommand (some .closeShow) = true → (s.showAt h.index).state = .onSale →
      exec (.closeShow tag h.bytes) s = .next ((s.setShow h.index { s.showAt h.index with state := .closed }).replied
        .closeShow tag .ok []))
    ∧ (s.takesCommand (some .removeShow) = true → (s.showAt h.index).state = .closed →
      (s.showAt h.index).counts.held = 0 → (s.showAt h.index).counts.pending = 0 →
      Reaches (exec (.removeShow tag h.bytes) s) fun t =>
        (t.showAt h.index).state = .empty ∧ (t.showAt h.index).generation = (h.generation + 1) % 16
        ∧ (∀ j, j ≠ h.index → t.showAt j = s.showAt j)
        ∧ (∀ a, t.poolSeat a = if (s.showAt h.index).seatBase ≤ a
              ∧ a < (s.showAt h.index).seatBase + (s.showAt h.index).seatCount then Seat.blank else s.poolSeat a)
        ∧ t = ({ s with seats := { s.seats with shows := t.seats.shows, pool := t.seats.pool } } : State).replied .removeShow
            tag .ok (u8 ((h.generation + 1) % 16)))

/-- R18, R19: Set Seat toggles a seat between FREE and HOUSE, and Mark Sold makes every listed FREE or HOUSE seat SOLD with the
Sale Number and type given; no other seat changes. The count before the list of seats is the model's (assumption 55). -/
def Obligations.SeatsMarkedByManagement : Prop :=
  ∀ (tag : Byte) (h : Handle) (s : State), h.generation < 256 → (s.showAt h.index).generation = h.generation →
    (∀ k : Nat, s.takesCommand (some .setSeat) = true → (s.showAt h.index).state ≠ .empty → k < (s.showAt h.index).seatCount →
      k < 65536 →
      ((s.seatAt h.index k).state = .free → exec (.setSeat tag (h.bytes ++ u16 k)) s =
        .next ((s.setSeatState h.index k .house).replied .setSeat tag .ok (u8 1)))
      ∧ ((s.seatAt h.index k).state = .house → exec (.setSeat tag (h.bytes ++ u16 k)) s =
        .next ((s.setSeatState h.index k .free).replied .setSeat tag .ok (u8 0))))
    ∧ ∀ (sale : Nat) (ty : Fin 8) (ks : List Nat), s.takesCommand (some .markSold) = true →
      ((s.showAt h.index).state = .onSale ∨ (s.showAt h.index).state = .closed) → sale < 4294967296 →
      1 ≤ ks.length → ks.length ≤ 40 → noRepeat ks = true →
      (∀ k ∈ ks, k < (s.showAt h.index).seatCount ∧ k < 65536
        ∧ ((s.seatAt h.index k).state = .free ∨ (s.seatAt h.index k).state = .house)) →
      Reaches (exec (.markSold tag (h.bytes ++ u32 sale ++ u8 ty.val ++ seatList ks)) s) fun t =>
        (∀ k ∈ ks, t.seatAt h.index k = { s.seatAt h.index k with state := .sold sale ty })
        ∧ s.poolKept t (s.seatAddresses h.index ks) ∧ s.showsKept t h.index
        ∧ (t.showAt h.index).counts = { (s.showAt h.index).counts with
            free := (s.showAt h.index).counts.free - s.countSeats h.index ks SeatState.isFree
            house := (s.showAt h.index).counts.house - s.countSeats h.index ks SeatState.isHouse
            sold := (s.showAt h.index).counts.sold + ks.length }
        ∧ t = ({ s with seats := { s.seats with shows := t.seats.shows, pool := t.seats.pool } } : State).replied .markSold tag
            .ok (u8 ks.length)

/-- R20, R21, R35: Release Block returns every HELD seat of the block, and the expiry of leases every seat whose lease is 0; each
leaves the basket of its Owner Port in the same step, and no other seat or line changes. That LEASE_EXPIRY acts alone, on the leases at 0
when it comes, is the model's reading (assumption 4). -/
def Obligations.HeldSeatsLeaveTheirBaskets : Prop :=
  (∀ (tag : Byte) (h : Handle) (block : Nat) (s : State), h.generation < 256 →
    (s.showAt h.index).generation = h.generation → (s.showAt h.index).state ≠ .empty →
    s.takesCommand (some .releaseBlock) = true → block < 256 → 16 * block < (s.showAt h.index).seatCount →
    let ks := blockSeats (s.showAt h.index).seatCount block
    let held := fun k => ks.contains k && (s.seatAt h.index k).state.isHeld
    Reaches (exec (.releaseBlock tag (h.bytes ++ u8 block)) s) fun t =>
      s.seatsReturned t h.index (ks.filter held)
      ∧ (∀ p, t.basket p =
          if ks.any (fun k => (s.seatAt h.index k).state.heldBy p) then
            (s.basket p).lostSeats (fun k => ks.contains k && (s.seatAt h.index k).state.heldBy p)
          else s.basket p)
      ∧ t = ({ s with
            seats := { s.seats with shows := t.seats.shows, pool := t.seats.pool }, baskets := t.baskets } : State).replied
          .releaseBlock tag .ok (u8 (ks.filter held).length))
  ∧ ∀ s : State, s.control.running = true → s.disjointShows →
    Reaches (exec .leaseExpiry s) fun t =>
      (∀ i k, (s.showAt i).state ≠ .empty → k < (s.showAt i).seatCount →
        t.seatAt i k = if (s.seatAt i k).state.lapsedLease then
            { s.seatAt i k with state := (s.seatAt i k).state.givenUp } else s.seatAt i k)
      ∧ (∀ p, t.basket p =
          if allShows.any (fun i => (List.range (s.showAt i).seatCount).any (s.lapsedSeat p i)) then
            (s.basket p).lostSeats (fun k => allShows.any (fun i => s.lapsedSeat p i k))
          else s.basket p)
      ∧ t = { s with seats := { s.seats with shows := t.seats.shows, pool := t.seats.pool }, baskets := t.baskets }

/-! ## Holds and leases -/

/-- R28, R33: a HOLD that passes makes every listed seat the basket does not yet hold HELD by the port under a new lease, adds its
lines with ticket type 0 and pushes one undo entry. -/
def Obligations.HoldTakesSeats : Prop :=
  ∀ (p : PortNo) (tag : Byte) (h : Handle) (ks : List Nat) (s : State),
    s.hears p = true → s.control.foyer = .opened → (s.port p).role ≠ .counter → h.generation < 256 → goodSeatList ks →
    s.holdCheck p h ks = none → s.holdFailures p h.index ks = [] →
    let new := ks.filter (s.isNew p h.index)
    new ≠ [] →
    Reaches (exec (.hold p tag (h.bytes ++ seatList ks)) s) fun t =>
      (∀ k ∈ new, t.seatAt h.index k = { s.seatAt h.index k with
          state := .held p s.seats.leaseTime (s.seatAt h.index k).state.isHouse })
      ∧ s.poolKept t (s.seatAddresses h.index new) ∧ s.showsKept t h.index
      ∧ (t.showAt h.index).counts = { (s.showAt h.index).counts with
          free := (s.showAt h.index).counts.free - s.countSeats h.index new SeatState.isFree
          house := (s.showAt h.index).counts.house - s.countSeats h.index new SeatState.isHouse
          held := (s.showAt h.index).counts.held + new.length }
      ∧ t.basket p = { s.basket p with
          handle := h
          seatLines := (s.basket p).seatLines ++ new.map (fun k => ({ seat := k, ticketType := 0 } : SeatLine))
          state := .building, undo := (UndoEntry.hold h new :: (s.basket p).undo).take 8, lapsed := false, snapshot := none }
      ∧ t = ({ s with
            seats := { s.seats with shows := t.seats.shows, pool := t.seats.pool }
            baskets := s.baskets.set p (t.basket p) } : State).answered .hold p tag .ok
          (u8 (t.basket p).seatLines.length ++ ks.flatMap (fun k =>
            u16 k ++ [(if new.contains k then Result.new else Result.already).code] ++ u16 (t.seatAt h.index k).state.lease))

/-- R26, R27, R29: a HOLD is refused whole, changing no seat and no basket: CLOSED outside an OPEN foyer, NOT_ON_SALE, STALE_SHOW,
OUT_OF_MAP with the indices past the map, BUSY for an AUTHORISING basket, MIXED_SHOW beside lines of another show, BASKET_FULL past
10 seat lines, in that order; then for seats that are not sold in their zone, are HOUSE at a port that is not BOXOFFICE, or are
taken, which it lists with their reasons, the first one's being the result. A HOLD that names only seats the basket already holds
changes nothing. That BUSY comes first also for the PENDING seats of the port's own entry is the model's reading (assumption 51). -/
def Obligations.HoldIsAllOrNone : Prop :=
  ∀ (p : PortNo) (tag : Byte) (h : Handle) (ks : List Nat) (s : State),
    s.hears p = true → s.control.foyer ≠ .unconfigured → (s.port p).role ≠ .counter → h.generation < 256 → goodSeatList ks →
    let b := s.basket p
    let sh := s.showAt h.index
    let beyond := ks.filter (fun k => decide (sh.seatCount ≤ k))
    let notHeld := ks.filter (fun k => match (s.seatAt h.index k).state with
      | .held o _ _ => decide (o ≠ p)
      | _ => true)
    let reason := fun k : Nat =>
      if (s.prices.live.base[sh.priceBand])[(s.seatAt h.index k).zone] = 65535 then some Result.notOnSale
      else match (s.seatAt h.index k).state with
        | .free => none
        | .house => if (s.port p).role = .boxOffice then none else some .houseOnly
        | .held o _ _ => if o = p then none else some .taken
        | .pending _ _ => some .taken
        | .sold _ _ => some .taken
    let refused := fun (r : Result) (content : Bytes) =>
      s.holdCheck p h ks = some (r, content)
        ∧ exec (.hold p tag (h.bytes ++ seatList ks)) s = .next (s.answered .hold p tag r content)
    (s.control.foyer ≠ .opened → refused .closed [])
    ∧ (s.control.foyer = .opened →
      (sh.state ≠ .onSale → refused .notOnSale [])
      ∧ (sh.state = .onSale →
        (sh.generation ≠ h.generation → refused .staleShow [])
        ∧ (sh.generation = h.generation →
          (beyond ≠ [] → refused .outOfMap (u8 beyond.length ++ beyond.flatMap (fun k => u16 k ++ [Result.outOfMap.code])))
          ∧ (beyond = [] →
            (b.state = .authorising → refused .busy [])
            ∧ (b.state ≠ .authorising →
              (b.seatLines ≠ [] → b.handle ≠ h → refused .mixedShow [])
              ∧ ((b.seatLines = [] ∨ b.handle = h) →
                (10 < b.seatLines.length + notHeld.length → refused .basketFull [])
                ∧ (b.seatLines.length + notHeld.length ≤ 10 → s.holdCheck p h ks = none)))))))
    ∧ s.holdFailures p h.index ks = ks.filterMap (fun k => (reason k).map (fun r => (k, r)))
    ∧ (s.holdCheck p h ks = none → ∀ k r rest, s.holdFailures p h.index ks = (k, r) :: rest →
      exec (.hold p tag (h.bytes ++ seatList ks)) s =
        .next (s.answered .hold p tag r (u8 (rest.length + 1)
          ++ ((k, r) :: rest).flatMap (fun x => u16 x.1 ++ [x.2.code]))))
    ∧ (s.holdCheck p h ks = none → s.holdFailures p h.index ks = [] → (∀ k ∈ ks, s.isNew p h.index k = false) →
      exec (.hold p tag (h.bytes ++ seatList ks)) s =
        .next (s.answered .hold p tag .ok (u8 (s.basket p).seatLines.length ++ ks.flatMap (fun k =>
          u16 k ++ [Result.already.code] ++ u16 (s.seatAt h.index k).state.lease))))

/-- R30, R31: RELEASE returns the listed seats the basket holds lines for, drops their lines and pushes one undo entry; where it
holds none it is refused NOT_HELD. That the entry lists the seats in the request's order is the model's choice (assumption 39). -/
def Obligations.ReleaseReturnsSeats : Prop :=
  ∀ (p : PortNo) (tag : Byte) (ks : List Nat) (s : State),
    s.hears p = true → s.control.foyer ≠ .unconfigured → (s.port p).role ≠ .counter → goodSeatList ks →
    (s.basket p).state ≠ .authorising →
    let b := s.basket p
    let released := ks.filter b.hasSeat
    (released = [] → exec (.release p tag (seatList ks)) s = .next (s.answered .release p tag .notHeld
      (u8 b.seatLines.length ++ ks.flatMap (fun k => u16 k ++ [Result.notHeld.code]))))
    ∧ (released ≠ [] → Reaches (exec (.release p tag (seatList ks)) s) fun t =>
      s.seatsReturned t b.handle.index released
      ∧ t.basket p = ({ b with
          seatLines := b.seatLines.filter (fun l => !released.contains l.seat)
          undo := (UndoEntry.release b.handle (released.filterMap b.lineOf) :: b.undo).take 8
          lapsed := false, snapshot := none } : Basket).settled
      ∧ t = ({ s with
            seats := { s.seats with shows := t.seats.shows, pool := t.seats.pool }
            baskets := s.baskets.set p (t.basket p) } : State).answered .release p tag .ok
          (u8 (t.basket p).seatLines.length ++ ks.flatMap (fun k =>
            u16 k ++ [(if released.contains k then Result.released else Result.notHeld).code])))

/-! ## Reports -/

/-- R22, R24, R25, R32, R75, R96, R108, R127, R153, R165, R172, R180, R199: the commands that read reply OK with what they report, and
change nothing but the reply they make. SEAT_QUERY gives a seat's status for the asking port: FREE 0, HOUSE 1, its own 5 (HELD by
it, or PENDING under an ACTIVE entry of it), any other 6. The layouts of the contents, and some values in
them, are in part the model's (assumptions 13, 15, 16, 17, 22, 31, 37, 40, 42, 43, 45, 46, 48, 49, 52, 53). A Read Prices or Read Print
Status that is refused BAD_ARG gives what every reply to it gives. -/
def Obligations.ReadersReportAndChangeNothing : Prop :=
  ∀ (tag : Byte) (s : State),
    (∀ (h : Handle) (first n : Nat), s.takesCommand (some .readSeats) = true → h.generation < 256 →
      (s.showAt h.index).generation = h.generation → (s.showAt h.index).state ≠ .empty → first < 65536 → n ≤ 100 →
      first + n ≤ (s.showAt h.index).seatCount →
      exec (.readSeats tag (h.bytes ++ u16 first ++ u8 n)) s = .next (s.replied .readSeats tag .ok
        (u8 (s.showAt h.index).state.code ++ u8 (s.showAt h.index).generation ++ u16 (s.showAt h.index).seatCount
          ++ u8 (s.showAt h.index).priceBand.val ++ (s.showAt h.index).counts.bytes ++ u16 (s.unloaded h.index)
          ++ (List.range n).flatMap (fun j => (s.seatAt h.index (first + j)).bytes))))
    ∧ (∀ (p : PortNo) (h : Handle) (start n : Nat), s.hears p = true → s.control.foyer ≠ .unconfigured →
      (s.port p).role ≠ .counter → h.generation = (s.showAt h.index).generation → h.generation < 256 →
      ((s.showAt h.index).state = .onSale ∨ (s.showAt h.index).state = .closed) → start < 65536 → 1 ≤ n → n ≤ 200 →
      start + n ≤ (s.showAt h.index).seatCount →
      exec (.seatQuery p tag (h.bytes ++ u16 start ++ u8 n)) s = .next (s.answered .seatQuery p tag .ok
        (h.bytes ++ u16 start ++ u8 n
          ++ (List.range n).flatMap (fun j => u8 (match (s.seatAt h.index (start + j)).state with
            | .free => 0
            | .house => 1
            | .held o _ _ => if o = p then 5 else 6
            | .pending t _ => if ∃ e ∈ s.relay.entries, e.tag = t ∧ e.state ≠ .lost ∧ e.origin = p then 5 else 6
            | .sold _ _ => 6))
          ++ u16 (s.showAt h.index).counts.free)))
    ∧ (s.takesCommand (some .readLeaseTimes) = true → exec (.readLeaseTimes tag []) s =
      .next (s.replied .readLeaseTimes tag .ok (u16 s.seats.leaseTime ++ u16 s.seats.declineGrace)))
    ∧ (∀ (args : Bytes) (staged : Bool) (sec : PriceSection), s.takesCommand (some .readPrices) = true →
      readPricesArgs args = some (staged, sec) → sec.inRange = true → exec (.readPrices tag args) s =
      .next (s.replied .readPrices tag .ok ((if staged then s.prices.staged else s.prices.live).section sec
        ++ u8 s.prices.generation ++ flag s.prices.committed)))
    ∧ (∀ args : Bytes, s.takesCommand (some .readPrices) = true →
      (∀ (staged : Bool) (sec : PriceSection), readPricesArgs args = some (staged, sec) → sec.inRange = false) →
      exec (.readPrices tag args) s = .next (s.replied .readPrices tag .badArg
        (u8 s.prices.generation ++ flag s.prices.committed)))
    ∧ (s.takesCommand (some .readAuthTimeout) = true → exec (.readAuthTimeout tag []) s =
      .next (s.replied .readAuthTimeout tag .ok (u16 s.relay.authTimeout)))
    ∧ (∀ first n : Nat, s.takesCommand (some .readAuthorisations) = true → 1 ≤ n → n ≤ 8 → first + n ≤ 24 →
      exec (.readAuthorisations tag (u8 first ++ u8 n)) s = .next (s.replied .readAuthorisations tag .ok
        (u8 s.relay.entries.length ++ u8 (s.relay.entries.filter AuthEntry.isActive).length ++ flag s.relay.gatewayHold
          ++ u16 s.relay.authTimeout ++ u16 s.relay.tagCounter ++ u32 s.relay.saleCounter ++ flag s.relay.saleLoaded
          ++ u16 s.vouchers.reservation ++ u8 ((s.relay.entries.drop first).take n).length
          ++ ((s.relay.entries.drop first).take n).flatMap AuthEntry.bytes)))
    ∧ (∀ (serial n : Nat) (x : Slot), s.takesCommand (some .readVoucher) = true → 1 ≤ serial → serial < 16777216 →
      s.slotOf serial = some (n, x) → exec (.readVoucher tag (u24 serial)) s =
      .next (s.replied .readVoucher tag .ok (u16 n ++ x.bytes)))
    ∧ (s.takesCommand (some .readVoucherStatus) = true → exec (.readVoucherStatus tag []) s =
      .next (s.replied .readVoucherStatus tag .ok (u16 s.vouchers.freeSlots ++ u16 (s.vouchers.count 1)
        ++ u16 (s.vouchers.count 2) ++ u16 (s.vouchers.count 3) ++ u16 (s.vouchers.count 4) ++ u16 s.vouchers.reservation
        ++ u16 s.vouchers.available ++ flag s.vouchers.lowArmed ++ u24 s.vouchers.serialCounter
        ++ flag s.vouchers.serialLoaded)))
    ∧ (s.takesCommand (some .readPrintStatus) = true →
      (exec (.readPrintStatus tag (u8 0)) s = .next (s.replied .readPrintStatus tag .ok
        (s.printCounts ++ allChannels.flatMap s.channelBytes)))
      ∧ (∀ first n : Nat, 1 ≤ n → n ≤ 8 → first + n ≤ 32 → exec (.readPrintStatus tag (u8 1 ++ u8 first ++ u8 n)) s =
        .next (s.replied .readPrintStatus tag .ok (s.printCounts ++ u8 ((s.print.jobs.drop first).take n).length
          ++ ((s.print.jobs.drop first).take n).flatMap s.jobBytes)))
      ∧ (∀ first n : Nat, 1 ≤ n → n ≤ 8 → first + n ≤ 64 → exec (.readPrintStatus tag (u8 2 ++ u8 first ++ u8 n)) s =
        .next (s.replied .readPrintStatus tag .ok (s.printCounts ++ u8 ((s.print.owed.drop first).take n).length
          ++ ((s.print.owed.drop first).take n).flatMap OwedEntry.bytes)))
      ∧ (∀ args : Bytes, readPrintSection args = none → exec (.readPrintStatus tag args) s =
        .next (s.replied .readPrintStatus tag .badArg s.printCounts))
      ∧ (∀ first n : Nat, first < 256 → n < 256 → n = 0 ∨ 8 < n ∨ 32 < first + n →
        exec (.readPrintStatus tag (u8 1 ++ u8 first ++ u8 n)) s = .next (s.replied .readPrintStatus tag .badArg s.printCounts))
      ∧ (∀ first n : Nat, first < 256 → n < 256 → n = 0 ∨ 8 < n ∨ 64 < first + n →
        exec (.readPrintStatus tag (u8 2 ++ u8 first ++ u8 n)) s = .next (s.replied .readPrintStatus tag .badArg s.printCounts)))
    ∧ (∀ a n : Nat, s.takesCommand (some .readStore) = true → 1 ≤ n → n ≤ 200 → a + n ≤ 131072 →
      (∀ op, s.store.operation = some op → ∀ k ∈ touched a n, op.works k = false) →
      exec (.readStore tag (u24 a ++ u8 n)) s = .next (s.replied .readStore tag .ok
        (s.store.bytes a n ++ (touched a n).flatMap (fun k => u8 k.val ++ flag s.store.unsettled[k]))))
    ∧ (s.takesCommand (some .readStoreStatus) = true → exec (.readStoreStatus tag []) s =
      .next (s.replied .readStoreStatus tag .ok s.storeStatus))
    ∧ (s.takesCommand (some .readSiteRecord) = true → exec (.readSiteRecord tag []) s =
      .next (s.replied .readSiteRecord tag .ok (s.store.site 0 39 ++ flag s.store.siteLock)))
    ∧ (∀ p : PortNo, s.takesCommand (some .readPort) = true → exec (.readPort tag (u8 p.val)) s =
      .next (s.replied .readPort tag .ok (u8 (s.port p).state.code ++ (s.port p).entryBytes ++ u8 (s.port p).errorCount
        ++ u8 (s.port p).lastError.code ++ u8 (s.port p).replies.length ++ flag (s.port p).kept.isSome
        ++ u8 (s.upwardOf p).length ++ u8 (s.port p).downPass.length ++ flag s.uplink.linkUp)))
    ∧ (s.takesCommand (some .identify) = true → exec (.identify tag []) s =
      .next (s.replied .identify tag .ok (u16 1640 ++ [Config.siliconRevision] ++ u8 s.control.foyer.code
        ++ flag s.store.siteLock ++ flag s.control.keyActive)))
    ∧ (s.takesCommand (some .readFoyerStatus) = true → exec (.readFoyerStatus tag []) s =
      .next (s.replied .readFoyerStatus tag .ok (u8 s.control.foyer.code ++ flag s.store.siteLock
        ++ flag (s.relay.saleLoaded && s.vouchers.serialLoaded) ++ flag s.prices.committed ++ flag s.control.clockSet
        ++ u16 s.control.day ++ u24 s.control.seconds ++ flag s.control.clockSet ++ u8 s.control.resetCause.code
        ++ u8 s.control.notices.length ++ flag s.control.noticesLost ++ s.control.enables.bytes)))

/-! ## Baskets -/

/-- R47 to R50: SET_TYPE, ADD_COMBO and REMOVE_COMBO change the basket's lines, push their undo entries, discard the snapshot and
clear Lapsed, and change nothing else. -/
def Obligations.BasketLineEdits : Prop :=
  ∀ (p : PortNo) (tag : Byte) (s : State), s.hears p = true → (s.port p).role ≠ .counter →
    (s.basket p).state ≠ .authorising →
    let b := s.basket p
    (∀ (k : Nat) (ty : Fin 8) (l : SeatLine), s.control.foyer ≠ .unconfigured → k ≤ 1023 → b.lineOf k = some l →
      (s.prices.live.types[ty]).valid = true →
      ((s.prices.live.types[ty]).boxOfficeOnly = false ∨ (s.port p).role = .boxOffice) → l.ticketType ≠ ty →
      let b' := { b with
        seatLines := b.seatLines.map (fun x => if x.seat = k then { x with ticketType := ty } else x)
        undo := (UndoEntry.setType k l.ticketType :: b.undo).take 8, state := .building, lapsed := false, snapshot := none }
      exec (.setType p tag (u16 k ++ u8 ty.val)) s =
        .next (({ s with baskets := s.baskets.set p b' } : State).answered .setType p tag .ok b'.summary))
    ∧ (∀ c : Fin 32, s.control.foyer = .opened → (s.prices.live.combos[c]).valid = true → b.combos.length < 6 →
      let b' := { b with
        combos := b.combos ++ [c], undo := (UndoEntry.addCombo b.combos.length :: b.undo).take 8, state := .building
        lapsed := false, snapshot := none }
      exec (.addCombo p tag (u8 c.val)) s =
        .next (({ s with baskets := s.baskets.set p b' } : State).answered .addCombo p tag .ok b'.summary))
    ∧ ∀ (n : Nat) (c : Fin 32), s.control.foyer ≠ .unconfigured → n ≤ 5 → b.combos[n]? = some c →
      let b' := ({ b with
        combos := b.combos.eraseIdx n, undo := (UndoEntry.removeCombo c n :: b.undo).take 8, lapsed := false
        snapshot := none } : Basket).settled
      exec (.removeCombo p tag (u8 n)) s =
        .next (({ s with baskets := s.baskets.set p b' } : State).answered .removeCombo p tag .ok b'.summary)

/-- R51, R52, R118: APPLY_CREDIT claims a usable credit voucher for the basket's port, and REMOVE_CREDIT gives a claimed one
back. -/
def Obligations.CreditClaimsFollowTheBasket : Prop :=
  ∀ (p : PortNo) (tag : Byte) (serial : Nat) (s : State), s.hears p = true → (s.port p).role ≠ .counter →
    (s.basket p).state ≠ .authorising → 1 ≤ serial → serial < 16777216 →
    let b := s.basket p
    (∀ (n : Nat) (v : Voucher) (value : Nat), s.control.foyer = .opened → serial ∉ b.claims → b.claims.length < 2 →
      s.slotOf serial = some (n, .issued v) → v.kind = .credit value → s.control.day ≤ v.expiryDay →
      let b' := { b with
        claims := b.claims ++ [serial], undo := (UndoEntry.applyCredit serial :: b.undo).take 8, state := .building
        lapsed := false, snapshot := none }
      Reaches (exec (.applyCredit p tag (u24 serial)) s) fun t =>
        t.slotAt n = .claimed v (.port p) ∧ (∀ m, m ≠ n → t.slotAt m = s.slotAt m)
        ∧ t = ({ s with
              vouchers := { s.vouchers with slots := t.vouchers.slots }
              baskets := s.baskets.set p b' } : State).answered .applyCredit p tag .ok (u24 value ++ b'.summary))
    ∧ ∀ (n : Nat) (v : Voucher) (o : ClaimOwner), s.control.foyer ≠ .unconfigured → serial ∈ b.claims →
      s.slotOf serial = some (n, .claimed v o) →
      let b' := ({ b with
        claims := b.claims.erase serial, undo := (UndoEntry.removeCredit serial :: b.undo).take 8, lapsed := false
        snapshot := none } : Basket).settled
      Reaches (exec (.removeCredit p tag (u24 serial)) s) fun t =>
        t.slotAt n = .issued v ∧ (∀ m, m ≠ n → t.slotAt m = s.slotAt m)
        ∧ t = ({ s with
              vouchers := { s.vouchers with slots := t.vouchers.slots }
              baskets := s.baskets.set p b' } : State).answered .removeCredit p tag .ok b'.summary

/-- R60, R61: CANCEL returns every seat of the basket's lines and every claim, and leaves the basket EMPTY. -/
def Obligations.CancelVoidsTheBasket : Prop :=
  ∀ (p : PortNo) (tag : Byte) (s : State), s.hears p = true → s.control.foyer ≠ .unconfigured →
    (s.port p).role ≠ .counter → (s.basket p).state ≠ .authorising →
    let b := s.basket p
    Reaches (exec (.cancel p tag []) s) fun t =>
      s.seatsReturned t b.handle.index (b.seatLines.map (·.seat))
      ∧ (∀ k ∈ b.claims, s.slotBecomes t k Slot.unclaim) ∧ s.slotsKept t b.claims
      ∧ t.basket p = { Basket.reset with handle := b.handle }
      ∧ t = ({ s with
            seats := { s.seats with shows := t.seats.shows, pool := t.seats.pool }
            vouchers := { s.vouchers with slots := t.vouchers.slots }
            baskets := s.baskets.set p (t.basket p) } : State).answered .cancel p tag .ok
          (u8 b.seatLines.length ++ u8 b.claims.length ++ (t.basket p).summary)

/-- R54 to R58: UNDO, in an OPEN or a CLOSED foyer, takes the top entry off the stack, discards the snapshot, clears Lapsed, leaves
the State the contents give and reports each item. A HOLD's seats that the basket holds return, the others are NOT_HELD. A RELEASE is
skipped whole in a CLOSED foyer, where its show is not ON_SALE or its handle is stale, or where the basket holds lines of another
show; else its FREE seats, and at a BOXOFFICE port its HOUSE seats, are held again in order while the basket has room, and each other
seat is skipped with its reason. A line takes its old type, a combo line leaves or comes back at its place, a claim is given back or
taken again, or the item is skipped with its reason. OUT_OF_MAP for a seat that the show does not have is the model's choice
(assumption 38), and so are the order of the released seats (assumption 39), TAKEN for a seat the port holds without a line
(assumption 30), the handle kept where none is held again (assumption 29), and the recorded position as the one reported of a combo
line put back after the last (assumption 56). -/
def Obligations.UndoPopsItsEntry : Prop :=
  ∀ (p : PortNo) (tag : Byte) (e : UndoEntry) (rest : List UndoEntry) (s : State), s.hears p = true →
    s.control.foyer ≠ .unconfigured → (s.port p).role ≠ .counter → (s.basket p).state ≠ .authorising →
    (s.basket p).undo = e :: rest →
    let b := s.basket p
    let undone := fun (items : List (Nat × Result)) (t : State) =>
      (t.basket p).undo = rest ∧ (t.basket p).lapsed = false ∧ (t.basket p).snapshot = none
      ∧ (t.basket p).state = (if (t.basket p).holds then .building else .empty)
      ∧ t = ({ s with
            seats := { s.seats with shows := t.seats.shows, pool := t.seats.pool }
            vouchers := { s.vouchers with slots := t.vouchers.slots }
            baskets := s.baskets.set p (t.basket p) } : State).answered .undo p tag .ok
          (u8 e.code ++ u8 items.length ++ items.flatMap (fun x => u24 x.1 ++ [x.2.code]) ++ (t.basket p).summary)
    let goesTo := fun (items : List (Nat × Result)) (effect : State → Prop) =>
      Reaches (exec (.undo p tag []) s) fun t => undone items t ∧ effect t
    let lines := fun t : State => (t.basket p).seatLines = b.seatLines ∧ (t.basket p).handle = b.handle ∧ t.seats = s.seats
    let combos := fun t : State => (t.basket p).combos = b.combos
    let claims := fun t : State => (t.basket p).claims = b.claims ∧ t.vouchers = s.vouchers
    let skipped := fun t : State => lines t ∧ combos t ∧ claims t
    (∀ h ks, e = .hold h ks →
      let mine := fun k => b.hasSeat k && decide (b.handle = h)
      goesTo (ks.map (fun k => (k, if mine k then .reversed else .notHeld))) fun t =>
        s.seatsReturned t h.index (ks.filter mine)
        ∧ (t.basket p).seatLines = b.seatLines.filter (fun l => !(ks.filter mine).contains l.seat)
        ∧ (t.basket p).handle = b.handle ∧ combos t ∧ claims t)
    ∧ (∀ h released, e = .release h released →
      let sh := s.showAt h.index
      let whole : Option Result :=
        if s.control.foyer ≠ .opened then some .closed
        else if sh.state ≠ .onSale then some .notOnSale
        else if sh.generation ≠ h.generation then some .staleShow
        else if b.seatLines ≠ [] ∧ b.handle ≠ h then some .mixedShow
        else none
      (∀ r, whole = some r → goesTo (released.map (fun l => (l.seat, r))) skipped)
      ∧ (whole = none → (released.map (·.seat)).Nodup →
        let may := fun l : SeatLine => decide (l.seat < sh.seatCount) && (match (s.seatAt h.index l.seat).state with
          | .free => true
          | .house => decide ((s.port p).role = .boxOffice)
          | _ => false)
        let back := (released.filter may).take (10 - b.seatLines.length)
        let result := fun l : SeatLine =>
          if back.contains l then Result.reversed
          else if may l then .basketFull
          else if sh.seatCount ≤ l.seat then .outOfMap
          else match (s.seatAt h.index l.seat).state with
            | .house => .houseOnly
            | .held o _ _ => if o = p ∧ b.hasSeat l.seat then .already else .taken
            | _ => .taken
        goesTo (released.map (fun l => (l.seat, result l))) fun t =>
          (∀ l ∈ back, t.seatAt h.index l.seat = { s.seatAt h.index l.seat with
            state := .held p s.seats.leaseTime (s.seatAt h.index l.seat).state.isHouse })
          ∧ s.poolKept t (s.seatAddresses h.index (back.map (·.seat))) ∧ s.showsKept t h.index
          ∧ (t.basket p).seatLines = b.seatLines ++ back ∧ (t.basket p).handle = (if back = [] then b.handle else h)
          ∧ combos t ∧ claims t))
    ∧ (∀ k ty, e = .setType k ty →
      (b.hasSeat k = true → goesTo [(k, .reversed)] fun t =>
        (t.basket p).seatLines = b.seatLines.map (fun l => if l.seat = k then { l with ticketType := ty } else l)
        ∧ (t.basket p).handle = b.handle ∧ t.seats = s.seats ∧ combos t ∧ claims t)
      ∧ (b.hasSeat k = false → goesTo [(k, .notHeld)] skipped))
    ∧ (∀ n, e = .addCombo n →
      (n < b.combos.length → goesTo [(n, .reversed)] fun t =>
        (t.basket p).combos = b.combos.eraseIdx n ∧ lines t ∧ claims t)
      ∧ (b.combos.length ≤ n → goesTo [(n, .noLine)] skipped))
    ∧ (∀ c n, e = .removeCombo c n →
      (s.control.foyer = .closed → goesTo [(n, .closed)] skipped)
      ∧ (s.control.foyer = .opened → 6 ≤ b.combos.length → goesTo [(n, .basketFull)] skipped)
      ∧ (s.control.foyer = .opened → b.combos.length < 6 → goesTo [(n, .reversed)] fun t =>
        (t.basket p).combos = b.combos.take n ++ c :: b.combos.drop n ∧ lines t ∧ claims t))
    ∧ (∀ serial, e = .applyCredit serial →
      (serial ∈ b.claims → goesTo [(serial, .reversed)] fun t =>
        (t.basket p).claims = b.claims.erase serial ∧ s.claimsReturned t [serial] ∧ lines t ∧ combos t)
      ∧ (serial ∉ b.claims → goesTo [(serial, .notClaimed)] skipped))
    ∧ ∀ serial, e = .removeCredit serial →
      (s.control.foyer = .closed → goesTo [(serial, .closed)] skipped)
      ∧ (s.control.foyer = .opened →
        let unusable : Option Result := match s.slotOf serial with
          | none => some .unknown
          | some (_, .free) => some .unknown
          | some (_, .redeemed _ _ _ _) => some .alreadyRedeemed
          | some (_, .void _ _) => some .voided
          | some (_, .claimed _ _) => some .inUse
          | some (_, .issued v) => match v.kind with
            | .snack _ => some .wrongKind
            | .credit _ => if v.expiryDay < s.control.day then some .expired else none
        (∀ r, unusable = some r → goesTo [(serial, r)] skipped)
        ∧ (unusable = none → goesTo [(serial, .reversed)] fun t =>
          (t.basket p).claims = b.claims ++ [serial] ∧ s.slotBecomes t serial (Slot.claim (.port p)) ∧ s.slotsKept t [serial]
          ∧ lines t ∧ combos t))

/-- R43, R46, R78, R88: while a basket is AUTHORISING no request of its port changes it, whatever the request carries. -/
def Obligations.AuthorisingBasketIsFrozen : Prop :=
  ∀ (c : KioskClass) (p : PortNo) (tag : Byte) (payload : Bytes) (s t : State), (s.basket p).state = .authorising →
    runClass c p tag payload s = .next t → t.basket p = s.basket p

/-! ## Prices -/

/-- R72, R73, R74: each stage command writes its entry of the Staged copy, with factors, discounts and rates clamped, and echoes
what it wrote; a Minimum Seats above 10, a Voucher Template above 31 or a Ceiling of 0 is refused BAD_ARG and writes nothing. What
the replies hold besides is the model's (assumptions 19, 20). -/
def Obligations.StageCommandsWriteTheStagedCopy : Prop :=
  ∀ (tag : Byte) (s : State),
    (∀ (band : Fin 8) (p0 p1 p2 p3 : Nat), s.takesCommand (some .stageBand) = true →
      p0 ≤ 65535 → p1 ≤ 65535 → p2 ≤ 65535 → p3 ≤ 65535 →
      exec (.stageBand tag (u8 band.val ++ u24 p0 ++ u24 p1 ++ u24 p2 ++ u24 p3)) s =
        .next ((s.setStaged { s.prices.staged with
          base := s.prices.staged.base.set band #v[p0, p1, p2, p3] }).replied .stageBand tag .ok
            (u24 p0 ++ u24 p1 ++ u24 p2 ++ u24 p3)))
    ∧ (∀ (k : Fin 8) (f : Nat) (valid box : Bool) (name : Bytes), s.takesCommand (some .stageTicketType) = true →
      f < 65536 → name.length ≤ 8 → printable name = true →
      exec (.stageTicketType tag (u8 k.val ++ u16 f ++ flag valid ++ flag box ++ text name)) s =
        .next ((s.setStaged { s.prices.staged with
          types := s.prices.staged.types.set k { factor := min 2000 f, valid := valid, boxOfficeOnly := box, name := name }
          }).replied .stageTicketType tag .ok (u16 (min 2000 f) ++ flag valid ++ flag box ++ text name)))
    ∧ (∀ (k : Fin 32) (price d m template : Nat) (name : Bytes) (valid : Bool), s.takesCommand (some .stageCombo) = true →
      price ≤ 65535 → d < 65536 → m < 256 → template < 256 → name.length ≤ 16 → printable name = true →
      let args := u8 k.val ++ u24 price ++ u16 d ++ u8 m ++ u8 template ++ text name ++ flag valid
      (∀ h : template < 32, m ≤ 10 → exec (.stageCombo tag args) s =
        .next ((s.setStaged { s.prices.staged with
          combos := s.prices.staged.combos.set k
            { price := price, discount := min 1000 d, minSeats := m, template := ⟨template, h⟩, name := name, valid := valid }
          }).replied .stageCombo tag .ok
            (u24 price ++ u16 (min 1000 d) ++ u8 m ++ u8 template ++ text name ++ flag valid)))
      ∧ ((10 < m ∨ 32 ≤ template) → ∃ content,
        exec (.stageCombo tag args) s = .next (s.replied .stageCombo tag .badArg content)))
    ∧ (∀ rt rk : Nat, s.takesCommand (some .stageTax) = true → rt < 65536 → rk < 65536 →
      exec (.stageTax tag (u16 rt ++ u16 rk)) s =
        .next ((s.setStaged { s.prices.staged with ticketRate := min 5000 rt, snackRate := min 5000 rk }).replied .stageTax
          tag .ok (u16 (min 5000 rt) ++ u16 (min 5000 rk))))
    ∧ ∀ c : Nat, s.takesCommand (some .stageCeiling) = true → c < 16777216 →
      (1 ≤ c → exec (.stageCeiling tag (u24 c)) s =
        .next ((s.setStaged { s.prices.staged with ceiling := c }).replied .stageCeiling tag .ok (u24 c)))
      ∧ (c = 0 → ∃ content, exec (.stageCeiling tag (u24 c)) s = .next (s.replied .stageCeiling tag .badArg content))

/-- R76, R75: Commit Prices copies Staged over Live, advances the Price Generation modulo 256 and sets the Committed flag, in any
foyer that takes it; Reload Staged copies Live over Staged. Nothing else changes. -/
def Obligations.CommitAndReloadCopyTheTables : Prop :=
  ∀ (tag : Byte) (s : State),
    (s.takesCommand (some .commitPrices) = true → exec (.commitPrices tag []) s =
      .next (({ s with prices :=
        { live := s.prices.staged, staged := s.prices.staged, generation := (s.prices.generation + 1) % 256,
          committed := true } } : State).replied .commitPrices tag .ok (u8 ((s.prices.generation + 1) % 256))))
    ∧ (s.takesCommand (some .reloadStaged) = true → exec (.reloadStaged tag []) s =
      .next (({ s with prices := { s.prices with staged := s.prices.live } } : State).replied .reloadStaged tag .ok []))

/-- R78 to R80: a PRICE whose lines all pass stores the basket's amounts as a new snapshot, makes it PRICED and clears Lapsed;
one with a failing line is refused with its first line's reason and lists every failing line, seat lines first. A seat line fails
NOT_ON_SALE where its base price is NOT_SOLD, BAD_TYPE where its ticket type is not Valid or is BOXOFFICE-only at another port; a
combo line fails BAD_COMBO where its combo is not Valid (R79). -/
def Obligations.PriceStoresTheSnapshot : Prop :=
  ∀ (p : PortNo) (tag : Byte) (s : State), s.hears p = true → s.control.foyer = .opened → (s.port p).role ≠ .counter →
    (s.basket p).state ≠ .authorising → (s.basket p).seatLines ≠ [] →
    let b := s.basket p
    let x := s.snapshotOf b
    let seatReason := fun l : SeatLine =>
      if (s.prices.live.base[(s.showAt b.handle.index).priceBand])[(s.seatAt b.handle.index l.seat).zone] = 65535 then
        some Result.notOnSale
      else if (s.prices.live.types[l.ticketType]).valid = false then some .badType
      else if (s.prices.live.types[l.ticketType]).boxOfficeOnly = true ∧ (s.port p).role ≠ .boxOffice then some .badType
      else none
    let failing : List (Nat × Nat × Result) :=
      b.seatLines.filterMap (fun l => (seatReason l).map (fun r => (1, l.seat, r)))
        ++ b.combos.zipIdx.filterMap (fun c =>
          if (s.prices.live.combos[c.1]).valid = true then none else some (2, c.2, Result.badCombo))
    failing = s.failingSeats p b ++ s.failingCombos b
    ∧ (failing = [] → exec (.price p tag []) s =
      .next (({ s with baskets := s.baskets.set p { b with state := .priced, lapsed := false, snapshot := some x } } :
        State).answered .price p tag .ok (x.bytes ++ u8 b.undo.length)))
    ∧ ∀ k n r rest, failing = (k, n, r) :: rest → exec (.price p tag []) s =
      .next (s.answered .price p tag r (u8 (rest.length + 1)
        ++ ((k, n, r) :: rest).flatMap (fun y => u8 y.1 ++ u16 y.2.1 ++ [y.2.2.code])))

/-- R82, R83, R84: the amounts of seat lines and combo lines, each division rounding half up, their bounds, and the portions. -/
def Obligations.LineAmountsRoundHalfUp : Prop :=
  (∀ x d : Nat, 0 < d → 2 * d * roundDiv x d ≤ 2 * x + d ∧ 2 * x + d < 2 * d * (roundDiv x d + 1))
  ∧ (∀ base factor surcharge : Nat, base ≤ 65534 → factor ≤ 2000 → surcharge ≤ 4095 →
      seatAmount base factor surcharge ≤ 135163)
  ∧ ∀ (s : State) (b : Basket),
    let x := s.snapshotOf b
    x.seats = b.seatLines.map (fun l => { seat := l.seat, ticketType := l.ticketType, amount :=
        (2 * ((s.prices.live.base[(s.showAt b.handle.index).priceBand])[(s.seatAt b.handle.index l.seat).zone]
          * (s.prices.live.types[l.ticketType]).factor) + 1000) / 2000 + (s.showAt b.handle.index).surcharge })
    ∧ x.combos = b.combos.map (fun c =>
        let e := s.prices.live.combos[c]
        let applies := decide (0 < e.minSeats) && decide (e.minSeats ≤ b.seatLines.length)
        { code := c, discounted := applies, amount :=
            if applies then e.price - (2 * (e.price * e.discount) + 1000) / 2000 else e.price })
    ∧ (s.prices.live.InRange → ∀ c ∈ x.combos, c.amount ≤ 65535)
    ∧ x.ticketPortion = (x.seats.map (·.amount)).sum ∧ x.snackPortion = (x.combos.map (·.amount)).sum
    ∧ x.gross = x.ticketPortion + x.snackPortion
    ∧ (s.prices.live.InRange → b.seatLines.length ≤ 10 → b.combos.length ≤ 6 →
        (s.showAt b.handle.index).surcharge ≤ 4095 →
        (∀ l ∈ b.seatLines, s.basePrice b.handle.index l.seat ≠ notSold) →
        x.ticketPortion ≤ 1351630 ∧ x.snackPortion ≤ 393210 ∧ x.gross ≤ 1744840)

/-- R85, R86, R87: credits reduce the ticket portion first and the snack portion with what is left, the taxes are computed out of
the amounts due and never exceed Net together, and Over Limit compares Net with the Live Ceiling. -/
def Obligations.CreditsAndTaxesOfASnapshot : Prop :=
  ∀ (s : State) (b : Basket),
    let x := s.snapshotOf b
    x.generation = s.prices.generation
    ∧ x.creditValue = (b.claims.map s.valueOf).sum
    ∧ x.ticketDue = x.ticketPortion - x.creditValue
    ∧ x.snackDue = x.snackPortion - (x.creditValue - x.ticketPortion)
    ∧ x.net = x.ticketDue + x.snackDue
    ∧ x.net ≤ x.gross ∧ x.creditsApplied = x.gross - x.net ∧ x.creditsApplied + x.creditUnused = x.creditValue
    ∧ x.ticketTax = (2 * (x.ticketDue * s.prices.live.ticketRate) + (10000 + s.prices.live.ticketRate))
        / (2 * (10000 + s.prices.live.ticketRate))
    ∧ x.snackTax = (2 * (x.snackDue * s.prices.live.snackRate) + (10000 + s.prices.live.snackRate))
        / (2 * (10000 + s.prices.live.snackRate))
    ∧ (s.prices.live.InRange → x.ticketTax + x.snackTax ≤ x.net)
    ∧ x.overLimit = decide (s.prices.live.ceiling < x.net)

/-! ## Payment -/

/-- R88, R91 to R94: a PAY with Net above 0 that passes is accepted: an ACTIVE entry joins the list, the seats become PENDING,
slots are reserved, the claims pass to the tag, the basket becomes AUTHORISING, its reply's place is kept and an AUTH_REQUEST
waits. -/
def Obligations.PayAcceptedReservesAndPends : Prop :=
  ∀ (p : PortNo) (tag : Byte) (token : Bytes) (x : Snapshot) (s : State),
    s.hears p = true → s.control.foyer = .opened → (s.port p).role ≠ .counter → 1 ≤ token.length → token.length ≤ 64 →
    (s.basket p).state = .priced → (s.basket p).snapshot = some x → 0 < x.net → x.generation = s.prices.generation →
    s.current (s.basket p).handle = true → (s.showAt (s.basket p).handle.index).state = .onSale → x.overLimit = false →
    s.relay.gatewayHold = false → s.uplink.linkUp = true → s.relay.entries.length < 24 →
    s.vouchers.reservation + (s.basket p).combos.length ≤ s.vouchers.freeSlots →
    let b := s.basket p
    let e : AuthEntry :=
      { tag := s.relay.nextTag, state := .active s.relay.authTimeout, origin := p, handle := b.handle, seatLines := x.seats,
        combos := b.combos, claims := b.claims, net := x.net, ticketTax := x.ticketTax, snackTax := x.snackTax,
        reservation := b.combos.length }
    Reaches (exec (.pay p tag token) s) fun t =>
      (∀ l ∈ x.seats, t.seatAt b.handle.index l.seat =
        { s.seatAt b.handle.index l.seat with state := (s.seatAt b.handle.index l.seat).state.pend e.tag })
      ∧ s.poolKept t (s.seatAddresses b.handle.index (x.seats.map (·.seat))) ∧ s.showsKept t b.handle.index
      ∧ (∀ k ∈ b.claims, s.slotBecomes t k (Slot.claim (.tag e.tag))) ∧ s.slotsKept t b.claims
      ∧ s.controlKept t
      ∧ t.vouchers.lowArmed = decide (64 ≤ t.vouchers.available)
      ∧ t = { s with
          seats := { s.seats with shows := t.seats.shows, pool := t.seats.pool }
          baskets := s.baskets.set p { b with state := .authorising, undo := [], lapsed := false }
          relay := { s.relay with
            entries := s.relay.entries ++ [e], tagCounter := if e.tag < 65535 then e.tag + 1 else 1 }
          vouchers := { s.vouchers with
            slots := t.vouchers.slots, reservation := s.vouchers.reservation + b.combos.length
            lowArmed := t.vouchers.lowArmed }
          ports := s.ports.set p { s.port p with errorCount := (s.port p).errorCount - 1, kept := some tag }
          uplink := { s.uplink with
            authRequests := s.uplink.authRequests ++ [
              { tag := e.tag
                payload := u16 e.tag ++ u8 p.val ++ u24 x.net ++ u24 x.ticketTax ++ u24 x.snackTax ++ u8 s.store.exponent
                  ++ b.handle.bytes ++ u8 x.seats.length ++ u8 token.length ++ token }] }
          control := t.control }

/-- R88, R89, R90: the checks of PAY in their order. A refusal changes nothing but for PRICE_CHANGED, which leaves the basket
BUILDING without its snapshot; only VOUCHER_FULL carries content. The order of the checks before the first is chapter 5's. -/
def Obligations.PayRefusals : Prop :=
  ∀ (p : PortNo) (tag : Byte) (token : Bytes) (s : State), s.hears p = true →
    let b := s.basket p
    let refused := fun (t : State) (r : Result) (content : Bytes) =>
      exec (.pay p tag token) s = .next (t.answered .pay p tag r content)
    (s.control.foyer = .unconfigured → refused s .notReady [])
    ∧ (s.control.foyer ≠ .unconfigured → (s.port p).role = .counter → refused s .wrongRole [])
    ∧ (s.control.foyer ≠ .unconfigured → (s.port p).role ≠ .counter →
      ((token.length = 0 ∨ 64 < token.length) → refused s .badArg [])
      ∧ (1 ≤ token.length → token.length ≤ 64 →
        (s.control.foyer = .closed → refused s .closed [])
        ∧ (s.control.foyer = .opened →
          (b.state = .authorising → refused s .busy [])
          ∧ (b.state = .building → b.lapsed = true → refused s .holdLapsed [])
          ∧ (b.state = .empty ∨ (b.state = .building ∧ b.lapsed = false) → refused s .notPriced [])
          ∧ (b.state = .priced → ∀ x, b.snapshot = some x →
            (x.generation ≠ s.prices.generation →
              refused { s with baskets := s.baskets.set p { b with state := .building, snapshot := none } } .priceChanged [])
            ∧ (x.generation = s.prices.generation →
              ((s.showAt b.handle.index).state ≠ .onSale → refused s .showClosed [])
              ∧ (s.current b.handle = true → (s.showAt b.handle.index).state = .onSale →
                (x.overLimit = true → refused s .overLimit [])
                ∧ (x.overLimit = false → 0 < x.net →
                  (s.relay.gatewayHold = true → refused s .gatewayHeld [])
                  ∧ (s.relay.gatewayHold = false → s.uplink.linkUp = false → refused s .noUplink [])
                  ∧ (s.relay.gatewayHold = false → s.uplink.linkUp = true → 24 ≤ s.relay.entries.length →
                    refused s .authFull [])
                  ∧ (s.relay.gatewayHold = false → s.uplink.linkUp = true → s.relay.entries.length < 24 →
                    s.vouchers.freeSlots < s.vouchers.reservation + b.combos.length →
                    refused s .voucherFull (u16 (s.vouchers.freeSlots - s.vouchers.reservation))))
                ∧ (x.overLimit = false → x.net = 0 →
                    s.vouchers.freeSlots < s.vouchers.reservation + b.combos.length →
                    refused s .voucherFull (u16 (s.vouchers.freeSlots - s.vouchers.reservation)))))))))

/-- R100, R115, R116: the completion of a sale draws the Sale Number, sells the seats, issues a snack voucher for each combo line, gives
back its reservation, redeems its credits and raises SALE. The voucher of combo line j takes the FREE slot with j FREE ones below it, so
each the lowest left, and the first serial from the counter on that is in no pair; the counter stands past the last one drawn. Every
slot neither taken nor redeemed and every pair of another serial stays. Premises: the invariants Canonical and RelaySound, and slots
for its combo lines, which PAY's check 8 (R89) or the reservation (R117) has found. -/
def Obligations.CompletionOfASale : Prop :=
  ∀ (s : State) (x : Sale) (code : Bytes), s.Canonical → s.RelaySound → s.vouchers.used + x.combos.length ≤ 4096 →
    let n := if s.relay.saleCounter = 0 then 1 else s.relay.saleCounter
    let t := (s.completeSale x code).1
    let serials := (s.completeSale x code).2.2
    let after := fun k : Nat => if k < 16777215 then k + 1 else 1
    (s.completeSale x code).2.1 = n
    ∧ t.relay = { s.relay with saleCounter := if n < 4294967295 then n + 1 else 1 }
    ∧ s.seatsSold t x.handle.index n x.seatLines
    ∧ serials.length = x.combos.length
    ∧ (∀ (j : Nat) (c : Fin 32) (serial : Nat), x.combos[j]? = some c → serials[j]? = some serial →
        s.indexed serial = none ∧ ∃ m, m < 4096 ∧ s.slotAt m = .free
          ∧ ((List.range m).filter (fun i => decide (s.slotAt i = .free))).length = j ∧ t.indexed serial = some m
          ∧ (serial ∉ x.claims → t.slotOf serial = some (m, .issued
            { serial := serial, kind := .snack c, issuingSale := n, expiryDay := (s.showAt x.handle.index).expiryDay })))
    ∧ serials.Nodup
    ∧ (s.vouchers.serialCounter ≤ 16777215 → ∀ (j serial : Nat), serials[j]? = some serial →
        let start := match j with
          | 0 => if s.vouchers.serialCounter = 0 then 1 else s.vouchers.serialCounter
          | i + 1 => after (serials.getD i 0)
        let candidate := fun d : Nat => (start - 1 + d) % 16777215 + 1
        ∃ d, serial = candidate d ∧ ∀ e < d, s.indexed (candidate e) ≠ none ∨ candidate e ∈ serials.take j)
    ∧ t.vouchers.serialCounter = (match serials.getLast? with
        | none => s.vouchers.serialCounter
        | some serial => after serial)
    ∧ (∀ k ∈ x.claims, ∀ m v o, s.slotOf k = some (m, .claimed v o) →
        t.slotOf k = some (m, .redeemed v x.origin s.control.day s.control.seconds))
    ∧ (∀ k, k ∉ serials → t.indexed k = s.indexed k)
    ∧ (∀ m, (∀ k ∈ serials ++ x.claims, t.indexed k ≠ some m) → t.slotAt m = s.slotAt m)
    ∧ t.vouchers.reservation = s.vouchers.reservation - x.reservation
    ∧ t.control = (s.raise .sale (u32 n ++ u8 x.origin.val ++ x.handle.bytes ++ u24 x.net ++ u24 x.ticketTax ++ u24 x.snackTax
        ++ text code ++ u8 x.seatLines.length ++ u8 x.combos.length)).control
    ∧ t = { s with
        seats := { s.seats with shows := t.seats.shows, pool := t.seats.pool }, relay := t.relay
        vouchers := { t.vouchers with serialLoaded := s.vouchers.serialLoaded, lowArmed := s.vouchers.lowArmed }
        control := t.control }

/-- R106, R100, R131, R132: a zero-total PAY completes its sale at once, as State.completeSale says (CompletionOfASale): the seats
are SOLD, the basket is EMPTY and no entry joins the list. Its documents, one ticket for each seat line and then one voucher for
each combo line, are those R131 gives; they become a SALE job for the port under a Job Number that no job in the queue carries, or
with 32 jobs there are owed QUEUE_FULL (R146). PAY_RESULT APPROVED carries tag 0, a Net of 0 and the serials drawn; then channels
take jobs (R134) and Low Armed is checked (R126). That the counter stands one past the number taken is the model's choice
(assumption 41). -/
def Obligations.ZeroTotalSaleCompletes : Prop :=
  ∀ (p : PortNo) (tag : Byte) (token : Bytes) (x : Snapshot) (s : State),
    s.hears p = true → s.control.foyer = .opened → (s.port p).role ≠ .counter → 1 ≤ token.length → token.length ≤ 64 →
    (s.basket p).state = .priced → (s.basket p).snapshot = some x → x.net = 0 → x.generation = s.prices.generation →
    s.current (s.basket p).handle = true → (s.showAt (s.basket p).handle.index).state = .onSale → x.overLimit = false →
    s.vouchers.reservation + (s.basket p).combos.length ≤ s.vouchers.freeSlots →
    let b := s.basket p
    let sh := s.showAt b.handle.index
    let n := if s.relay.saleCounter = 0 then 1 else s.relay.saleCounter
    let sale : Sale :=
      { origin := p, handle := b.handle, seatLines := x.seats, combos := b.combos, claims := b.claims, net := x.net,
        ticketTax := x.ticketTax, snackTax := x.snackTax, reservation := 0 }
    let r := s.completeSale sale []
    let docs := r.1.saleDocs sale n r.2.2
    let done : State := { r.1 with
      baskets := s.baskets.set p { Basket.reset with handle := b.handle }
      ports := s.ports.set p { s.port p with errorCount := (s.port p).errorCount - 1 } }
    let settled := fun (u : State) (owed : Nat) => ((u.pushReply p
      { cls := KioskClass.pay.replyCode, tag := tag
        payload := 0x50 :: (u16 0 ++ u32 n ++ u24 0 ++ text [] ++ u8 owed ++ u8 r.2.2.length ++ r.2.2.flatMap u24) }
      ).runArbiter).checkLow
    let owing := fun (owed : List OwedEntry) (lost : Bool) =>
      (({ done with print := { s.print with owed := owed } } : State).raise .owedAdded
        (u32 n ++ u8 p.val ++ u8 3 ++ u8 docs.length ++ flag lost))
    r.2.1 = n ∧ r.2.2.length = b.combos.length ∧ docs.length = x.seats.length + b.combos.length
    ∧ (∀ (j : Nat) (l : PricedLine), x.seats[j]? = some l → docs[j]? = some
        { template := sh.ticketTemplate, index := j, sale := n, fields := .ticket sh.title sh.startDay sh.startTime
            (s.seatAt b.handle.index l.seat).zone (s.seatAt b.handle.index l.seat).rowLabel (s.seatAt b.handle.index l.seat).number
            (s.prices.live.types[l.ticketType]).name l.amount })
    ∧ (∀ (j : Nat) (c : Fin 32) (serial : Nat), b.combos[j]? = some c → r.2.2[j]? = some serial →
        docs[x.seats.length + j]? = some
          { template := (s.prices.live.combos[c]).template, index := x.seats.length + j, sale := n
            fields := .voucher (s.prices.live.combos[c]).name serial (min 65535 (sh.startDay + sh.graceDays)) })
    ∧ (s.print.jobs.length < 32 → ∃ m, (∀ k ∈ s.print.jobs, k.number ≠ m)
        ∧ ((∀ k ∈ s.print.jobs, k.number ≠ s.print.jobCounter) → m = s.print.jobCounter)
        ∧ exec (.pay p tag token) s = .next (settled { done with print := { s.print with
            jobs := s.print.jobs ++ [{ number := m, work := .print false n p p docs, next := 0, channel := none }]
            jobCounter := if m < 65535 then m + 1 else 1 } } 0))
    ∧ (32 ≤ s.print.jobs.length →
        (s.print.owed.length < 64 → exec (.pay p tag token) s = .next (settled
          (owing (s.print.owed ++ [{ sale := n, origin := p, reason := .queueFull, docs := docs }]) false) 1))
        ∧ (64 ≤ s.print.owed.length → exec (.pay p tag token) s = .next (settled (owing s.print.owed true) 1)))
    ∧ Reaches (exec (.pay p tag token) s) fun t =>
      s.seatsSold t b.handle.index n x.seats ∧ s.printKept t ∧ s.controlKept t ∧ s.uplinkKept t
      ∧ (∀ q, q ≠ p → t.port q = { s.port q with printOffer := (t.port q).printOffer })
      ∧ t.vouchers.reservation = s.vouchers.reservation
      ∧ t = { s with
          seats := r.1.seats
          baskets := s.baskets.set p { Basket.reset with handle := b.handle }
          relay := { s.relay with saleCounter := if n < 4294967295 then n + 1 else 1 }
          vouchers := { r.1.vouchers with lowArmed := decide (64 ≤ r.1.vouchers.available) }
          print := t.print, ports := t.ports, uplink := t.uplink, control := t.control }

/-- R95, R98, R88, R100, R132: APPROVED for an ACTIVE entry completes its sale as State.completeSale says (CompletionOfASale), takes
the entry off the list and its AUTH_REQUEST off the transmit side, and empties the origin port's basket. The documents of
State.saleDocs (R131) become a SALE job for the origin port, or with 32 jobs in the queue are owed QUEUE_FULL (R146), and the kept
PAY is answered where the port is ACTIVE; then channels take jobs (R134). That the job counter stands one past the number taken is
the model's choice (assumption 41), and so is a port without a kept PAY (assumption 30). -/
def Obligations.ApprovalSellsTheSeats : Prop :=
  ∀ (e : AuthEntry) (left : Nat) (code : Bytes) (s : State), s.takesUplink = true → s.entryTagged e.tag = some e →
    e.tag < 65536 → e.state = .active left → code.length ≤ 8 → printable code = true →
    let n := if s.relay.saleCounter = 0 then 1 else s.relay.saleCounter
    let r := s.completeSale e.sale code
    let docs := r.1.saleDocs e.sale n r.2.2
    let approved := exec (.authResponse (u16 e.tag ++ [0x50] ++ text code)) s
    let done := fun owed : Nat => ({ r.1 with
      relay := { r.1.relay with entries := s.relay.entries.eraseP (fun f => decide (f.tag = e.tag)) }
      uplink := r.1.uplink.without e.tag
      baskets := s.baskets.set e.origin { Basket.reset with handle := (s.basket e.origin).handle }
      ports := s.ports.set e.origin ((s.port e.origin).resulted (decide ((s.port e.origin).state = .active)) .approved
        (u16 e.tag ++ u32 n ++ u24 e.net ++ text code ++ u8 owed ++ u8 r.2.2.length ++ r.2.2.flatMap u24)) } : State)
    let owing := fun (owed : List OwedEntry) (lost : Bool) =>
      ((({ done 1 with print := { s.print with owed := owed } } : State).raise .owedAdded
        (u32 n ++ u8 e.origin.val ++ u8 3 ++ u8 docs.length ++ flag lost)).runArbiter)
    r.2.1 = n ∧ r.2.2.length = e.combos.length
    ∧ (s.print.jobs.length < 32 → ∃ m, (∀ k ∈ s.print.jobs, k.number ≠ m)
        ∧ ((∀ k ∈ s.print.jobs, k.number ≠ s.print.jobCounter) → m = s.print.jobCounter)
        ∧ approved = .next (({ done 0 with print := { s.print with
            jobs := s.print.jobs ++ [
              { number := m, work := .print false n e.origin e.origin docs, next := 0, channel := none }]
            jobCounter := if m < 65535 then m + 1 else 1 } } : State).runArbiter))
    ∧ (32 ≤ s.print.jobs.length →
        (s.print.owed.length < 64 → approved = .next
          (owing (s.print.owed ++ [{ sale := n, origin := e.origin, reason := .queueFull, docs := docs }]) false))
        ∧ (64 ≤ s.print.owed.length → approved = .next (owing s.print.owed true)))
    ∧ Reaches approved fun t =>
      s.seatsSold t e.handle.index n e.seatLines ∧ s.printKept t ∧ s.controlKept t
      ∧ (∀ q, q ≠ e.origin → t.port q = { s.port q with printOffer := (t.port q).printOffer })
      ∧ t.vouchers.reservation = s.vouchers.reservation - e.reservation
      ∧ t = { s with
          seats := r.1.seats
          baskets := s.baskets.set e.origin { Basket.reset with handle := (s.basket e.origin).handle }
          relay := { s.relay with
            entries := s.relay.entries.eraseP (fun f => decide (f.tag = e.tag))
            saleCounter := if n < 4294967295 then n + 1 else 1 }
          vouchers := r.1.vouchers, print := t.print, ports := t.ports
          uplink := s.uplink.without e.tag
          control := t.control }

/-- R99, R101, R126: DECLINED or GATEWAY_FAULT for an ACTIVE entry gives its reservation back. Where the origin port is ACTIVE and
not COUNTER its basket becomes PRICED again with its seats HELD for the decline grace and its claims its own; else everything goes
back. GATEWAY_FAULT sets Gateway Hold besides and marks the PAY_RESULT. An approval code given with either is ignored (R95). A port
without a kept PAY is answered nothing: the model's choice (assumption 30). -/
def Obligations.DeclineReturnsTheSeats : Prop :=
  ∀ (e : AuthEntry) (left : Nat) (fault : Bool) (code : Bytes) (s : State), s.takesUplink = true →
    s.entryTagged e.tag = some e → e.tag < 65536 → e.state = .active left → code.length ≤ 8 → printable code = true →
    let stays := decide ((s.port e.origin).state = .active) && decide ((s.port e.origin).role ≠ .counter)
    let seats := e.seatLines.map (·.seat)
    Reaches (exec (.authResponse (u16 e.tag ++ [if fault then 0x52 else 0x51] ++ text code)) s) fun t =>
      (if stays then
          (∀ k ∈ seats, t.seatAt e.handle.index k = { s.seatAt e.handle.index k with
            state := (s.seatAt e.handle.index k).state.reheld e.origin s.seats.declineGrace })
          ∧ s.poolKept t (s.seatAddresses e.handle.index seats) ∧ s.showsKept t e.handle.index
          ∧ (∀ k ∈ e.claims, s.slotBecomes t k (Slot.claim (.port e.origin)))
          ∧ t.basket e.origin = { s.basket e.origin with state := .priced, undo := [], lapsed := false }
        else
          s.seatsReturned t e.handle.index seats
          ∧ (∀ k ∈ e.claims, s.slotBecomes t k Slot.unclaim)
          ∧ t.basket e.origin = { Basket.reset with handle := (s.basket e.origin).handle })
      ∧ s.slotsKept t e.claims ∧ s.controlKept t
      ∧ t.vouchers.lowArmed = decide (64 ≤ t.vouchers.available)
      ∧ t = { s with
          seats := { s.seats with shows := t.seats.shows, pool := t.seats.pool }
          baskets := s.baskets.set e.origin (t.basket e.origin)
          relay := { s.relay with
            entries := s.relay.entries.eraseP (fun f => decide (f.tag = e.tag))
            gatewayHold := s.relay.gatewayHold || fault }
          vouchers := { s.vouchers with
            slots := t.vouchers.slots, reservation := s.vouchers.reservation - e.reservation
            lowArmed := t.vouchers.lowArmed }
          ports := s.ports.set e.origin ((s.port e.origin).resulted stays .declined (u16 e.tag ++ flag fault))
          uplink := s.uplink.without e.tag
          control := t.control }

/-- R102 to R105: a late APPROVED, and Reconcile SOLD, complete the sale of a LOST entry as State.completeSale says
(CompletionOfASale), owe the documents of State.saleDocs (R131) with reason LATE and raise LATE_RESULT; a late DECLINED or
GATEWAY_FAULT, and Reconcile RELEASE, return its seats, claims and slots and raise LATE_RESULT. The notice carries the tag, the
Origin Port, the outcome, the Sale Number or 0, and whether a response or Reconcile settled it. No basket and no port changes. R95:
a response for no entry, or a malformed one, raises STRAY_RESULT, a missing byte as 0, and changes nothing else; one that arrives in
NIGHT is discarded. -/
def Obligations.LateResultsSettleLostEntries : Prop :=
  ∀ (e : AuthEntry) (code : Bytes) (s : State), e.tag < 65536 → code.length ≤ 8 → printable code = true →
    let n := if s.relay.saleCounter = 0 then 1 else s.relay.saleCounter
    let r := s.completeSale e.sale code
    let docs := r.1.saleDocs e.sale n r.2.2
    let room := decide (s.print.owed.length < 64)
    let sold := fun (source : Nat) (t : State) =>
      t = ((({ r.1 with
            relay := { r.1.relay with entries := s.relay.entries.eraseP (fun f => decide (f.tag = e.tag)) }
            print := { s.print with owed := s.print.owed ++ if room then
              [{ sale := n, origin := e.origin, reason := .late, docs := docs }] else [] } } : State).raise .owedAdded
            (u32 n ++ u8 e.origin.val ++ u8 1 ++ u8 docs.length ++ flag (!room))).raise .lateResult
            (u16 e.tag ++ u8 e.origin.val ++ u8 1 ++ u32 n ++ u8 source))
      ∧ r.2.1 = n ∧ r.2.2.length = e.combos.length ∧ docs.length = e.seatLines.length + e.combos.length
      ∧ s.seatsSold t e.handle.index n e.seatLines ∧ s.printKept t ∧ s.controlKept t ∧ s.uplinkKept t
      ∧ t.vouchers.reservation = s.vouchers.reservation - e.reservation
      ∧ t = { s with
          seats := r.1.seats
          relay := { s.relay with
            entries := s.relay.entries.eraseP (fun f => decide (f.tag = e.tag))
            saleCounter := if n < 4294967295 then n + 1 else 1 }
          vouchers := r.1.vouchers, print := t.print, uplink := t.uplink, control := t.control }
    let released := fun (fault : Bool) (source : Nat) (t : State) =>
      s.seatsReturned t e.handle.index (e.seatLines.map (·.seat))
      ∧ (∀ k ∈ e.claims, s.slotBecomes t k Slot.unclaim) ∧ s.slotsKept t e.claims
      ∧ s.controlKept t ∧ s.uplinkKept t
      ∧ t.vouchers.lowArmed = decide (64 ≤ t.vouchers.available)
      ∧ t = ((({ s with
          seats := { s.seats with shows := t.seats.shows, pool := t.seats.pool }
          relay := { s.relay with
            entries := s.relay.entries.eraseP (fun f => decide (f.tag = e.tag))
            gatewayHold := s.relay.gatewayHold || fault }
          vouchers := { s.vouchers with
            slots := t.vouchers.slots, reservation := s.vouchers.reservation - e.reservation } } : State).raise .lateResult
          (u16 e.tag ++ u8 e.origin.val ++ u8 2 ++ u32 0 ++ u8 source)).checkLow)
    (s.entryTagged e.tag = some e → e.state = .lost →
      (s.takesUplink = true →
        Reaches (exec (.authResponse (u16 e.tag ++ [0x50] ++ text code)) s) (sold 1)
        ∧ Reaches (exec (.authResponse (u16 e.tag ++ [0x51] ++ text code)) s) (released false 1)
        ∧ Reaches (exec (.authResponse (u16 e.tag ++ [0x52] ++ text code)) s) (released true 1))
      ∧ ∀ tag : Byte, s.takesCommand (some .reconcile) = true →
        Reaches (exec (.reconcile tag (u16 e.tag ++ u8 1 ++ text code)) s) (fun t => ∃ u, sold 2 u
          ∧ t = u.replied .reconcile tag .ok (u32 n))
        ∧ Reaches (exec (.reconcile tag (u16 e.tag ++ u8 2)) s) (fun t => ∃ u, released false 2 u
          ∧ t = u.replied .reconcile tag .ok (u8 e.seatLines.length ++ u8 e.claims.length)))
    ∧ (∀ r : Byte, s.takesUplink = true → s.entryTagged e.tag = none →
        exec (.authResponse (u16 e.tag ++ [r] ++ text code)) s = .next (s.raise .strayResult (u16 e.tag ++ [r])))
    ∧ ∀ payload : Bytes,
      let count := (payload.getD 3 0).toNat
      (s.takesUplink = false → exec (.authResponse payload) s = .next s)
      ∧ (s.takesUplink = true →
        (payload.length < 4 ∨ payload.length ≠ 4 + count ∨ payload.getD 2 0 ∉ [0x50, 0x51, 0x52] ∨ 8 < count
          ∨ ∃ c ∈ payload.drop 4, c.toNat < 0x20 ∨ 0x7E < c.toNat) →
        exec (.authResponse payload) s =
          .next (s.raise .strayResult [payload.getD 0 0, payload.getD 1 0, payload.getD 2 0]))

/-- R97: the one entry whose Timeout Remaining is 0 becomes LOST, its seats staying PENDING; its AUTH_REQUEST is withdrawn, the
origin port's basket is EMPTY, the kept PAY is answered UNKNOWN where the port is ACTIVE, and AUTH_LOST is raised. Where no
entry's is 0 nothing changes. That AUTH_TIMEOUT acts alone, on what stands at 0 when it comes, is the model's reading (assumption 4),
and a port without a kept PAY its choice (assumption 30). -/
def Obligations.TimeoutLosesTheEntry : Prop :=
  ∀ s : State, s.control.running = true → (s.relay.entries.map (·.tag)).Nodup →
    (∀ e, s.relay.entries.filter (fun e => decide (e.state = .active 0)) = [e] →
      exec .authTimeout s = .next (({ s with
        relay := { s.relay with entries := s.relay.entries.map (fun f => if f = e then { e with state := .lost } else f) }
        baskets := s.baskets.set e.origin { Basket.reset with handle := (s.basket e.origin).handle }
        ports := s.ports.set e.origin ((s.port e.origin).resulted (decide ((s.port e.origin).state = .active)) .unknown
          (u16 e.tag))
        uplink := s.uplink.without e.tag } : State).raise .authLost (u16 e.tag ++ u8 e.origin.val ++ u24 e.net)))
    ∧ ((∀ e ∈ s.relay.entries, e.state ≠ .active 0) → exec .authTimeout s = .next s)

/-! ## Vouchers -/

/-- R119 to R121, R118: REDEEM at a COUNTER port hands over an ISSUED snack voucher, its slot becoming REDEEMED with its stamp; a
serial that fails a test is refused by it and changes nothing. -/
def Obligations.RedeemStampsTheVoucher : Prop :=
  ∀ (p : PortNo) (tag : Byte) (serial : Nat) (s : State), s.hears p = true → s.control.foyer ≠ .unconfigured →
    (s.port p).role = .counter → 1 ≤ serial → serial < 16777216 →
    let refused := fun (r : Result) (content : Bytes) =>
      exec (.redeem p tag (u24 serial)) s = .next (s.answered .redeem p tag r (u24 serial ++ content))
    (s.indexed serial = none → refused .unknown [])
    ∧ ∀ n, s.indexed serial = some n →
      (∀ v q day time, s.slotAt n = .redeemed v q day time → refused .alreadyRedeemed (u8 q.val ++ u16 day ++ u24 time))
      ∧ (∀ v day, s.slotAt n = .void v day → refused .voided [])
      ∧ (∀ v o, s.slotAt n = .claimed v o → refused .inUse [])
      ∧ (∀ v value, s.slotAt n = .issued v → v.kind = .credit value → refused .wrongKind [])
      ∧ (∀ v c, s.slotAt n = .issued v → v.kind = .snack c → v.expiryDay < s.control.day →
          refused .expired (u16 v.expiryDay))
      ∧ (∀ v c, s.slotAt n = .issued v → v.kind = .snack c → s.control.day ≤ v.expiryDay →
          Reaches (exec (.redeem p tag (u24 serial)) s) fun t =>
            t.slotAt n = .redeemed v p s.control.day s.control.seconds ∧ (∀ m, m ≠ n → t.slotAt m = s.slotAt m)
            ∧ t = ({ s with vouchers := { s.vouchers with slots := t.vouchers.slots } } : State).answered .redeem p tag .ok
                (u24 serial ++ u8 c.val ++ u32 v.issuingSale ++ text (s.prices.live.combos[c]).name))

/-- R114, R115, R122, R123, R126: Issue Credit takes the lowest-numbered FREE slot and the first serial from the counter on that is in no pair, and Void
Voucher makes an ISSUED voucher VOID. Low Armed follows Available, and when Available is left below 64 while the flag is set
VOUCHER_LOW is raised with Available, the FREE slots and the reservation count. The premise on the index is part of RelaySound and
Canonical: at most 4,096 pairs. -/
def Obligations.VouchersIssuedAndVoided : Prop :=
  ∀ (tag : Byte) (s : State),
    (∀ value day : Nat, s.takesCommand (some .issueCredit) = true → 1 ≤ value → value ≤ 65535 → day < 65536 →
      s.vouchers.serialLoaded = true → 1 ≤ s.vouchers.available → s.vouchers.index.length ≤ 4096 →
      s.vouchers.serialCounter ≤ 16777215 →
      Reaches (exec (.issueCredit tag (u24 value ++ u16 day)) s) fun t => ∃ serial n : Nat,
        let start := if s.vouchers.serialCounter = 0 then 1 else s.vouchers.serialCounter
        let candidate := fun d : Nat => (start - 1 + d) % 16777215 + 1
        1 ≤ serial ∧ serial ≤ 16777215 ∧ s.indexed serial = none
        ∧ (∃ d, serial = candidate d ∧ ∀ e < d, s.indexed (candidate e) ≠ none)
        ∧ n < 4096 ∧ s.slotAt n = .free ∧ (∀ m, m < n → s.slotAt m ≠ .free)
        ∧ t.slotOf serial = some (n, .issued { serial := serial, kind := .credit value, issuingSale := 0, expiryDay := day })
        ∧ (∀ m, m ≠ n → t.slotAt m = s.slotAt m) ∧ (∀ k, k ≠ serial → t.indexed k = s.indexed k)
        ∧ t.vouchers.lowArmed = decide (64 ≤ t.vouchers.available)
        ∧ t.control = (if t.vouchers.available < 64 ∧ s.vouchers.lowArmed = true then
            s.raise .voucherLow (u16 t.vouchers.available ++ u16 t.vouchers.freeSlots ++ u16 t.vouchers.reservation)
          else s).control
        ∧ t = ({ s with
              vouchers := { s.vouchers with
                slots := t.vouchers.slots, index := t.vouchers.index, lowArmed := t.vouchers.lowArmed
                serialCounter := if serial < 16777215 then serial + 1 else 1 }
              control := t.control } : State).replied .issueCredit tag .ok (u24 serial ++ u24 value ++ u16 day))
    ∧ (∀ serial n : Nat, s.takesCommand (some .voidVoucher) = true → 1 ≤ serial → serial < 16777216 →
      (∀ v, s.slotOf serial = some (n, .issued v) → Reaches (exec (.voidVoucher tag (u24 serial)) s) fun t =>
        t.slotAt n = .void v s.control.day ∧ (∀ m, m ≠ n → t.slotAt m = s.slotAt m)
        ∧ t = ({ s with vouchers := { s.vouchers with slots := t.vouchers.slots } } : State).replied .voidVoucher tag .ok
            (u24 serial ++ u8 v.kind.code))
      ∧ (∀ v o, s.slotOf serial = some (n, .claimed v o) →
        exec (.voidVoucher tag (u24 serial)) s = .next (s.replied .voidVoucher tag .inUse []))
      ∧ (s.indexed serial = none → exec (.voidVoucher tag (u24 serial)) s = .next (s.replied .voidVoucher tag .notFound [])))
    ∧ s.checkLow =
      (if s.vouchers.available < 64 ∧ s.vouchers.lowArmed = true then
        ({ s with vouchers := { s.vouchers with lowArmed := false } } : State).raise .voucherLow
          (u16 s.vouchers.available ++ u16 s.vouchers.freeSlots ++ u16 s.vouchers.reservation)
      else { s with vouchers := { s.vouchers with lowArmed := decide (64 ≤ s.vouchers.available) } })

/-- R125, R196: Day Roll sets a later Day Number and frees, in the same step, the slots redeemed or voided on an earlier day and
the ISSUED ones expired, their serials leaving the index; no other slot changes. A day not later is refused BAD_ARG. -/
def Obligations.DayRollReclaimsSlots : Prop :=
  ∀ (tag : Byte) (day : Nat) (s : State), s.takesCommand (some .dayRoll) = true → day < 65536 → s.Canonical →
    (day ≤ s.control.day → exec (.dayRoll tag (u16 day)) s = .next (s.replied .dayRoll tag .badArg []))
    ∧ (s.control.day < day →
      let freed := fun x : Slot => match x with
        | .redeemed _ _ d _ => decide (d < day)
        | .void _ d => decide (d < day)
        | .issued v => decide (v.expiryDay < day)
        | _ => false
      Reaches (exec (.dayRoll tag (u16 day)) s) fun t =>
        (∀ n, t.slotAt n = if freed (s.slotAt n) then .free else s.slotAt n)
        ∧ (∀ serial, t.indexed serial = match s.slotOf serial with
            | none => none
            | some (n, x) => if freed x then none else some n)
        ∧ t.control.day = day
        ∧ t.vouchers.lowArmed = decide (64 ≤ t.vouchers.available)
        ∧ ({ s with control := { s.control with day := day } } : State).controlKept t
        ∧ t = ({ s with
              vouchers := { s.vouchers with
                slots := t.vouchers.slots, index := t.vouchers.index, lowArmed := t.vouchers.lowArmed }
              control := t.control } : State).replied .dayRoll tag .ok
            (u16 day ++ u16 (s.vouchers.slots.filter (fun c => freed c.2)).length))

/-! ## Printing -/

/-- R140, R141, R142: what each report of a PRINTER_STATUS does in each state of the channel that serves its port; every other
pair, a malformed report and a port without a RUNNING job change nothing but the Error Count (R177). That PAUSED keeps the next frame
index (assumption 46), and that a frame already offered is still sent and the next one waits for it (assumption 24), are the model's. -/
def Obligations.PrinterReportsDriveTheChannel : Prop :=
  ∀ (p : PortNo) (tag : Byte) (s : State), s.takesFrames p = true →
    let heard : State := { s with ports := s.ports.set p { s.port p with errorCount := (s.port p).errorCount - 1 } }
    let report := fun (r i : Byte) => exec (.printerStatus p tag [r, i]) s
    (∀ payload, payload.length ≠ 2 → exec (.printerStatus p tag payload) s = .next heard)
    ∧ (∀ r i : Byte, 4 < r.toNat → report r i = .next heard)
    ∧ (∀ r i : Byte, s.channelFor p = none → report r i = .next heard)
    ∧ ∀ (c : ChannelNo) (j : Job), s.channelFor p = some c → s.jobOn c = some j →
      let ch := s.channel c
      let moved := fun (x : Channel) =>
        ({ heard with print := { s.print with channels := s.print.channels.set c x } } : State)
      (∀ i, report 0 i = match ch.state, ch.buffer with
          | .paused _, some r =>
            .next (((moved { ch with state := .send, buffer := some r, nextFrame := 0 }).offer c).runArbiter)
          | .paused _, none => .next ((heard.enterFetch c).runArbiter)
          | _, _ => .next heard)
      ∧ (∀ i, report 1 i = match ch.state with
          | .await _ => .next (moved { ch with state := .await s.print.printerWait })
          | _ => .next heard)
      ∧ (∀ i, report 2 i = match ch.state with
          | .fetch => .next (moved { ch with state := .paused s.print.paperWait, buffer := none })
          | .send => .next ((moved { ch with state := .paused s.print.paperWait }).releaseOffer p)
          | .await _ => .next (moved { ch with state := .paused s.print.paperWait })
          | _ => .next heard)
      ∧ (∀ i, ch.state ≠ .idle → report 3 i = .next ((heard.failJob c .jam).runArbiter))
      ∧ (∀ i, (∀ w, ch.state ≠ .await w) → report 4 i = .next heard)
      ∧ (∀ w, ch.state = .await w → ∀ (i : Byte) (d : Document), j.current = some d →
        (d.index ≠ i.toNat → report 4 i = .next heard)
        ∧ (d.index = i.toNat → j.next + 1 = j.docs.length → report 4 i = .next (({ heard with
            print := { s.print with
              jobs := s.print.jobs.filter (fun k => decide (k.number ≠ j.number))
              channels := s.print.channels.set c Channel.idle } } : State).runArbiter))
        ∧ (d.index = i.toNat → j.next + 1 < j.docs.length → report 4 i = .next ((({ heard with
            print := { s.print with
              jobs := s.print.jobs.map (fun k => if k.number = j.number then { k with next := k.next + 1 } else k)
              } } : State).enterFetch c).runArbiter)))

/-- R144, R143, R146: a failing job owes its documents from Next Position on as one PRINT_FAILED entry, or discards them when the
list holds 64, raises PRINT_FAILED before OWED_ADDED, and leaves the queue, its channel IDLE. The waits that reach 0 fail their
job so. That the two expiry rows act alone (assumption 4) and that a frame offered is still sent after the failure (assumption 24)
are the model's readings. -/
def Obligations.FailedJobsOweTheirDocuments : Prop :=
  ∀ (c : ChannelNo) (j : Job) (isReprint : Bool) (sale : Nat) (origin dest : PortNo) (docs : List Document) (d : Document)
    (s : State), s.jobOn c = some j → j.work = .print isReprint sale origin dest docs → j.current = some d →
    let room := decide (s.print.owed.length < 64)
    let failed := fun (why : FailReason) (u : State) =>
      u.print = { s.print with
          jobs := s.print.jobs.filter (fun k => decide (k.number ≠ j.number))
          channels := s.print.channels.set c Channel.idle
          owed := s.print.owed ++ if room then
            [{ sale := sale, origin := origin, reason := .printFailed, docs := docs.drop j.next }] else [] }
      ∧ (s.control.enables.all = true → s.control.enables.printFailed = true → s.control.enables.owedAdded = true →
          s.control.notices.length ≤ 30 → u.control = { s.control with
            notices := s.control.notices ++ [
              { code := 8, carriesLost := false, day := s.control.day, seconds := s.control.seconds
                content := u16 j.number ++ u32 sale ++ u8 dest.val ++ u8 why.code ++ u8 d.index
                  ++ u8 (if why = .templateBad then d.template.val else 255) ++ flag room },
              { code := 9, carriesLost := false, day := s.control.day, seconds := s.control.seconds
                content := u32 sale ++ u8 origin.val ++ u8 2 ++ u8 (docs.drop j.next).length ++ flag (!room) }] })
      ∧ s.controlKept u ∧ s.uplinkKept u
      ∧ u = { s with
          print := u.print, control := u.control, uplink := u.uplink
          ports := s.ports.set dest { s.port dest with
            printOffer := (s.port dest).printOffer.map (fun o => { o with current := false }) } }
    (∀ why, failed why (s.failJob c why))
    ∧ (s.control.running = true → (s.channel c).state = .await 0 →
        ∃ u, failed .printerWait u ∧ exec (.printerWaitExpiry c) s = .next u.runArbiter)
    ∧ (s.control.running = true → (s.channel c).state = .paused 0 →
        ∃ u, failed .paperWait u ∧ exec (.paperWaitExpiry c) s = .next u.runArbiter)

/-- R134: while a channel is IDLE and a job is eligible, the lowest-numbered IDLE channel takes the oldest eligible PROOF, else the
oldest eligible job of the highest Print Level; the job becomes RUNNING with its Next Position kept and the channel enters FETCH. R135:
in FETCH the channel waits while the store is BUSY, and reads at its completion; else it reads at once. A sector whose Kind, Body
Length or Body Check fails, in that order, fails the job TEMPLATE_BAD (FailedJobsOweTheirDocuments); one that passes is rendered and
the channel enters SEND and offers frame 0 if the port holds no offer. R151: a PROOF ends in its read with PROOF_DONE, which carries
the header result and, for OK, the Kind, the rendered length, the Truncated marker and the CRC-16. That the arbiter runs once, after all
the channels have read at a completion (assumption 23), the next frame index of 0 in FETCH (assumption 53) and an offer that waits for
the one before it (assumption 24) are the model's. -/
def Obligations.ChannelsTakeTheHighestJob : Prop :=
  ∀ s : State,
    let put := fun (c : ChannelNo) (x : Channel) =>
      ({ s with print := { s.print with channels := s.print.channels.set c x } } : State)
    (∀ j : Job, s.eligible j = true ↔ j.channel = none ∧ ∀ p, j.dest = some p →
        (s.port p).state = .active ∧ ∀ k ∈ s.print.jobs, k.channel ≠ none → k.dest ≠ some p)
    ∧ (∀ j, s.pickJob = some j → ∃ older younger, s.print.jobs = older ++ j :: younger ∧ s.eligible j = true
        ∧ (j.isProof = true → ∀ k ∈ older, s.eligible k = true → k.isProof = false)
        ∧ (j.isProof = false →
            (∀ k ∈ s.print.jobs, s.eligible k = true → k.isProof = false ∧ s.levelOf k ≤ s.levelOf j)
            ∧ ∀ k ∈ older, s.eligible k = true → s.levelOf k < s.levelOf j))
    ∧ (∀ j p, j.dest = some p → s.levelOf j = (s.port p).printLevel.val)
    ∧ (s.pickJob = none ↔ ∀ j ∈ s.print.jobs, s.eligible j = false)
    ∧ (∀ c, s.idleChannel = some c ↔ (s.channel c).state = .idle ∧ ∀ d, d < c → (s.channel d).state ≠ .idle)
    ∧ ((s.idleChannel = none ∨ s.pickJob = none) → s.runArbiter = s)
    ∧ (∀ c j, s.idleChannel = some c → s.pickJob = some j → s.runArbiter = (s.takeJob c j).runArbiter)
    ∧ ((∀ c, (s.runArbiter.channel c).state ≠ .idle) ∨ ∀ j ∈ s.runArbiter.print.jobs, s.runArbiter.eligible j = false)
    ∧ (∀ (c : ChannelNo) (j : Job),
        let taken : State := { s with print := { s.print with
          jobs := s.print.jobs.map (fun k => if k.number = j.number then { k with channel := some c } else k)
          channels := s.print.channels.set c { state := .fetch, job := some j.number, buffer := none, nextFrame := 0 } } }
        (s.store.operation ≠ none → s.takeJob c j = taken)
        ∧ (s.store.operation = none → s.takeJob c j = taken.readSector c))
    ∧ (∀ c : ChannelNo,
        let fetching := put c { s.channel c with state := .fetch, buffer := none, nextFrame := 0 }
        (s.store.operation ≠ none → s.enterFetch c = fetching)
        ∧ (s.store.operation = none → s.enterFetch c = fetching.readSector c))
    ∧ (∀ op, s.control.running = true → s.store.operation = some op → ∃ u : State,
        u.store.operation = none ∧ u = { s with store := u.store, control := u.control }
        ∧ exec .storeOperationCompletion s = .next
          (((List.finRange 4).filter (fun c => decide ((s.channel c).state = .fetch))).foldl State.readSector u).runArbiter)
    ∧ ∀ (c : ChannelNo) (j : Job), s.jobOn c = some j →
      let kindByte := fun k : SectorNo => s.store.byte (4096 * k.val)
      let length := fun k : SectorNo => beNat (s.store.bytes (4096 * k.val + 1) 2)
      let body := fun k : SectorNo => s.store.bytes (4096 * k.val + 16) (length k)
      let good := fun k : SectorNo => checkBytes (body k) = s.store.bytes (4096 * k.val + 3) 2
      (∀ d : Document, j.isProof = false → j.current = some d →
        let k := d.template
        let kindOk := s.store.unsettled[k] = false
          ∧ kindByte k = (match d.fields with | .ticket .. => 0x01 | .voucher .. => 0x02)
        let r := render (d.field s.store) (body k)
        (¬(kindOk ∧ 1 ≤ length k ∧ length k ≤ 4080 ∧ good k) → s.readSector c = s.failJob c .templateBad)
        ∧ (kindOk → 1 ≤ length k → length k ≤ 4080 → good k → ∀ p, j.dest = some p →
          let sending := put c { s.channel c with state := .send, buffer := some r, nextFrame := 0 }
          s.readSector c = if (s.port p).printOffer = none then
              { sending with ports := s.ports.set p { s.port p with printOffer := some (printFrame j.number d.index r 0) } }
            else sending))
      ∧ ∀ k : SectorNo, j.work = .proof k →
        let ended := fun content : Bytes => ({ s with print := { s.print with
          jobs := s.print.jobs.filter (fun x => decide (x.number ≠ j.number))
          channels := s.print.channels.set c Channel.idle } } : State).raise .proofDone (u16 j.number ++ u8 k.val ++ content)
        let kind := if kindByte k = 0x01 then TemplateKind.ticket else .voucher
        let kindOk := s.store.unsettled[k] = false ∧ (kindByte k = 0x01 ∨ kindByte k = 0x02)
        let r := render (proofField kind) (body k)
        (¬kindOk → s.readSector c = ended (u8 1 ++ u8 0 ++ u16 0 ++ u8 0 ++ u16 0))
        ∧ (kindOk → (length k < 1 ∨ 4080 < length k) → s.readSector c = ended (u8 2 ++ u8 0 ++ u16 0 ++ u8 0 ++ u16 0))
        ∧ (kindOk → 1 ≤ length k → length k ≤ 4080 → ¬good k → s.readSector c = ended (u8 3 ++ u8 0 ++ u16 0 ++ u8 0 ++ u16 0))
        ∧ (kindOk → 1 ≤ length k → length k ≤ 4080 → good k → s.readSector c = ended
            (u8 0 ++ u8 (kindByte k).toNat ++ u16 r.data.length ++ flag r.truncated ++ u16 (crc16 r.data).toNat))

/-- R147 to R151, R130: REPRINT makes the oldest owed entry of a sale a job for its own port, or is refused by its checks in their order; Redirect Job, Cancel Job and Drop Owed change the queue
and the list as they say; Proof Template makes a PROOF job. Each job made takes a Job Number that no job in the queue carries, the
counter's own where it is free; that the counter then stands one past it is the model's choice (assumption 41). What names no job or no
entry is refused NOT_FOUND, and a PROOF job BAD_STATE. -/
def Obligations.PrintQueueCommands : Prop :=
  ∀ (tag : Byte) (s : State),
    let fresh := fun n : Nat => (∀ k ∈ s.print.jobs, k.number ≠ n)
      ∧ ((∀ k ∈ s.print.jobs, k.number ≠ s.print.jobCounter) → n = s.print.jobCounter)
    let after := fun n : Nat => if n < 65535 then n + 1 else 1
    (∀ (p : PortNo) (sale : Nat) (e : OwedEntry), s.hears p = true → s.control.foyer = .opened →
      (s.port p).role = .boxOffice → 1 ≤ sale → sale < 4294967296 →
      s.print.owed.find? (fun x => decide (x.sale = sale)) = some e → s.print.jobs.length < 32 →
      ∃ n, fresh n ∧ exec (.reprint p tag (u32 sale)) s = .next ((({ s with
          ports := s.ports.set p { s.port p with errorCount := (s.port p).errorCount - 1 }
          print := { s.print with
            owed := s.print.owed.eraseP (fun x => decide (x.sale = sale))
            jobs := s.print.jobs ++ [{ number := n, work := .print true e.sale e.origin p e.docs, next := 0, channel := none }]
            jobCounter := after n } } : State).runArbiter).pushReply p
          { cls := KioskClass.reprint.replyCode, tag := tag, payload := 0 :: (u16 n ++ u8 e.docs.length) }))
    ∧ (∀ (p : PortNo) (sale : Nat), s.hears p = true → sale < 4294967296 →
      let refused := fun r : Result => exec (.reprint p tag (u32 sale)) s = .next (s.answered .reprint p tag r [])
      (s.control.foyer = .unconfigured → refused .notReady)
      ∧ (s.control.foyer ≠ .unconfigured →
        ((s.port p).role ≠ .boxOffice → refused .wrongRole)
        ∧ ((s.port p).role = .boxOffice →
          (sale = 0 → refused .badArg)
          ∧ (1 ≤ sale →
            (s.control.foyer = .closed → refused .closed)
            ∧ (s.control.foyer = .opened →
              ((∀ x ∈ s.print.owed, x.sale ≠ sale) → refused .notFound)
              ∧ ((∃ x ∈ s.print.owed, x.sale = sale) → 32 ≤ s.print.jobs.length → refused .queueFull))))))
    ∧ (∀ (n : Nat) (p : PortNo), n < 65536 →
      let refused := fun r : Result =>
        (s.takesCommand (some .redirectJob) = true →
          exec (.redirectJob tag (u16 n ++ u8 p.val)) s = .next (s.replied .redirectJob tag r []))
        ∧ (s.takesCommand (some .cancelJob) = true →
          exec (.cancelJob tag (u16 n)) s = .next (s.replied .cancelJob tag r []))
      (n = 0 → refused .badArg)
      ∧ (1 ≤ n → s.jobNumbered n = none → refused .notFound)
      ∧ ∀ (j : Job) (k : SectorNo), 1 ≤ n → s.jobNumbered n = some j → j.work = .proof k → refused .badState)
    ∧ (∀ sale : Nat, s.takesCommand (some .dropOwed) = true → sale < 4294967296 →
      (sale = 0 → exec (.dropOwed tag (u32 sale)) s = .next (s.replied .dropOwed tag .badArg []))
      ∧ (1 ≤ sale → (∀ x ∈ s.print.owed, x.sale ≠ sale) →
        exec (.dropOwed tag (u32 sale)) s = .next (s.replied .dropOwed tag .notFound [])))
    ∧ (∀ (n : Nat) (j : Job) (isReprint : Bool) (sale : Nat) (origin old p : PortNo) (docs : List Document),
      1 ≤ n → n < 65536 → s.jobNumbered n = some j → j.work = .print isReprint sale origin old docs →
      (s.takesCommand (some .redirectJob) = true →
        (j.channel = none → exec (.redirectJob tag (u16 n ++ u8 p.val)) s = .next ((({ s with print := { s.print with
            jobs := s.print.jobs.map (fun k => if k.number = n then { k with work := k.work.redirect p } else k) } } :
            State).runArbiter).replied .redirectJob tag .ok (u8 old.val ++ u8 p.val)))
        ∧ (j.channel ≠ none → exec (.redirectJob tag (u16 n ++ u8 p.val)) s = .next (s.replied .redirectJob tag .busy [])))
      ∧ (s.takesCommand (some .cancelJob) = true →
        (j.channel = none → s.print.owed.length < 64 → exec (.cancelJob tag (u16 n)) s = .next ((({ s with
            print := { s.print with
              jobs := s.print.jobs.filter (fun k => decide (k.number ≠ n))
              owed := s.print.owed ++ [{ sale := sale, origin := origin, reason := .cancelled, docs := docs.drop j.next }] } } :
            State).raise .owedAdded (u32 sale ++ u8 origin.val ++ u8 5 ++ u8 (docs.drop j.next).length ++ flag false)).replied
              .cancelJob tag .ok (u32 sale ++ u8 (docs.drop j.next).length)))
        ∧ (j.channel ≠ none → exec (.cancelJob tag (u16 n)) s = .next (s.replied .cancelJob tag .busy []))
        ∧ (j.channel = none → 64 ≤ s.print.owed.length →
            exec (.cancelJob tag (u16 n)) s = .next (s.replied .cancelJob tag .full []))))
    ∧ (∀ (sale : Nat) (e : OwedEntry), s.takesCommand (some .dropOwed) = true → 1 ≤ sale → sale < 4294967296 →
      s.print.owed.find? (fun x => decide (x.sale = sale)) = some e →
      exec (.dropOwed tag (u32 sale)) s = .next (({ s with print := { s.print with
        owed := s.print.owed.eraseP (fun x => decide (x.sale = sale)) } } : State).replied .dropOwed tag .ok
          (u8 e.reason.code ++ u8 e.docs.length)))
    ∧ ∀ k : SectorNo, s.takesCommand (some .proofTemplate) = true →
      (s.print.jobs.length < 32 → ∃ n, fresh n ∧ exec (.proofTemplate tag (u8 k.val)) s = .next ((({ s with
          print := { s.print with
            jobs := s.print.jobs ++ [{ number := n, work := .proof k, next := 0, channel := none }]
            jobCounter := after n } } : State).runArbiter).replied .proofTemplate tag .accepted (u16 n)))
      ∧ (32 ≤ s.print.jobs.length →
          exec (.proofTemplate tag (u8 k.val)) s = .next (s.replied .proofTemplate tag .full []))

/-- R139: the frames of a rendered document of L bytes are L / 232 rounded up, one for an empty document; each carries the Job
Number, the Document Index, its Frame Index and 232 bytes but for the last; put together they are the document; Last stands on
the final frame alone, and Truncated there alone when the document is. -/
def Obligations.PrintFramesCarryTheDocument : Prop :=
  ∀ (job doc : Nat) (r : Rendered),
    let n := max 1 ((r.data.length + 231) / 232)
    (List.range n).flatMap (fun k => (printFrame job doc r k).frame.payload.drop 5) = r.data
    ∧ ∀ k, k < n →
      (printFrame job doc r k).last = decide (k + 1 = n)
      ∧ (printFrame job doc r k).frame.cls = 0x21 ∧ (printFrame job doc r k).frame.tag = 0
      ∧ (printFrame job doc r k).frame.payload.take 5 = u16 job ++ u8 doc ++ u8 k
          ++ u8 (if k + 1 = n then (if r.truncated then 3 else 1) else 0)
      ∧ (k + 1 < n → (printFrame job doc r k).frame.payload.length = 237)
      ∧ (printFrame job doc r k).frame.payload.length ≤ 237

/-- R136, R137, R138, R152: a body is copied byte by byte but for escape pairs, which give the field's first 32 characters, an escape
byte, or a question mark; a rendered document is at most 8,192 bytes, marked Truncated when there was more; numbers render as
decimal digits without leading zeros. Each field number has the value its document and the Site Record give, or in a proof the fixed
one, and "?" where it does not belong to the kind. -/
def Obligations.RenderingReplacesEscapes : Prop :=
  (∀ (f : Nat → Bytes) (rest : Bytes),
    (∀ b : Byte, b ≠ 0x1B → renderBody f (b :: rest) = b :: renderBody f rest)
    ∧ (∀ n : Byte, 1 ≤ n.toNat → n.toNat ≤ 20 → renderBody f (0x1B :: n :: rest) = (f n.toNat).take 32 ++ renderBody f rest)
    ∧ renderBody f (0x1B :: 0x1B :: rest) = 0x1B :: renderBody f rest
    ∧ (∀ n : Byte, (n.toNat = 0 ∨ 20 < n.toNat) → n ≠ 0x1B → renderBody f (0x1B :: n :: rest) = 0x3F :: renderBody f rest)
    ∧ renderBody f [0x1B] = [0x3F] ∧ renderBody f [] = [])
  ∧ (∀ (f : Nat → Bytes) (body : Bytes), (0x1B : Byte) ∉ body → renderBody f body = body)
  ∧ (∀ (f : Nat → Bytes) (body : Bytes), (render f body).data = (renderBody f body).take 8192
      ∧ (render f body).data.length ≤ 8192 ∧ ((render f body).truncated = true ↔ 8192 < (renderBody f body).length))
  ∧ (∀ n : Nat, (decimal n).foldl (fun a c => 10 * a + (c.toNat - 48)) 0 = n
      ∧ (∀ c ∈ decimal n, 48 ≤ c.toNat ∧ c.toNat ≤ 57) ∧ (0 < n → ∀ rest, decimal n ≠ 0x30 :: rest))
  ∧ (∀ (st : TemplateStore) (k : SectorNo) (index sale : Nat) (fields : DocFields),
      let site := fun a n : Nat => (List.range n).map (fun i => Sparse.get erasedByte st.siteRecord (a + i))
      let both := [decimal (beNat (site 0 2)), site 7 32, site 3 4, decimal (beNat (site 2 1)), decimal sale, decimal index]
      let mark : Bytes := [0x3F]
      (List.range 20).map (fun n => Document.field { template := k, index := index, sale := sale, fields := fields } st (n + 1))
        = both ++ match fields with
          | .ticket title startDay startTime _ rowLabel seatNumber typeName amount =>
            [title, decimal startDay,
              twoDigits (startTime / 3600) ++ [0x3A] ++ twoDigits (startTime % 3600 / 60), rowLabel, decimal seatNumber,
              typeName, decimal amount] ++ List.replicate 7 mark
          | .voucher comboName serial expiryDay =>
            List.replicate 7 mark ++ [comboName, decimal serial, decimal expiryDay] ++ List.replicate 4 mark)
  ∧ (∀ n : Nat, n < 100 → ∃ a b : Nat, twoDigits n = [BitVec.ofNat 8 (48 + a), BitVec.ofNat 8 (48 + b)] ∧ a ≤ 9 ∧ b ≤ 9
      ∧ 10 * a + b = n)
  ∧ ∀ kind : TemplateKind, (List.range 20).map (fun n => proofField kind (n + 1)) =
      ["65535", "ABCDEFGHIJKLMNOPQRSTUVWXYZ012345", "ZZ99", "2", "4294967295", "15"].map ascii
        ++ match kind with
          | .ticket => ["ABCDEFGHIJKLMNOPQRSTUVWXYZ012345", "65535", "23:59", "AA", "255", "TYPENAME", "135163"].map ascii
              ++ List.replicate 7 [0x3F]
          | .voucher =>
            List.replicate 7 [0x3F] ++ ["COMBONAME0123456", "16777215", "65535"].map ascii ++ List.replicate 4 [0x3F]

/-! ## The Template Store and the Site Record -/

/-- R158 to R162, R168: Write Enable and Write Disable move the latch; an erase or a program that passes takes the latch, clears
Write Aborted, makes its sectors UNSETTLED and the store BUSY, and changes no byte. A BUSY store refuses every one of these, and Set
Protect, Site Program and Site Lock (R167, R170, R171), with BUSY, the latch kept. The widths of the arguments are in part the model's (assumption 15). -/
def Obligations.StoreOperationsAreAccepted : Prop :=
  ∀ (tag : Byte) (s : State),
    (s.store.operation = none →
      (s.takesCommand (some .writeEnable) = true → exec (.writeEnable tag []) s =
        .next (({ s with store := { s.store with writeEnable := true } } : State).replied .writeEnable tag .ok
          (flag s.store.writeEnable)))
      ∧ (s.takesCommand (some .writeDisable) = true → exec (.writeDisable tag []) s =
        .next (({ s with store := { s.store with writeEnable := false } } : State).replied .writeDisable tag .ok
          (flag s.store.writeEnable)))
      ∧ (∀ k : SectorNo, s.takesCommand (some .eraseSector) = true →
        (s.store.writeEnable = false →
          exec (.eraseSector tag (u8 k.val)) s = .next (s.replied .eraseSector tag .notEnabled []))
        ∧ (s.store.writeEnable = true → s.store.protects k = true → exec (.eraseSector tag (u8 k.val)) s =
          .next (({ s with store := { s.store with writeEnable := false } } : State).replied .eraseSector tag .spanProtected []))
        ∧ (s.store.writeEnable = true → s.store.protects k = false → (∀ j ∈ s.print.jobs, k ∉ j.sectors) →
          exec (.eraseSector tag (u8 k.val)) s = .next (({ s with store := { s.store with
            writeEnable := false, writeAborted := none, operation := some (.eraseSector k)
            unsettled := s.store.unsettled.set k true } } : State).replied .eraseSector tag .accepted (u8 k.val))))
      ∧ (s.takesCommand (some .eraseAll) = true → s.store.writeEnable = true → s.store.protectSpan = 0 → s.print.jobs = [] →
        exec (.eraseAll tag []) s = .next (({ s with store := { s.store with
          writeEnable := false, writeAborted := none, operation := some .eraseAll
          unsettled := Vector.replicate 32 true } } : State).replied .eraseAll tag .accepted []))
      ∧ (∀ (k : SectorNo) (g : Fin 16) (o : Nat) (data : Bytes), s.takesCommand (some .programPage) = true →
        s.store.writeEnable = true → s.store.protects k = false → (∀ j ∈ s.print.jobs, k ∉ j.sectors) →
        1 ≤ data.length → o + data.length ≤ 256 →
        exec (.programPage tag (u8 k.val ++ u8 g.val ++ u8 o ++ u16 data.length ++ data)) s =
          .next (({ s with store := { s.store with
            writeEnable := false, writeAborted := none
            operation := some (.programPage k g o data s.store.unsettled[k])
            unsettled := s.store.unsettled.set k true } } : State).replied .programPage tag .accepted
              (u8 k.val ++ u8 g.val))))
    ∧ (s.store.operation ≠ none →
      (s.takesCommand (some .writeEnable) = true → exec (.writeEnable tag []) s = .next (s.replied .writeEnable tag .busy []))
      ∧ (s.takesCommand (some .writeDisable) = true →
          exec (.writeDisable tag []) s = .next (s.replied .writeDisable tag .busy []))
      ∧ (∀ k : SectorNo, s.takesCommand (some .eraseSector) = true →
          exec (.eraseSector tag (u8 k.val)) s = .next (s.replied .eraseSector tag .busy []))
      ∧ (s.takesCommand (some .eraseAll) = true → exec (.eraseAll tag []) s = .next (s.replied .eraseAll tag .busy []))
      ∧ (∀ (k : SectorNo) (g : Fin 16) (o : Nat) (data : Bytes), s.takesCommand (some .programPage) = true →
          data.length < 65536 → exec (.programPage tag (u8 k.val ++ u8 g.val ++ u8 o ++ u16 data.length ++ data)) s =
            .next (s.replied .programPage tag .busy []))
      ∧ (∀ (span : Fin 8) (lock : Bool), s.takesCommand (some .setProtect) = true →
          exec (.setProtect tag (u8 span.val ++ flag lock)) s = .next (s.replied .setProtect tag .busy []))
      ∧ (∀ b : Bytes, s.takesCommand (some .siteProgram) = true → b.length = 39 →
          exec (.siteProgram tag b) s = .next (s.replied .siteProgram tag .busy []))
      ∧ (s.takesCommand (some .siteLock) = true → exec (.siteLock tag []) s = .next (s.replied .siteLock tag .busy [])))

/-- R160 to R164: at completion every byte of an erased sector is 0xFF, each byte of a program is the AND of what it held and what
was given, and no other byte changes; the Condition is SETTLED or the one recorded, the store is IDLE and STORE_DONE is raised.
Then every channel waiting in FETCH reads, lowest first (ChannelsTakeTheHighestJob). That the arbiter runs once, after them all, is the
model's choice (assumption 23). -/
def Obligations.StoreCompletionWritesTheBytes : Prop :=
  ∀ (op : StoreOp) (s : State), s.control.running = true → s.store.operation = some op →
    Reaches (exec .storeOperationCompletion s) fun t =>
      (∀ k, op = .eraseSector k →
        (∀ a, t.store.byte a = if a / 4096 = k.val then 0xFF else s.store.byte a)
        ∧ t.store.unsettled = s.store.unsettled.set k false)
      ∧ (op = .eraseAll → (∀ a, t.store.byte a = 0xFF) ∧ t.store.unsettled = Vector.replicate 32 false)
      ∧ (∀ k g o data was, op = .programPage k g o data was →
        (∀ a, t.store.byte a =
          if 4096 * k.val + 256 * g.val + o ≤ a ∧ a < 4096 * k.val + 256 * g.val + o + data.length then
            s.store.byte a &&& data.getD (a - (4096 * k.val + 256 * g.val + o)) 0xFF
          else s.store.byte a)
        ∧ t.store.unsettled = s.store.unsettled.set k was)
      ∧ t.store = { s.store with
          cells := t.store.cells, fill := t.store.fill, unsettled := t.store.unsettled, operation := none }
      ∧ t = (((List.finRange 4).filter (fun c => decide ((s.channel c).state = .fetch))).foldl State.readSector
        (({ s with store := t.store } : State).raise .storeDone (match op with
            | .eraseSector k => u8 1 ++ u8 k.val ++ u8 0 ++ u8 0 ++ u16 0
            | .eraseAll => u8 2 ++ u8 255 ++ u8 0 ++ u8 0 ++ u16 0
            | .programPage k g o data was => u8 3 ++ u8 k.val ++ u8 g.val ++ flag was ++ u16
              ((List.range data.length).filter (fun i =>
                decide (t.store.byte (4096 * k.val + 256 * g.val + o + i) ≠ data.getD i 0xFF))).length))).runArbiter

/-- R167, R170, R171, R159, R200: Set Protect with the lock set and the KEY input INACTIVE is refused but for the stored values; Site
Program ANDs the 39 bytes given into the Site Record and replies with each field as stored and its Mismatch indication; Site Lock sets
the lock, and a locked record is refused LOCKED. A value out of range is refused BAD_ARG before the latch is looked at, a clear latch
NOT_ENABLED, and each takes the latch; a payload that is not of the layout is answered BAD_ARG and leaves it. The order of Site Program's
reply is the model's (assumption 31). -/
def Obligations.ProtectionAndSiteRecord : Prop :=
  ∀ (tag : Byte) (s : State), s.store.operation = none →
    let taken : State := { s with store := { s.store with writeEnable := false } }
    (∀ (span : Fin 8) (lock : Bool), s.takesCommand (some .setProtect) = true → s.store.writeEnable = true →
      ((s.store.protectLock = false ∨ s.control.keyActive = true ∨ (span = s.store.protectSpan ∧ lock = true)) →
        exec (.setProtect tag (u8 span.val ++ flag lock)) s = .next (({ s with store := { s.store with
          writeEnable := false, protectSpan := span, protectLock := lock } } : State).replied .setProtect tag .ok
            (u8 span.val ++ flag lock)))
      ∧ (s.store.protectLock = true → s.control.keyActive = false → (span ≠ s.store.protectSpan ∨ lock = false) →
        exec (.setProtect tag (u8 span.val ++ flag lock)) s = .next (taken.replied .setProtect tag .spanProtected [])))
    ∧ (∀ b : Bytes, s.takesCommand (some .siteProgram) = true → b.length = 39 → s.store.writeEnable = true →
      ((b.getD 2 0).toNat ≤ 3 ∨ b.getD 2 0 = 0xFF) →
      (∀ c ∈ b.drop 3, (0x20 ≤ c.toNat ∧ c.toNat ≤ 0x7E) ∨ c = 0xFF) →
      (s.store.siteLock = false → Reaches (exec (.siteProgram tag b) s) fun t =>
        (∀ a, Sparse.get erasedByte t.store.siteRecord a =
          Sparse.get erasedByte s.store.siteRecord a &&& b.getD a 0xFF)
        ∧ (let stored := (List.range 39).map (fun i => Sparse.get erasedByte s.store.siteRecord i &&& b.getD i 0xFF)
          let field := fun a n : Nat =>
            (stored.drop a).take n ++ flag (decide ((stored.drop a).take n ≠ (b.drop a).take n))
          t = ({ s with store := { s.store with writeEnable := false, siteRecord := t.store.siteRecord } } : State).replied
            .siteProgram tag .ok (field 0 2 ++ field 2 1 ++ field 3 4 ++ field 7 32)))
      ∧ (s.store.siteLock = true → exec (.siteProgram tag b) s = .next (taken.replied .siteProgram tag .locked [])))
    ∧ (s.takesCommand (some .siteLock) = true → s.store.writeEnable = true →
      (s.store.siteLock = false → s.store.exponent ≤ 3 → exec (.siteLock tag []) s = .next (({ s with store := { s.store with
        writeEnable := false, siteLock := true } } : State).replied .siteLock tag .ok []))
      ∧ (s.store.siteLock = false → 3 < s.store.exponent →
        exec (.siteLock tag []) s = .next (taken.replied .siteLock tag .badState []))
      ∧ (s.store.siteLock = true → exec (.siteLock tag []) s = .next (taken.replied .siteLock tag .locked [])))
    ∧ (s.takesCommand (some .setProtect) = true →
      (∀ args : Bytes, args.length ≠ 2 → exec (.setProtect tag args) s = .next (s.replied .setProtect tag .badArg []))
      ∧ (∀ span lock : Byte, (8 ≤ span.toNat ∨ 2 ≤ lock.toNat) →
        exec (.setProtect tag [span, lock]) s = .next (taken.replied .setProtect tag .badArg []))
      ∧ ∀ (span : Fin 8) (lock : Bool), s.store.writeEnable = false →
        exec (.setProtect tag (u8 span.val ++ flag lock)) s = .next (taken.replied .setProtect tag .notEnabled []))
    ∧ (s.takesCommand (some .siteProgram) = true → ∀ b : Bytes,
      (b.length ≠ 39 → exec (.siteProgram tag b) s = .next (s.replied .siteProgram tag .badArg []))
      ∧ (b.length = 39 →
        let good := ((b.getD 2 0).toNat ≤ 3 ∨ b.getD 2 0 = 0xFF)
          ∧ ∀ c ∈ b.drop 3, (0x20 ≤ c.toNat ∧ c.toNat ≤ 0x7E) ∨ c = 0xFF
        (¬good → exec (.siteProgram tag b) s = .next (taken.replied .siteProgram tag .badArg []))
        ∧ (good → s.store.writeEnable = false →
          exec (.siteProgram tag b) s = .next (taken.replied .siteProgram tag .notEnabled []))))
    ∧ (s.takesCommand (some .siteLock) = true →
      (∀ args : Bytes, args ≠ [] → exec (.siteLock tag args) s = .next (s.replied .siteLock tag .badArg []))
      ∧ (s.store.writeEnable = false → exec (.siteLock tag []) s = .next (taken.replied .siteLock tag .notEnabled [])))

/-! ## Foyer links -/

/-- R174, R176, R179, R62, R41, R145: a failing run adds 8 to the Error Count, up to 255, and sets the Last Error Code; the count that
reaches 96 raises PORT_WARN, and one of 128 or more raises PORT_QUARANTINED and quarantines the port: its basket is voided unless
AUTHORISING, its lines' seats and every seat HELD by the port return, its claims are given back, nothing is left to send but a kept
place, its RUNNING job is stopped with the unfinished documents owed PORT_LOST, and channels take jobs (R134); every other seat and
voucher stays. A port that takes no frames discards the run. The mark of waiting for line idle, set while the port is not ACTIVE, is the
model's (assumption 33). -/
def Obligations.FramingErrorsCountToQuarantine : Prop :=
  (∀ (p : PortNo) (run : Bytes) (e : FramingError) (s : State), checkRun run = .inl e →
    (s.takesFrames p = false → exec (.kioskRunFailed p run) s = .next s)
    ∧ (s.takesFrames p = true →
      let n := (s.port p).errorCount
      let m := min 255 (n + 8)
      let counted : State := { s with ports := s.ports.set p { s.port p with errorCount := m, lastError := e } }
      let warned := if n < 96 ∧ 96 ≤ m then counted.raise .portWarn (u8 p.val ++ u8 m ++ u8 e.code) else counted
      (m < 128 → exec (.kioskRunFailed p run) s = .next warned)
      ∧ (128 ≤ m → Reaches (exec (.kioskRunFailed p run) s) fun t =>
        s.givesUp t (fun a => (s.lineAddresses (s.voidable p)).contains a
          || (s.inAShow a && (s.poolSeat a).state.heldBy p))
        ∧ s.claimsReturned t (s.voidable p).claims
        ∧ t.basket p = (if (s.basket p).state = .authorising then s.basket p
            else { Basket.reset with handle := (s.basket p).handle })
        ∧ (∀ q, q ≠ p → t.basket q = s.basket q)
        ∧ t.port p = { s.port p with
          state := .quarantined, errorCount := m, lastError := e, awaitingIdle := true, replies := [], downPass := []
          sending := none, printOffer := (t.port p).printOffer }
        ∧ (∀ q, q ≠ p → t.port q = { s.port q with printOffer := (t.port q).printOffer })
        ∧ t = ((({ counted.raise .portQuarantined (u8 p.val ++ u8 m ++ u8 e.code) with
            seats := { s.seats with shows := t.seats.shows, pool := t.seats.pool }, baskets := t.baskets
            vouchers := { s.vouchers with slots := t.vouchers.slots }
            ports := s.ports.set p { s.port p with
              state := .quarantined, errorCount := m, lastError := e, awaitingIdle := true, replies := [], downPass := []
              sending := none, printOffer := none } } : State).stopJob p).runArbiter)
        ∧ s.controlKept t ∧ s.printKept t ∧ s.uplinkKept t)))
  ∧ ∀ (p : PortNo) (s : State),
    (s.channelFor p = none → s.stopJob p = s)
    ∧ ∀ (c : ChannelNo) (j : Job) (isReprint : Bool) (sale : Nat) (origin dest : PortNo) (docs : List Document),
      s.channelFor p = some c → s.jobOn c = some j → j.work = .print isReprint sale origin dest docs →
      let room := decide (s.print.owed.length < 64)
      s.stopJob p = ({ s with print := { s.print with
        jobs := s.print.jobs.filter (fun k => decide (k.number ≠ j.number))
        channels := s.print.channels.set c Channel.idle
        owed := s.print.owed ++ if room then
          [{ sale := sale, origin := origin, reason := .portLost, docs := docs.drop j.next }] else [] } } : State).raise .owedAdded
          (u32 sale ++ u8 origin.val ++ u8 4 ++ u8 (docs.drop j.next).length ++ flag (!room))

/-- R174, R178, R179, R180: Enable Port and Restore Port make a port ACTIVE, its receiver waiting for line idle and nothing to
send but a kept place; Disable Port takes it out of ACTIVE or QUARANTINED, voiding the basket of a port that is not QUARANTINED
unless it is AUTHORISING, and from ACTIVE lets go of every seat HELD by the port, empties its transmit side and stops its job (R145;
FramingErrorsCountToQuarantine); Configure Port writes the Port Table entry of a DISABLED port; Clear Error Code clears the Last
Error Code; line idle lets the receiver take runs. The layout of Configure Port's reply (assumption 20)
and the mark of waiting for line idle (assumption 33) are the model's. -/
def Obligations.PortCommands : Prop :=
  ∀ (p : PortNo) (tag : Byte) (s : State),
    let x := s.port p
    let activated := fun count : Nat => (({ s with ports := s.ports.set p { x with
      state := .active, errorCount := count, awaitingIdle := true, replies := [], downPass := [], printOffer := none
      sending := none } } : State).runArbiter)
    (s.takesCommand (some .enablePort) = true →
      (x.state = .disabled → exec (.enablePort tag (u8 p.val)) s =
        .next ((activated 0).replied .enablePort tag .ok (u8 1 ++ u8 0)))
      ∧ (x.state ≠ .disabled → exec (.enablePort tag (u8 p.val)) s = .next (s.replied .enablePort tag .badState [])))
    ∧ (s.takesCommand (some .restorePort) = true → ∀ keep : Bool,
      (x.state = .quarantined → exec (.restorePort tag (u8 p.val ++ flag keep)) s =
        .next ((activated (if keep then x.errorCount else 0)).replied .restorePort tag .ok
          (u8 1 ++ u8 (if keep then x.errorCount else 0))))
      ∧ (x.state ≠ .quarantined → exec (.restorePort tag (u8 p.val ++ flag keep)) s =
        .next (s.replied .restorePort tag .badState [])))
    ∧ (s.takesCommand (some .disablePort) = true →
      (x.state = .quarantined → exec (.disablePort tag (u8 p.val)) s =
        .next (({ s with ports := s.ports.set p { x with state := .disabled } } : State).replied .disablePort tag .ok
          (u8 0 ++ u8 x.errorCount)))
      ∧ (x.state ≠ .quarantined → Reaches (exec (.disablePort tag (u8 p.val)) s) fun t =>
        s.givesUp t (fun a => (s.lineAddresses (s.voidable p)).contains a
          || (decide (x.state = .active) && s.inAShow a && (s.poolSeat a).state.heldBy p))
        ∧ s.claimsReturned t (s.voidable p).claims
        ∧ t.basket p = (if (s.basket p).state = .authorising then s.basket p
            else { Basket.reset with handle := (s.basket p).handle })
        ∧ (∀ q, q ≠ p → t.basket q = s.basket q)
        ∧ (let voided : State := { s with
              seats := { s.seats with shows := t.seats.shows, pool := t.seats.pool }, baskets := t.baskets
              vouchers := { s.vouchers with slots := t.vouchers.slots } }
          (x.state = .disabled → t = voided.replied .disablePort tag .ok (u8 0 ++ u8 x.errorCount))
          ∧ (x.state = .active → t = (((({ voided with ports := s.ports.set p { x with
              state := .disabled, awaitingIdle := true, replies := [], downPass := [], sending := none
              printOffer := none } } : State).stopJob p).runArbiter).replied .disablePort tag .ok
                (u8 0 ++ u8 x.errorCount))))))
    ∧ (s.takesCommand (some .configurePort) = true → ∀ (r : Role) (level : Fin 4) (pass : Bool),
      (x.state = .disabled → exec (.configurePort tag (u8 p.val ++ u8 r.code ++ u8 level.val ++ flag pass)) s =
        .next (({ s with ports := s.ports.set p { x with role := r, printLevel := level, passAllowed := pass } } :
          State).replied .configurePort tag .ok (u8 r.code ++ u8 level.val ++ flag pass)))
      ∧ (x.state ≠ .disabled → exec (.configurePort tag (u8 p.val ++ u8 r.code ++ u8 level.val ++ flag pass)) s =
        .next (s.replied .configurePort tag .badState [])))
    ∧ (s.takesCommand (some .clearErrorCode) = true → exec (.clearErrorCode tag (u8 p.val)) s =
      .next (({ s with ports := s.ports.set p { x with lastError := .none } } : State).replied .clearErrorCode tag .ok
        (u8 x.lastError.code)))
    ∧ (s.control.running = true → s.control.foyer ≠ .night → x.state = .active →
      exec (.lineIdle p) s = .next { s with ports := s.ports.set p { x with awaitingIdle := false } })

/-- R182, R139: a free kiosk link starts the oldest reply, else the print frame offered, else the oldest pass-through frame; a frame
sent leaves its source, and after the print frame marked Last the channel enters AWAIT. A print frame sent that no channel waits for
leaves, and a channel in SEND for that port then offers its next frame (R141, R142; assumption 24). That the next frame index stays after
the frame marked Last is the model's choice (assumption 42), and so is it in PAUSED (assumption 46). -/
def Obligations.KioskArbiterOrder : Prop :=
  ∀ (p : PortNo) (s : State),
    let x := s.port p
    let put := fun y : Port => ({ s with ports := s.ports.set p y } : State)
    (s.control.running = true → x.state = .active → x.sending = none →
      (∀ f rest, x.replies = f :: rest → exec (.kioskFrameStart p) s =
        .next (put { x with sending := some { source := .reply, frame := f } }))
      ∧ (∀ o, x.replies = [] → x.printOffer = some o → exec (.kioskFrameStart p) s =
        .next (put { x with sending := some { source := .print, frame := o.frame } }))
      ∧ (∀ f rest, x.replies = [] → x.printOffer = none → x.downPass = f :: rest →
        let frame : KioskFrame := { cls := 0x30, tag := f.tag, payload := f.payload }
        exec (.kioskFrameStart p) s = .next (put { x with sending := some { source := .pass, frame := frame } })))
    ∧ (x.sending ≠ none → exec (.kioskFrameStart p) s = .next s)
    ∧ ∀ f, x.sending = some f →
      (f.source = .reply → exec (.kioskFrameEnd p) s = .next (put { x with sending := none, replies := x.replies.drop 1 }))
      ∧ (f.source = .pass → exec (.kioskFrameEnd p) s = .next (put { x with sending := none, downPass := x.downPass.drop 1 }))
      ∧ (f.source = .detached → exec (.kioskFrameEnd p) s = .next (put { x with sending := none }))
      ∧ ∀ (o : PrintOffer) (c : ChannelNo), f.source = .print → x.printOffer = some o → o.current = true →
        s.channelFor p = some c →
        let sent := fun y : Channel => ({ put { x with sending := none, printOffer := none } with
          print := { s.print with channels := s.print.channels.set c y } } : State)
        (o.last = true → exec (.kioskFrameEnd p) s = .next (sent { s.channel c with state := .await s.print.printerWait }))
        ∧ (o.last = false → exec (.kioskFrameEnd p) s =
          .next ((sent { s.channel c with nextFrame := (s.channel c).nextFrame + 1 }).offer c))
      ∧ ∀ o : PrintOffer, f.source = .print → x.printOffer = some o →
        let cleared := put { x with sending := none, printOffer := none }
        (s.channelFor p = none → exec (.kioskFrameEnd p) s = .next cleared)
        ∧ ∀ c : ChannelNo, s.channelFor p = some c → o.current = false →
          ((s.channel c).state ≠ .send → exec (.kioskFrameEnd p) s = .next cleared)
          ∧ ∀ (j : Job) (d : Document) (r : Rendered), (s.channel c).state = .send → s.jobOn c = some j → j.current = some d →
            (s.channel c).buffer = some r → exec (.kioskFrameEnd p) s = .next (put { x with
              sending := none, printOffer := some (printFrame j.number d.index r (s.channel c).nextFrame) })

/-- R183, R184, R185, R200: a PASS frame joins its buffer on the conditions given and is dropped else, up and down alike; a
discarded frame changes nothing; a Command Code that names no command is answered BAD_ARG. -/
def Obligations.PassThroughAndStrays : Prop :=
  (∀ (p : PortNo) (tag : Byte) (payload : Bytes) (s : State), s.takesFrames p = true →
    let heard : State := { s with ports := s.ports.set p { s.port p with errorCount := (s.port p).errorCount - 1 } }
    let up := s.uplink.upwardPass.filter (fun f => decide (f.port = p))
    ((s.port p).passAllowed = true → s.uplink.linkUp = true → up.length < 4 → exec (.kioskPass p tag payload) s =
      .next { heard with uplink := { s.uplink with
        upwardPass := s.uplink.upwardPass ++ [{ port := p, tag := tag, payload := payload }] } })
    ∧ (((s.port p).passAllowed = false ∨ s.uplink.linkUp = false ∨ 4 ≤ up.length) →
      exec (.kioskPass p tag payload) s = .next heard))
  ∧ (∀ (b : Byte) (tag : Byte) (payload : Bytes) (s : State),
    (16 ≤ b.toNat → exec (.uplinkPass b tag payload) s = .next s)
    ∧ (240 < payload.length → exec (.uplinkPass b tag payload) s = .next s)
    ∧ (s.control.foyer = .night → exec (.uplinkPass b tag payload) s = .next s)
    ∧ ∀ p : PortNo, b.toNat = p.val → s.control.running = true → s.control.foyer ≠ .night → payload.length ≤ 240 →
      ((s.port p).state = .active → (s.port p).passAllowed = true → (s.port p).downPass.length < 4 →
        exec (.uplinkPass b tag payload) s = .next { s with ports := s.ports.set p { s.port p with
          downPass := (s.port p).downPass ++ [{ tag := tag, payload := payload }] } })
      ∧ (((s.port p).state ≠ .active ∨ (s.port p).passAllowed = false ∨ 4 ≤ (s.port p).downPass.length) →
        exec (.uplinkPass b tag payload) s = .next s))
  ∧ (∀ (ty : BitVec 16) (ok : Bool) (data : Bytes) (s : State),
    ((ty ≠ 0x89C2 ∨ ok = false ∨ data.length < 5) → exec (.uplinkEnvelopeDiscarded ty ok data) s = .next s)
    ∧ ∀ (port cls tag l1 l2 : Byte) (rest : Bytes), data = port :: cls :: tag :: l1 :: l2 :: rest →
      (rest.length < l1.toNat * 256 + l2.toNat ∨ (cls ≠ 0x70 ∧ cls ≠ 0x72 ∧ cls ≠ 0x30)
        ∨ ((cls = 0x70 ∨ cls = 0x72) ∧ port ≠ 255) ∨ (cls = 0x30 ∧ 16 ≤ port.toNat)) →
      exec (.uplinkEnvelopeDiscarded ty ok data) s = .next s)
  ∧ ∀ (tag code : Byte) (args : Bytes) (s : State), Command.ofCode code = none →
    (s.takesCommand none = true → exec (.unknownCommand tag (code :: args)) s = .next { s with uplink := { s.uplink with
      replies := s.uplink.replies ++ [{ tag := tag, payload := code :: 0x02 :: [] }] } })
    ∧ (s.takesCommand none = false → exec (.unknownCommand tag (code :: args)) s = .next s)

/-- R186, R187, R201, R202, R203: with the link UP and nothing being sent, the oldest AUTH_REQUEST of an ACTIVE entry starts, else the
oldest management reply, else the oldest notice with the Notices Lost mark, else the earliest pass-through frame, each in a frame
addressed to all stations with the part's Ethernet type; a frame sent leaves its source; the link going DOWN loses the frame being
sent, which its source keeps, and empties the upward buffers. A notice raised while its kind or the global enable is off is not
queued; one raised else joins the Notice Queue with the clock's time, and at 32 the oldest is discarded and Notices Lost is set. That a
head being sent stays and the one behind it is discarded (R203) is the model's reading (assumption 26), and the bits of the address are
its own (assumption 44). -/
def Obligations.UplinkArbiterOrder : Prop :=
  ∀ s : State,
    let u := s.uplink
    let sent := fun e : Envelope =>
      ({ destination := BitVec.allOnes 48, etherType := 0x89C2, envelope := e } : EthernetFrame)
    let starts := fun (src : UplinkSource) (e : Envelope) =>
      exec .uplinkFrameStart s = .next { s with uplink := { u with sending := some { source := src, frame := sent e } } }
    let served := fun r : AuthRequest => s.relay.entries.any (fun e => decide (e.tag = r.tag) && decide (e.state ≠ .lost))
    (s.control.running = true → u.linkUp = true → u.sending = none →
      (∀ older r younger, u.authRequests = older ++ r :: younger → served r = true → (∀ q ∈ older, served q = false) →
        starts (.authRequest r.tag) { port := 255, cls := 0x71, tag := 0, payload := r.payload })
      ∧ ((∀ q ∈ u.authRequests, served q = false) →
        (∀ r rest, u.replies = r :: rest → starts .reply { port := 255, cls := 0x70, tag := r.tag, payload := r.payload })
        ∧ (u.replies = [] →
          (∀ n rest, s.control.notices = n :: rest →
            let m : Notice := { n with carriesLost := n.carriesLost || s.control.noticesLost }
            let payload :=
              u8 n.code ++ flag (n.carriesLost || s.control.noticesLost) ++ u16 n.day ++ u24 n.seconds ++ n.content
            let e : Envelope := { port := 255, cls := 0x73, tag := 0, payload := payload }
            exec .uplinkFrameStart s = .next { s with
              control := { s.control with notices := m :: rest, noticesLost := false }
              uplink := { u with sending := some { source := .notice, frame := sent e } } })
          ∧ ∀ f rest, s.control.notices = [] → u.upwardPass = f :: rest →
            starts .pass { port := BitVec.ofNat 8 f.port.val, cls := 0x30, tag := f.tag, payload := f.payload })))
    ∧ ((u.linkUp = false ∨ u.sending ≠ none) → exec .uplinkFrameStart s = .next s)
    ∧ (s.control.restartPending = false → ∀ x, u.sending = some x →
      (∀ t, x.source = .authRequest t → exec .uplinkFrameEnd s = .next { s with uplink := { u with
        sending := none, authRequests := u.authRequests.filter (fun r => decide (r.tag ≠ t)) } })
      ∧ (x.source = .reply → exec .uplinkFrameEnd s = .next { s with uplink := { u with
        sending := none, replies := u.replies.drop 1 } })
      ∧ (x.source = .notice → exec .uplinkFrameEnd s = .next { s with
        uplink := { u with sending := none }, control := { s.control with notices := s.control.notices.drop 1 } })
      ∧ (x.source = .pass → exec .uplinkFrameEnd s = .next { s with uplink := { u with
        sending := none, upwardPass := u.upwardPass.drop 1 } }))
    ∧ (s.control.restartPending = false → exec .uplinkLinkDown s = .next { s with uplink := { u with
        linkUp := false, sending := none, upwardPass := [] } })
    ∧ (s.control.running = true → exec .uplinkLinkUp s = .next { s with uplink := { u with linkUp := true } })
    ∧ ∀ (k : NoticeKind) (content : Bytes),
      let n : Notice :=
        { code := k.code, carriesLost := false, day := s.control.day, seconds := s.control.seconds, content := content }
      ((s.control.enables.all = false ∨ s.control.enables.kind k = false) → s.raise k content = s)
      ∧ (s.control.enables.all = true → s.control.enables.kind k = true →
        (s.control.notices.length < 32 → s.raise k content = { s with control := { s.control with
          notices := s.control.notices ++ [n] } })
        ∧ (32 ≤ s.control.notices.length →
          ((∀ x, u.sending = some x → x.source ≠ .notice) → s.raise k content = { s with control := { s.control with
            notices := s.control.notices.drop 1 ++ [n], noticesLost := true } })
          ∧ ∀ x, u.sending = some x → x.source = .notice → s.raise k content = { s with control := { s.control with
            notices := s.control.notices.take 1 ++ s.control.notices.drop 2 ++ [n], noticesLost := true } }))

/-! ## Foyer control -/

/-- R191 to R193, R174: Open Foyer opens a foyer that is UNCONFIGURED or CLOSED when its four conditions hold, and else names those
that fail; Close Foyer closes an OPEN one; Wake leaves NIGHT for CLOSED, the tick running and every receiver waiting for line
idle. From the wrong state each is refused BAD_STATE. The empty content of Open Foyer's refusal from OPEN (assumption 35) and the
count before its list of conditions (assumption 16) are the model's. -/
def Obligations.FoyerOpensClosesAndWakes : Prop :=
  ∀ (tag : Byte) (s : State),
    let into := fun f : FoyerState => ({ s with control := { s.control with foyer := f } } : State)
    (s.takesCommand (some .openFoyer) = true →
      ((s.control.foyer = .unconfigured ∨ s.control.foyer = .closed) →
        (s.store.siteLock = true → s.relay.saleLoaded = true → s.vouchers.serialLoaded = true → s.prices.committed = true →
          s.control.clockSet = true → exec (.openFoyer tag []) s = .next ((into .opened).replied .openFoyer tag .ok (u8 2)))
        ∧ (let failing := (if s.store.siteLock then [] else [1])
              ++ (if s.relay.saleLoaded && s.vouchers.serialLoaded then [] else [2])
              ++ (if s.prices.committed then [] else [3]) ++ if s.control.clockSet then [] else [4]
          failing ≠ [] → exec (.openFoyer tag []) s =
            .next (s.replied .openFoyer tag .badState (u8 failing.length ++ failing.flatMap u8))))
      ∧ (s.control.foyer = .opened → exec (.openFoyer tag []) s = .next (s.replied .openFoyer tag .badState [])))
    ∧ (s.takesCommand (some .closeFoyer) = true →
      (s.control.foyer = .opened → exec (.closeFoyer tag []) s = .next ((into .closed).replied .closeFoyer tag .ok (u8 1)))
      ∧ (s.control.foyer ≠ .opened → exec (.closeFoyer tag []) s = .next (s.replied .closeFoyer tag .badState [])))
    ∧ (s.takesCommand (some .wake) = true →
      (s.control.foyer = .night → exec (.wake tag []) s = .next (({ s with
        ports := s.ports.map (fun x => if x.state = .active then { x with awaitingIdle := true } else x)
        control := { s.control with foyer := .closed, tickRunning := true } } : State).replied .wake tag .ok (u8 1)))
      ∧ (s.control.foyer ≠ .night → exec (.wake tag []) s = .next (s.replied .wake tag .badState [])))

/-- R194, R63: Night outside a CLOSED foyer is refused BAD_STATE, and while an entry is ACTIVE or a job is queued BUSY; else in one
step every basket is voided, its lines' seats and every seat still HELD return and its claims are given back, the pass buffers are
emptied and the tick stops. Every other seat and voucher stays. A pass-through frame being sent is finished without its source: the
model's choice (assumption 27). -/
def Obligations.NightLetsGoOfHeldSeats : Prop :=
  ∀ (tag : Byte) (s : State), s.takesCommand (some .night) = true →
    (s.control.foyer ≠ .closed → exec (.night tag []) s = .next (s.replied .night tag .badState []))
    ∧ (s.control.foyer = .closed →
      ((s.print.jobs ≠ [] ∨ ∃ e ∈ s.relay.entries, e.state ≠ .lost) →
        exec (.night tag []) s = .next (s.replied .night tag .busy []))
      ∧ (s.print.jobs = [] → (∀ e ∈ s.relay.entries, e.state = .lost) → Reaches (exec (.night tag []) s) fun t =>
        (∀ p, t.basket p = { Basket.reset with handle := (s.basket p).handle })
        ∧ s.givesUp t (fun a => allPorts.any (fun p => (s.lineAddresses (s.basket p)).contains a)
            || (s.inAShow a && (s.poolSeat a).state.isHeld))
        ∧ s.claimsReturned t (allPorts.flatMap (fun p => (s.basket p).claims))
        ∧ t = ({ s with
              seats := { s.seats with shows := t.seats.shows, pool := t.seats.pool }, baskets := t.baskets
              vouchers := { s.vouchers with slots := t.vouchers.slots }
              ports := s.ports.map (fun x => { x with
                downPass := []
                sending := x.sending.map (fun y => if y.source = .pass then { y with source := .detached } else y) })
              uplink := { s.uplink with
                upwardPass := []
                sending := s.uplink.sending.map (fun y => if y.source = .pass then { y with source := .detached } else y) }
              control := { s.control with foyer := .night, tickRunning := false } } : State).replied .night tag .ok (u8 3)))

/-- R32, R96, R101, R143, R190, R195, R197, R200, R202: the time settings are clamped to their ranges, take effect and are echoed;
Set Clock, Load Counters, Set Notice Enables and Clear Gateway Hold write what they name and reply with what the rules give; the
KEY input takes its level. Nothing else changes. The order of the kinds among the enables
(assumption 49) and the widths of the arguments (assumption 15) are the model's. -/
def Obligations.SettingsAndCountersAreWritten : Prop :=
  ∀ (tag : Byte) (s : State),
    (∀ x y : Nat, x < 65536 → y < 65536 →
      (s.takesCommand (some .setLeaseTimes) = true → exec (.setLeaseTimes tag (u16 x ++ u16 y)) s =
        .next (({ s with seats := { s.seats with leaseTime := max 30 (min 900 x), declineGrace := max 15 (min 300 y) } } :
          State).replied .setLeaseTimes tag .ok (u16 (max 30 (min 900 x)) ++ u16 (max 15 (min 300 y)))))
      ∧ (s.takesCommand (some .setAuthTimeout) = true → exec (.setAuthTimeout tag (u16 x)) s =
        .next (({ s with relay := { s.relay with authTimeout := max 10 (min 120 x) } } : State).replied .setAuthTimeout tag .ok
          (u16 (max 10 (min 120 x)))))
      ∧ (s.takesCommand (some .setPrintWaits) = true → exec (.setPrintWaits tag (u16 x ++ u16 y)) s =
        .next (({ s with print := { s.print with printerWait := max 5 (min 60 x), paperWait := max 30 (min 600 y) } } :
          State).replied .setPrintWaits tag .ok (u16 (max 5 (min 60 x)) ++ u16 (max 30 (min 600 y))))))
    ∧ (∀ day t : Nat, s.takesCommand (some .setClock) = true → day < 65536 →
      (t ≤ 86399 → exec (.setClock tag (u16 day ++ u24 t)) s = .next (({ s with control := { s.control with
        day := day, seconds := t, clockSet := true } } : State).replied .setClock tag .ok
          (u16 day ++ u24 t ++ u16 s.control.day)))
      ∧ (86399 < t → t < 16777216 →
          exec (.setClock tag (u16 day ++ u24 t)) s = .next (s.replied .setClock tag .badArg [])))
    ∧ (∀ n v : Nat, s.takesCommand (some .loadCounters) = true → n < 4294967296 → v < 16777216 →
      (s.control.foyer ≠ .opened → exec (.loadCounters tag (u32 n ++ u24 v)) s = .next (({ s with
        relay := { s.relay with saleCounter := n, saleLoaded := true }
        vouchers := { s.vouchers with serialCounter := v, serialLoaded := true } } : State).replied .loadCounters tag .ok
          (u32 n ++ u24 v)))
      ∧ (s.control.foyer = .opened →
          exec (.loadCounters tag (u32 n ++ u24 v)) s = .next (s.replied .loadCounters tag .badState [])))
    ∧ (∀ e : NoticeEnables, s.takesCommand (some .setNoticeEnables) = true →
      exec (.setNoticeEnables tag e.bytes) s = .next (({ s with control := { s.control with enables := e } } : State).replied
        .setNoticeEnables tag .ok (s.control.enables.bytes ++ e.bytes)))
    ∧ (s.takesCommand (some .clearGatewayHold) = true → exec (.clearGatewayHold tag []) s =
      .next (({ s with relay := { s.relay with gatewayHold := false } } : State).replied .clearGatewayHold tag .ok
        (flag s.relay.gatewayHold)))
    ∧ ∀ active : Bool, exec (.keyInputChange active) s = .next { s with control := { s.control with keyActive := active } }

/-- R195, R34, R35, R21, R97, R143: a tick adds a second to the clock and takes one off every lease, authorisation and printer wait,
and what reaches 0 expires in it; while the tick is stopped nothing counts. A seat whose lease was 1 or less returns and leaves its
basket, which lapses if it was PRICED. An entry whose Timeout Remaining was 1 or less becomes LOST, its AUTH_REQUEST is withdrawn, the
origin port's basket is EMPTY, the kept PAY is answered UNKNOWN where the port is ACTIVE, and AUTH_LOST is raised, in list order. A
channel whose wait was 1 or less fails its job (FailedJobsOweTheirDocuments), in channel order, and then channels take jobs
(ChannelsTakeTheHighestJob). That TICK takes the expiries itself is assumption 4, the order of its parts assumption 5, the
arbiter's one run after all the failures assumption 23, and a port without a kept PAY assumption 30. -/
def Obligations.TickAdvancesClockAndTimers : Prop :=
  (∀ s : State, (s.control.running = false ∨ s.control.tickRunning = false) → exec .tick s = .next s)
  ∧ ∀ s : State, s.control.running = true → s.control.tickRunning = true → s.disjointShows →
    (s.relay.entries.map (·.tag)).Nodup →
    let lost := s.relay.entries.filter (fun e => match e.state with
      | .active n => decide (n ≤ 1)
      | .lost => false)
    let lapses := fun (p : PortNo) (i : ShowNo) (k : Nat) =>
      decide ((s.showAt i).state ≠ .empty) && decide (k < (s.showAt i).seatCount) && (match (s.seatAt i k).state with
        | .held o l _ => decide (o = p) && decide (l ≤ 1)
        | _ => false)
    let fails := fun (u : State) (c : ChannelNo) => match (u.channel c).state with
      | .await 0 => u.failJob c .printerWait
      | .paused 0 => u.failJob c .paperWait
      | _ => u
    Reaches (exec .tick s) fun t =>
      (∀ a, t.poolSeat a = { s.poolSeat a with state := match (s.poolSeat a).state with
          | .held o l ho => if l ≤ 1 ∧ s.inAShow a = true then (if ho then .house else .free) else .held o (l - 1) ho
          | st => st })
      ∧ (∀ i, t.showAt i = { s.showAt i with counts := (t.showAt i).counts })
      ∧ (∀ p, t.basket p =
          if lost.any (fun e => decide (e.origin = p)) then { Basket.reset with handle := (s.basket p).handle }
          else if allShows.any (fun i => (List.range (s.showAt i).seatCount).any (lapses p i)) then
            (s.basket p).lostSeats (fun k => allShows.any (fun i => lapses p i k))
          else s.basket p)
      ∧ t.relay = { s.relay with entries := s.relay.entries.map (fun (e : AuthEntry) => { e with
          state := match e.state with
            | .active n => if n ≤ 1 then .lost else .active (n - 1)
            | .lost => .lost }) }
      ∧ (∀ c n, (s.channel c).state = .await n → 2 ≤ n → (t.channel c).state = .await (n - 1))
      ∧ (∀ c n, (s.channel c).state = .paused n → 2 ≤ n → (t.channel c).state = .paused (n - 1))
      ∧ t.vouchers = s.vouchers ∧ t.prices = s.prices ∧ t.store = s.store
      ∧ (let counted : State := { s with
            seats := { s.seats with shows := t.seats.shows, pool := t.seats.pool }, baskets := t.baskets, relay := t.relay
            ports := Vector.ofFn (fun p : PortNo => match lost.find? (fun e => decide (e.origin = p)) with
              | some e => (s.port p).resulted (decide ((s.port p).state = .active)) .unknown (u16 e.tag)
              | none => s.port p)
            uplink := lost.foldl (fun u e => u.without e.tag) s.uplink
            print := { s.print with channels := s.print.channels.map (fun (x : Channel) => { x with state := match x.state with
              | .await n => .await (n - 1)
              | .paused n => .paused (n - 1)
              | st => st }) }
            control := { s.control with
              seconds := if s.control.seconds < 86399 then s.control.seconds + 1 else 0 } }
        t = (((List.finRange 4).foldl fails (lost.foldl (fun u e =>
          u.raise .authLost (u16 e.tag ++ u8 e.origin.val ++ u24 e.net)) counted)).runArbiter))

/-! ## Invariants -/

/-- The invariants hold right after reset. -/
def Obligations.ResetMeetsTheInvariants : Prop :=
  State.reset.Bounded ∧ State.reset.RelaySound ∧ State.reset.SeatsAgree ∧ State.reset.InRange ∧ State.reset.Canonical
    ∧ State.reset.worksUnprotected

/-- R42, R53, R91, R130, R132, R146, R181, R183, R184, R200, R201: no step takes a collection that State.Bounded names beyond its
capacity: reply queues, pass buffers, undo stacks, a basket's lines and credit claims, the Authorisation List, the Print Queue, the
Owed Ticket List, the documents of each, the Notice Queue and the management replies. That the claims fit is carried through UNDO by a
condition on the stack, claimsFit. -/
def Obligations.CollectionsStayBounded : Prop :=
  ∀ s t : State, s.Bounded → step s = .next t → t.Bounded

/-- R91, R92, R114, R117: every step keeps the reservation count equal to what the entries reserve, with FREE slots for all of it,
the tags apart, and the Serial Index the exact map of the slots in use. -/
def Obligations.RelayAndVouchersStaySound : Prop :=
  ∀ s t : State, s.Canonical → s.RelaySound → step s = .next t → t.RelaySound

/-- R6, R9, R13, R14, R43, R80, R92, R93: every step keeps the shows, the baskets and the Authorisation List in agreement about
every seat: live counts true, shows apart, basket lines HELD, entry lines PENDING, no HELD or PENDING seat without its line, and each
basket's State as its contents give. -/
def Obligations.SeatsBasketsAndEntriesAgree : Prop :=
  ∀ s t : State, s.RelaySound → s.SeatsAgree → step s = .next t → t.SeatsAgree

/-- R32, R65 to R69, R92, R96, R107, R115, R130, R143, R176, R195: every step keeps the prices, settings, counters and the clock in
their ranges. -/
def Obligations.ValuesStayInRange : Prop :=
  ∀ s t : State, s.InRange → step s = .next t → t.InRange

/-- Every step keeps every addressed store in the model's one canonical form: rising addresses, no entry that reads as an unlisted
address. The form is the model's own (INVENTORY.md, Memory and ordering). -/
def Obligations.StoresStayCanonical : Prop :=
  ∀ s t : State, s.Canonical → step s = .next t → t.Canonical

/-- R166, R171: no step changes a byte of a sector within the Protect Span, nor, once the Site Lock is set, a byte of the Site
Record or the lock. Premise: the operation in progress works on no protected sector, which every step keeps too. -/
def Obligations.ProtectedBytesAndLockedSiteStay : Prop :=
  ∀ s t : State, s.worksUnprotected → step s = .next t →
    t.worksUnprotected
    ∧ (∀ a, s.store.guarded a → t.store.byte a = s.store.byte a)
    ∧ (s.store.siteLock = true → t.store.siteLock = true
        ∧ ∀ a, Sparse.get erasedByte t.store.siteRecord a = Sparse.get erasedByte s.store.siteRecord a)
end

