-- ==== Sys2Proof/Laws/Bytes.lean ====
section
/-! SUPPORT. The readers of Machine/Operands.lean take back what the writers of Machine/Frames.lean put, field by field. -/

namespace Sys2Proof.Machine

@[simp] theorem u8_length (n : Nat) : (u8 n).length = 1 := rfl
@[simp] theorem u16_length (n : Nat) : (u16 n).length = 2 := rfl
@[simp] theorem u24_length (n : Nat) : (u24 n).length = 3 := rfl
@[simp] theorem u32_length (n : Nat) : (u32 n).length = 4 := rfl
@[simp] theorem flag_length (b : Bool) : (flag b).length = 1 := rfl
@[simp] theorem text_length (t : Bytes) : (text t).length = t.length + 1 := by simp [text, u8]

@[simp] theorem beNat_u8 (n : Nat) : beNat (u8 n) = n % 256 := by simp [beNat, u8]

@[simp] theorem beNat_u16 (n : Nat) : beNat (u16 n) = n % 65536 := by
  simp only [beNat, u16, List.foldl, BitVec.toNat_ofNat]; omega

@[simp] theorem beNat_u24 (n : Nat) : beNat (u24 n) = n % 16777216 := by
  simp only [beNat, u24, List.foldl, BitVec.toNat_ofNat]; omega

@[simp] theorem beNat_u32 (n : Nat) : beNat (u32 n) = n % 4294967296 := by
  simp only [beNat, u32, List.foldl, BitVec.toNat_ofNat]; omega

/-- A field of `n` bytes at the front is read whole, and the rest is left. -/
theorem readNat_append (x rest : Bytes) : readNat x.length (x ++ rest) = some (beNat x, rest) := by
  have : ¬ ((x ++ rest).length < x.length) := by simp
  simp only [readNat, this, if_false, List.take_left, List.drop_left]

@[simp] theorem readNat_u8 (n : Nat) (rest : Bytes) : readNat 1 (u8 n ++ rest) = some (n % 256, rest) := by
  simpa using readNat_append (u8 n) rest

@[simp] theorem readNat_u16 (n : Nat) (rest : Bytes) : readNat 2 (u16 n ++ rest) = some (n % 65536, rest) := by
  simpa using readNat_append (u16 n) rest

@[simp] theorem readNat_u24 (n : Nat) (rest : Bytes) : readNat 3 (u24 n ++ rest) = some (n % 16777216, rest) := by
  simpa using readNat_append (u24 n) rest

@[simp] theorem readNat_u32 (n : Nat) (rest : Bytes) : readNat 4 (u32 n ++ rest) = some (n % 4294967296, rest) := by
  simpa using readNat_append (u32 n) rest

@[simp] theorem readNat_u8_end (n : Nat) : readNat 1 (u8 n) = some (n % 256, []) := by simpa using readNat_u8 n []
@[simp] theorem readNat_u16_end (n : Nat) : readNat 2 (u16 n) = some (n % 65536, []) := by simpa using readNat_u16 n []
@[simp] theorem readNat_u24_end (n : Nat) : readNat 3 (u24 n) = some (n % 16777216, []) := by simpa using readNat_u24 n []
@[simp] theorem readNat_u32_end (n : Nat) : readNat 4 (u32 n) = some (n % 4294967296, []) := by
  simpa using readNat_u32 n []

theorem readRaw_append (x rest : Bytes) : readRaw x.length (x ++ rest) = some (x, rest) := by
  have : ¬ ((x ++ rest).length < x.length) := by simp
  simp only [readRaw, this, if_false, List.take_left, List.drop_left]

@[simp] theorem readFlag_flag (b : Bool) (rest : Bytes) : readFlag (flag b ++ rest) = some (b, rest) := by
  cases b <;> simp [flag, readFlag]

@[simp] theorem readFlag_flag_end (b : Bool) : readFlag (flag b) = some (b, []) := by simpa using readFlag_flag b []

/-- A flag read as a number is 0 or 1. -/
@[simp] theorem readNat_flag (b : Bool) (rest : Bytes) : readNat 1 (flag b ++ rest) = some (if b then 1 else 0, rest) := by
  have h := readNat_append (flag b) rest
  cases b <;> simpa [flag, beNat] using h

@[simp] theorem readNat_flag_end (b : Bool) : readNat 1 (flag b) = some (if b then 1 else 0, []) := by
  simpa using readNat_flag b []

/-- A text of fewer than 256 characters is read back. -/
theorem readText_text (t rest : Bytes) (h : t.length < 256) : readText (text t ++ rest) = some (t, rest) := by
  have hl : (BitVec.ofNat 8 t.length).toNat = t.length := by simp [Nat.mod_eq_of_lt h]
  simp only [text, u8, List.cons_append, List.nil_append, readText, hl, readRaw_append]

theorem readText_text_end (t : Bytes) (h : t.length < 256) : readText (text t) = some (t, []) := by
  simpa using readText_text t [] h

/-- A handle whose generation is a byte is read back. -/
theorem readHandle_bytes (h : Handle) (rest : Bytes) (hg : h.generation < 256) :
    readHandle (h.bytes ++ rest) = some (h, rest) := by
  obtain ⟨i, g⟩ := h
  have hi : (BitVec.ofNat 8 i.val).toNat = i.val := by
    rw [BitVec.toNat_ofNat]; exact Nat.mod_eq_of_lt (by omega)
  have hgen : (BitVec.ofNat 8 g).toNat = g := by
    rw [BitVec.toNat_ofNat]; exact Nat.mod_eq_of_lt hg
  simp [Handle.bytes, u8, readHandle, hi, hgen, i.isLt]

theorem readHandle_bytes_end (h : Handle) (hg : h.generation < 256) : readHandle h.bytes = some (h, []) := by
  simpa using readHandle_bytes h [] hg

/-- A list of two-byte numbers is read back. -/
theorem readList16_flatMap (ks : List Nat) (rest : Bytes) (h : ∀ k ∈ ks, k < 65536) :
    readList16 ks.length (ks.flatMap u16 ++ rest) = some (ks, rest) := by
  induction ks with
  | nil => rfl
  | cons k ks ih =>
    have hk : k % 65536 = k := Nat.mod_eq_of_lt (h k (by simp))
    have ih := ih (fun x hx => h x (by simp [hx]))
    simp [readList16, List.flatMap_cons, List.append_assoc, hk, ih]

@[simp] theorem toFin_val {n : Nat} (k : Fin n) : toFin n k.val = some k := by simp [toFin, k.isLt]

/-- A number below the bound is an index; another is not. -/
theorem toFin_eq_some {n k : Nat} {i : Fin n} : toFin n k = some i ↔ k = i.val := by
  unfold toFin
  split
  · simp [Fin.ext_iff]
  · rename_i h
    constructor
    · simp
    · rintro rfl; exact absurd i.isLt h

@[simp] theorem done_nil {β : Type} (x : β) : done x [] = some x := rfl

/-- Clamping to a range is taking the nearer bound. -/
theorem clamp_eq {lo hi : Nat} (h : lo ≤ hi) (n : Nat) : clamp lo hi n = max lo (min hi n) := by
  unfold clamp; split <;> [skip; split] <;> omega

/-- `noRepeat` says that the list has no duplicates. -/
theorem noRepeat_iff (xs : List Nat) : noRepeat xs = true ↔ xs.Nodup := by
  induction xs with
  | nil => simp [noRepeat]
  | cons x xs ih => simp [noRepeat, ih]

/-! ## The Ethernet frame the uplink sends (R186) -/

@[simp] theorem ownFrame_destination (e : Envelope) : (ownFrame e).destination = BitVec.allOnes 48 := rfl
@[simp] theorem ownFrame_etherType (e : Envelope) : (ownFrame e).etherType = 0x89C2 := rfl
@[simp] theorem ownFrame_envelope (e : Envelope) : (ownFrame e).envelope = e := rfl

end Sys2Proof.Machine
end

