-- ==== Sys2Proof/Laws/Sparse.lean ====
section
/-! SUPPORT. What the operations on addressed stores do: reading after writing, and that each keeps the canonical form. -/

namespace Sys2Proof.Machine

variable {α : Type}

/-! ## Reading after writing -/

theorem Sparse.find_erase_same (m : List (Nat × α)) (a : Nat) : Sparse.find (Sparse.erase m a) a = none := by
  induction m with
  | nil => rfl
  | cons c rest ih =>
    obtain ⟨b, v⟩ := c
    by_cases h : b = a
    · simpa [Sparse.erase, h] using ih
    · simpa [Sparse.erase, Sparse.find, h] using ih

theorem Sparse.find_erase_other (m : List (Nat × α)) {a b : Nat} (h : b ≠ a) :
    Sparse.find (Sparse.erase m a) b = Sparse.find m b := by
  induction m with
  | nil => rfl
  | cons c rest ih =>
    obtain ⟨x, v⟩ := c
    by_cases hx : x = a
    · subst hx
      simpa [Sparse.erase, Sparse.find, Ne.symm h] using ih
    · by_cases hb : x = b
      · simp [Sparse.erase, Sparse.find, hb, h]
      · simpa [Sparse.erase, Sparse.find, hx, hb] using ih

theorem Sparse.find_place_same (m : List (Nat × α)) (a : Nat) (v : α) (h : Sparse.find m a = none) :
    Sparse.find (Sparse.place a v m) a = some v := by
  induction m with
  | nil => simp [Sparse.place, Sparse.find]
  | cons c rest ih =>
    obtain ⟨b, w⟩ := c
    have hb : b ≠ a := fun e => by simp [Sparse.find, e] at h
    simp only [Sparse.find, hb, if_false] at h
    by_cases hlt : a < b
    · simp [Sparse.place, Sparse.find, hlt]
    · simp [Sparse.place, Sparse.find, hlt, hb, ih h]

theorem Sparse.find_place_other (m : List (Nat × α)) {a b : Nat} (v : α) (h : b ≠ a) :
    Sparse.find (Sparse.place a v m) b = Sparse.find m b := by
  induction m with
  | nil => simp [Sparse.place, Sparse.find, Ne.symm h]
  | cons c rest ih =>
    obtain ⟨x, w⟩ := c
    by_cases hlt : a < x
    · simp [Sparse.place, Sparse.find, hlt, Ne.symm h]
    · simp only [Sparse.place, hlt, if_false, Sparse.find, ih]

/-- A read after a write to the same address gives the value written. -/
@[simp] theorem Sparse.get_set_same [DecidableEq α] (d : Nat → α) (m : List (Nat × α)) (a : Nat) (v : α) :
    Sparse.get d (Sparse.set d m a v) a = v := by
  unfold Sparse.set Sparse.get
  split
  · simp [Sparse.find_erase_same, *]
  · simp [Sparse.find_place_same _ _ _ (Sparse.find_erase_same m a)]

/-- A write leaves every other address alone. -/
theorem Sparse.get_set_other [DecidableEq α] (d : Nat → α) (m : List (Nat × α)) {a b : Nat} (v : α) (h : b ≠ a) :
    Sparse.get d (Sparse.set d m a v) b = Sparse.get d m b := by
  unfold Sparse.set Sparse.get
  split
  · rw [Sparse.find_erase_other m h]
  · rw [Sparse.find_place_other _ _ h, Sparse.find_erase_other m h]

/-- Reading any address after a write. -/
theorem Sparse.get_set [DecidableEq α] (d : Nat → α) (m : List (Nat × α)) (a b : Nat) (v : α) :
    Sparse.get d (Sparse.set d m a v) b = if b = a then v else Sparse.get d m b := by
  by_cases h : b = a
  · simp [h]
  · simp [h, Sparse.get_set_other d m v h]

/-- Reading any address after a run of writes. -/
theorem Sparse.get_update [DecidableEq α] (d : Nat → α) (m : List (Nat × α)) (a n : Nat) (f : Nat → α → α) (b : Nat) :
    Sparse.get d (Sparse.update d m a n f) b =
      if a ≤ b ∧ b < a + n then f (b - a) (Sparse.get d m b) else Sparse.get d m b := by
  induction n with
  | zero =>
    have : ¬ (a ≤ b ∧ b < a + 0) := by omega
    rw [Sparse.update, if_neg this]
  | succ n ih =>
    rw [Sparse.update, Sparse.get_set, ih]
    by_cases hb : b = a + n
    · subst hb; simp
    · by_cases hr : a ≤ b ∧ b < a + n
      · have : a ≤ b ∧ b < a + (n + 1) := ⟨hr.1, by omega⟩
        simp [hb, hr, this]
      · have : ¬ (a ≤ b ∧ b < a + (n + 1)) := by omega
        simp [hb, hr, this]

/-! ## The canonical form -/

/-- The canonical form, by `List.Pairwise`. -/
theorem Sparse.rising_iff (m : List (Nat × α)) :
    Sparse.rising m = true ↔ m.Pairwise (fun c e => c.1 < e.1) := by
  induction m with
  | nil => simp [Sparse.rising]
  | cons c rest ih =>
    cases rest with
    | nil => simp [Sparse.rising]
    | cons e rest =>
      obtain ⟨a, v⟩ := c
      obtain ⟨b, w⟩ := e
      simp only [Sparse.rising, Bool.and_eq_true, decide_eq_true_eq, ih]
      constructor
      · rintro ⟨h, hp⟩
        refine List.pairwise_cons.2 ⟨?_, hp⟩
        intro x hx
        rcases List.mem_cons.1 hx with rfl | hx
        · exact h
        · exact lt_trans h ((List.pairwise_cons.1 hp).1 x hx)
      · intro hp
        exact ⟨(List.pairwise_cons.1 hp).1 (b, w) (by simp), (List.pairwise_cons.1 hp).2⟩

theorem Sparse.wf_iff [DecidableEq α] (d : Nat → α) (m : List (Nat × α)) :
    Sparse.wf d m = true ↔ m.Pairwise (fun c e => c.1 < e.1) ∧ ∀ c ∈ m, c.2 ≠ d c.1 := by
  simp [Sparse.wf, Sparse.rising_iff, Bool.and_eq_true, List.all_eq_true]

theorem Sparse.mem_place {m : List (Nat × α)} {a : Nat} {v : α} {c : Nat × α} :
    c ∈ Sparse.place a v m ↔ c = (a, v) ∨ c ∈ m := by
  induction m with
  | nil => simp [Sparse.place]
  | cons e rest ih =>
    obtain ⟨b, w⟩ := e
    by_cases hlt : a < b
    · simp [Sparse.place, hlt]
    · simp only [Sparse.place, hlt, if_false, List.mem_cons, ih]; tauto

theorem Sparse.place_rising {m : List (Nat × α)} (a : Nat) (v : α) (h : m.Pairwise (fun c e => c.1 < e.1))
    (ha : ∀ c ∈ m, c.1 ≠ a) : (Sparse.place a v m).Pairwise (fun c e => c.1 < e.1) := by
  induction m with
  | nil => simp [Sparse.place]
  | cons e rest ih =>
    obtain ⟨b, w⟩ := e
    obtain ⟨h1, h2⟩ := List.pairwise_cons.1 h
    by_cases hlt : a < b
    · simp only [Sparse.place, hlt, if_true]
      refine List.pairwise_cons.2 ⟨?_, h⟩
      intro x hx
      rcases List.mem_cons.1 hx with rfl | hx
      · exact hlt
      · exact lt_trans hlt (h1 x hx)
    · simp only [Sparse.place, hlt, if_false]
      refine List.pairwise_cons.2 ⟨?_, ih h2 (fun c hc => ha c (by simp [hc]))⟩
      intro x hx
      have hab : b ≠ a := ha (b, w) (by simp)
      rcases Sparse.mem_place.1 hx with rfl | hx
      · show b < a
        omega
      · exact h1 x hx

/-- A part of a canonical list is canonical. -/
theorem Sparse.wf_filter [DecidableEq α] {d : Nat → α} {m : List (Nat × α)} (p : Nat × α → Bool) (h : Sparse.wf d m = true) :
    Sparse.wf d (m.filter p) = true := by
  rw [Sparse.wf_iff] at h ⊢
  exact ⟨h.1.filter p, fun c hc => h.2 c (List.mem_filter.1 hc).1⟩

/-- A write keeps the canonical form. -/
theorem Sparse.wf_set [DecidableEq α] {d : Nat → α} {m : List (Nat × α)} (a : Nat) (v : α) (h : Sparse.wf d m = true) :
    Sparse.wf d (Sparse.set d m a v) = true := by
  have he : Sparse.wf d (Sparse.erase m a) = true := Sparse.wf_filter _ h
  unfold Sparse.set
  split
  · exact he
  · rename_i hv
    rw [Sparse.wf_iff] at he ⊢
    refine ⟨Sparse.place_rising a v he.1 (fun c hc => by simpa using (List.mem_filter.1 hc).2), ?_⟩
    intro c hc
    rcases Sparse.mem_place.1 hc with rfl | hc
    · exact hv
    · exact he.2 c hc

/-- A run of writes keeps the canonical form. -/
theorem Sparse.wf_update [DecidableEq α] {d : Nat → α} {m : List (Nat × α)} (a n : Nat) (f : Nat → α → α)
    (h : Sparse.wf d m = true) : Sparse.wf d (Sparse.update d m a n f) = true := by
  induction n with
  | zero => exact h
  | succ n ih => exact Sparse.wf_set _ _ ih

/-- In a canonical list an entry is what its address reads as. -/
theorem Sparse.get_of_mem [DecidableEq α] {d : Nat → α} {m : List (Nat × α)} {c : Nat × α} (h : Sparse.wf d m = true)
    (hc : c ∈ m) : Sparse.get d m c.1 = c.2 := by
  rw [Sparse.wf_iff] at h
  obtain ⟨hp, -⟩ := h
  unfold Sparse.get
  induction m with
  | nil => simp at hc
  | cons e rest ih =>
    obtain ⟨b, w⟩ := e
    obtain ⟨h1, h2⟩ := List.pairwise_cons.1 hp
    rcases List.mem_cons.1 hc with rfl | hc
    · simp [Sparse.find]
    · have : b ≠ c.1 := Nat.ne_of_lt (h1 c hc)
      simpa [Sparse.find, this] using ih hc h2

/-- An address that does not read as its default is listed. -/
theorem Sparse.listed_of_get_ne [DecidableEq α] {d : Nat → α} {m : List (Nat × α)} {a : Nat} (h : Sparse.get d m a ≠ d a) :
    (a, Sparse.get d m a) ∈ m := by
  unfold Sparse.get at h ⊢
  induction m with
  | nil => simp [Sparse.find] at h
  | cons e rest ih =>
    obtain ⟨b, w⟩ := e
    by_cases hb : b = a
    · subst hb; simp [Sparse.find]
    · simp only [Sparse.find, hb, if_false] at h ⊢
      exact List.mem_cons_of_mem _ (ih h)

end Sys2Proof.Machine
end

