-- ==== Sys2Proof/Laws/State.lean ====
section
/-! SUPPORT. One lemma per field per update of the state, true by unfolding, so that no later proof unfolds an update. -/

namespace Sys2Proof.Machine

/-! ## Fields an update leaves alone -/

@[simp] theorem State.setPort_seats (s : State) (p : PortNo) (x : Port) : (s.setPort p x).seats = s.seats := rfl
@[simp] theorem State.setPort_baskets (s : State) (p : PortNo) (x : Port) : (s.setPort p x).baskets = s.baskets := rfl
@[simp] theorem State.setPort_prices (s : State) (p : PortNo) (x : Port) : (s.setPort p x).prices = s.prices := rfl
@[simp] theorem State.setPort_relay (s : State) (p : PortNo) (x : Port) : (s.setPort p x).relay = s.relay := rfl
@[simp] theorem State.setPort_vouchers (s : State) (p : PortNo) (x : Port) : (s.setPort p x).vouchers = s.vouchers := rfl
@[simp] theorem State.setPort_print (s : State) (p : PortNo) (x : Port) : (s.setPort p x).print = s.print := rfl
@[simp] theorem State.setPort_store (s : State) (p : PortNo) (x : Port) : (s.setPort p x).store = s.store := rfl
@[simp] theorem State.setPort_uplink (s : State) (p : PortNo) (x : Port) : (s.setPort p x).uplink = s.uplink := rfl
@[simp] theorem State.setPort_control (s : State) (p : PortNo) (x : Port) : (s.setPort p x).control = s.control := rfl
@[simp] theorem State.setPort_freeCount (s : State) (p : PortNo) (x : Port) : (s.setPort p x).freeCount = s.freeCount := rfl
@[simp] theorem State.setPort_pending (s : State) (p : PortNo) (x : Port) : (s.setPort p x).pending = s.pending := rfl

@[simp] theorem State.setBasket_seats (s : State) (p : PortNo) (b : Basket) : (s.setBasket p b).seats = s.seats := rfl
@[simp] theorem State.setBasket_prices (s : State) (p : PortNo) (b : Basket) : (s.setBasket p b).prices = s.prices := rfl
@[simp] theorem State.setBasket_relay (s : State) (p : PortNo) (b : Basket) : (s.setBasket p b).relay = s.relay := rfl
@[simp] theorem State.setBasket_vouchers (s : State) (p : PortNo) (b : Basket) : (s.setBasket p b).vouchers = s.vouchers := rfl
@[simp] theorem State.setBasket_print (s : State) (p : PortNo) (b : Basket) : (s.setBasket p b).print = s.print := rfl
@[simp] theorem State.setBasket_store (s : State) (p : PortNo) (b : Basket) : (s.setBasket p b).store = s.store := rfl
@[simp] theorem State.setBasket_ports (s : State) (p : PortNo) (b : Basket) : (s.setBasket p b).ports = s.ports := rfl
@[simp] theorem State.setBasket_uplink (s : State) (p : PortNo) (b : Basket) : (s.setBasket p b).uplink = s.uplink := rfl
@[simp] theorem State.setBasket_control (s : State) (p : PortNo) (b : Basket) : (s.setBasket p b).control = s.control := rfl
@[simp] theorem State.setBasket_freeCount (s : State) (p : PortNo) (b : Basket) : (s.setBasket p b).freeCount = s.freeCount := rfl
@[simp] theorem State.setBasket_pending (s : State) (p : PortNo) (b : Basket) : (s.setBasket p b).pending = s.pending := rfl

@[simp] theorem State.setShow_baskets (s : State) (i : ShowNo) (x : Show) : (s.setShow i x).baskets = s.baskets := rfl
@[simp] theorem State.setShow_prices (s : State) (i : ShowNo) (x : Show) : (s.setShow i x).prices = s.prices := rfl
@[simp] theorem State.setShow_relay (s : State) (i : ShowNo) (x : Show) : (s.setShow i x).relay = s.relay := rfl
@[simp] theorem State.setShow_vouchers (s : State) (i : ShowNo) (x : Show) : (s.setShow i x).vouchers = s.vouchers := rfl
@[simp] theorem State.setShow_print (s : State) (i : ShowNo) (x : Show) : (s.setShow i x).print = s.print := rfl
@[simp] theorem State.setShow_store (s : State) (i : ShowNo) (x : Show) : (s.setShow i x).store = s.store := rfl
@[simp] theorem State.setShow_ports (s : State) (i : ShowNo) (x : Show) : (s.setShow i x).ports = s.ports := rfl
@[simp] theorem State.setShow_uplink (s : State) (i : ShowNo) (x : Show) : (s.setShow i x).uplink = s.uplink := rfl
@[simp] theorem State.setShow_control (s : State) (i : ShowNo) (x : Show) : (s.setShow i x).control = s.control := rfl
@[simp] theorem State.setShow_freeCount (s : State) (i : ShowNo) (x : Show) : (s.setShow i x).freeCount = s.freeCount := rfl
@[simp] theorem State.setShow_pending (s : State) (i : ShowNo) (x : Show) : (s.setShow i x).pending = s.pending := rfl

@[simp] theorem State.setSeat_baskets (s : State) (i : ShowNo) (k : Nat) (x : Seat) : (s.setSeat i k x).baskets = s.baskets := rfl
@[simp] theorem State.setSeat_prices (s : State) (i : ShowNo) (k : Nat) (x : Seat) : (s.setSeat i k x).prices = s.prices := rfl
@[simp] theorem State.setSeat_relay (s : State) (i : ShowNo) (k : Nat) (x : Seat) : (s.setSeat i k x).relay = s.relay := rfl
@[simp] theorem State.setSeat_vouchers (s : State) (i : ShowNo) (k : Nat) (x : Seat) : (s.setSeat i k x).vouchers = s.vouchers := rfl
@[simp] theorem State.setSeat_print (s : State) (i : ShowNo) (k : Nat) (x : Seat) : (s.setSeat i k x).print = s.print := rfl
@[simp] theorem State.setSeat_store (s : State) (i : ShowNo) (k : Nat) (x : Seat) : (s.setSeat i k x).store = s.store := rfl
@[simp] theorem State.setSeat_ports (s : State) (i : ShowNo) (k : Nat) (x : Seat) : (s.setSeat i k x).ports = s.ports := rfl
@[simp] theorem State.setSeat_uplink (s : State) (i : ShowNo) (k : Nat) (x : Seat) : (s.setSeat i k x).uplink = s.uplink := rfl
@[simp] theorem State.setSeat_control (s : State) (i : ShowNo) (k : Nat) (x : Seat) : (s.setSeat i k x).control = s.control := rfl
@[simp] theorem State.setSeat_freeCount (s : State) (i : ShowNo) (k : Nat) (x : Seat) : (s.setSeat i k x).freeCount = s.freeCount := rfl
@[simp] theorem State.setSeat_pending (s : State) (i : ShowNo) (k : Nat) (x : Seat) : (s.setSeat i k x).pending = s.pending := rfl

@[simp] theorem State.setSeatState_baskets (s : State) (i : ShowNo) (k : Nat) (x : SeatState) : (s.setSeatState i k x).baskets = s.baskets := rfl
@[simp] theorem State.setSeatState_prices (s : State) (i : ShowNo) (k : Nat) (x : SeatState) : (s.setSeatState i k x).prices = s.prices := rfl
@[simp] theorem State.setSeatState_relay (s : State) (i : ShowNo) (k : Nat) (x : SeatState) : (s.setSeatState i k x).relay = s.relay := rfl
@[simp] theorem State.setSeatState_vouchers (s : State) (i : ShowNo) (k : Nat) (x : SeatState) : (s.setSeatState i k x).vouchers = s.vouchers := rfl
@[simp] theorem State.setSeatState_print (s : State) (i : ShowNo) (k : Nat) (x : SeatState) : (s.setSeatState i k x).print = s.print := rfl
@[simp] theorem State.setSeatState_store (s : State) (i : ShowNo) (k : Nat) (x : SeatState) : (s.setSeatState i k x).store = s.store := rfl
@[simp] theorem State.setSeatState_ports (s : State) (i : ShowNo) (k : Nat) (x : SeatState) : (s.setSeatState i k x).ports = s.ports := rfl
@[simp] theorem State.setSeatState_uplink (s : State) (i : ShowNo) (k : Nat) (x : SeatState) : (s.setSeatState i k x).uplink = s.uplink := rfl
@[simp] theorem State.setSeatState_control (s : State) (i : ShowNo) (k : Nat) (x : SeatState) : (s.setSeatState i k x).control = s.control := rfl
@[simp] theorem State.setSeatState_freeCount (s : State) (i : ShowNo) (k : Nat) (x : SeatState) : (s.setSeatState i k x).freeCount = s.freeCount := rfl
@[simp] theorem State.setSeatState_pending (s : State) (i : ShowNo) (k : Nat) (x : SeatState) : (s.setSeatState i k x).pending = s.pending := rfl

@[simp] theorem State.giveUpSeat_baskets (s : State) (i : ShowNo) (k : Nat) : (s.giveUpSeat i k).baskets = s.baskets := rfl
@[simp] theorem State.giveUpSeat_prices (s : State) (i : ShowNo) (k : Nat) : (s.giveUpSeat i k).prices = s.prices := rfl
@[simp] theorem State.giveUpSeat_relay (s : State) (i : ShowNo) (k : Nat) : (s.giveUpSeat i k).relay = s.relay := rfl
@[simp] theorem State.giveUpSeat_vouchers (s : State) (i : ShowNo) (k : Nat) : (s.giveUpSeat i k).vouchers = s.vouchers := rfl
@[simp] theorem State.giveUpSeat_print (s : State) (i : ShowNo) (k : Nat) : (s.giveUpSeat i k).print = s.print := rfl
@[simp] theorem State.giveUpSeat_store (s : State) (i : ShowNo) (k : Nat) : (s.giveUpSeat i k).store = s.store := rfl
@[simp] theorem State.giveUpSeat_ports (s : State) (i : ShowNo) (k : Nat) : (s.giveUpSeat i k).ports = s.ports := rfl
@[simp] theorem State.giveUpSeat_uplink (s : State) (i : ShowNo) (k : Nat) : (s.giveUpSeat i k).uplink = s.uplink := rfl
@[simp] theorem State.giveUpSeat_control (s : State) (i : ShowNo) (k : Nat) : (s.giveUpSeat i k).control = s.control := rfl
@[simp] theorem State.giveUpSeat_freeCount (s : State) (i : ShowNo) (k : Nat) : (s.giveUpSeat i k).freeCount = s.freeCount := rfl
@[simp] theorem State.giveUpSeat_pending (s : State) (i : ShowNo) (k : Nat) : (s.giveUpSeat i k).pending = s.pending := rfl

@[simp] theorem State.setSlot_seats (s : State) (n : Nat) (x : Slot) : (s.setSlot n x).seats = s.seats := rfl
@[simp] theorem State.setSlot_baskets (s : State) (n : Nat) (x : Slot) : (s.setSlot n x).baskets = s.baskets := rfl
@[simp] theorem State.setSlot_prices (s : State) (n : Nat) (x : Slot) : (s.setSlot n x).prices = s.prices := rfl
@[simp] theorem State.setSlot_relay (s : State) (n : Nat) (x : Slot) : (s.setSlot n x).relay = s.relay := rfl
@[simp] theorem State.setSlot_print (s : State) (n : Nat) (x : Slot) : (s.setSlot n x).print = s.print := rfl
@[simp] theorem State.setSlot_store (s : State) (n : Nat) (x : Slot) : (s.setSlot n x).store = s.store := rfl
@[simp] theorem State.setSlot_ports (s : State) (n : Nat) (x : Slot) : (s.setSlot n x).ports = s.ports := rfl
@[simp] theorem State.setSlot_uplink (s : State) (n : Nat) (x : Slot) : (s.setSlot n x).uplink = s.uplink := rfl
@[simp] theorem State.setSlot_control (s : State) (n : Nat) (x : Slot) : (s.setSlot n x).control = s.control := rfl
@[simp] theorem State.setSlot_freeCount (s : State) (n : Nat) (x : Slot) : (s.setSlot n x).freeCount = s.freeCount := rfl
@[simp] theorem State.setSlot_pending (s : State) (n : Nat) (x : Slot) : (s.setSlot n x).pending = s.pending := rfl

@[simp] theorem State.setStaged_seats (s : State) (x : PriceTables) : (s.setStaged x).seats = s.seats := rfl
@[simp] theorem State.setStaged_baskets (s : State) (x : PriceTables) : (s.setStaged x).baskets = s.baskets := rfl
@[simp] theorem State.setStaged_relay (s : State) (x : PriceTables) : (s.setStaged x).relay = s.relay := rfl
@[simp] theorem State.setStaged_vouchers (s : State) (x : PriceTables) : (s.setStaged x).vouchers = s.vouchers := rfl
@[simp] theorem State.setStaged_print (s : State) (x : PriceTables) : (s.setStaged x).print = s.print := rfl
@[simp] theorem State.setStaged_store (s : State) (x : PriceTables) : (s.setStaged x).store = s.store := rfl
@[simp] theorem State.setStaged_ports (s : State) (x : PriceTables) : (s.setStaged x).ports = s.ports := rfl
@[simp] theorem State.setStaged_uplink (s : State) (x : PriceTables) : (s.setStaged x).uplink = s.uplink := rfl
@[simp] theorem State.setStaged_control (s : State) (x : PriceTables) : (s.setStaged x).control = s.control := rfl
@[simp] theorem State.setStaged_freeCount (s : State) (x : PriceTables) : (s.setStaged x).freeCount = s.freeCount := rfl
@[simp] theorem State.setStaged_pending (s : State) (x : PriceTables) : (s.setStaged x).pending = s.pending := rfl

@[simp] theorem State.setChannel_seats (s : State) (c : ChannelNo) (x : Channel) : (s.setChannel c x).seats = s.seats := rfl
@[simp] theorem State.setChannel_baskets (s : State) (c : ChannelNo) (x : Channel) : (s.setChannel c x).baskets = s.baskets := rfl
@[simp] theorem State.setChannel_prices (s : State) (c : ChannelNo) (x : Channel) : (s.setChannel c x).prices = s.prices := rfl
@[simp] theorem State.setChannel_relay (s : State) (c : ChannelNo) (x : Channel) : (s.setChannel c x).relay = s.relay := rfl
@[simp] theorem State.setChannel_vouchers (s : State) (c : ChannelNo) (x : Channel) : (s.setChannel c x).vouchers = s.vouchers := rfl
@[simp] theorem State.setChannel_store (s : State) (c : ChannelNo) (x : Channel) : (s.setChannel c x).store = s.store := rfl
@[simp] theorem State.setChannel_ports (s : State) (c : ChannelNo) (x : Channel) : (s.setChannel c x).ports = s.ports := rfl
@[simp] theorem State.setChannel_uplink (s : State) (c : ChannelNo) (x : Channel) : (s.setChannel c x).uplink = s.uplink := rfl
@[simp] theorem State.setChannel_control (s : State) (c : ChannelNo) (x : Channel) : (s.setChannel c x).control = s.control := rfl
@[simp] theorem State.setChannel_freeCount (s : State) (c : ChannelNo) (x : Channel) : (s.setChannel c x).freeCount = s.freeCount := rfl
@[simp] theorem State.setChannel_pending (s : State) (c : ChannelNo) (x : Channel) : (s.setChannel c x).pending = s.pending := rfl

@[simp] theorem State.setJobs_seats (s : State) (js : List Job) : (s.setJobs js).seats = s.seats := rfl
@[simp] theorem State.setJobs_baskets (s : State) (js : List Job) : (s.setJobs js).baskets = s.baskets := rfl
@[simp] theorem State.setJobs_prices (s : State) (js : List Job) : (s.setJobs js).prices = s.prices := rfl
@[simp] theorem State.setJobs_relay (s : State) (js : List Job) : (s.setJobs js).relay = s.relay := rfl
@[simp] theorem State.setJobs_vouchers (s : State) (js : List Job) : (s.setJobs js).vouchers = s.vouchers := rfl
@[simp] theorem State.setJobs_store (s : State) (js : List Job) : (s.setJobs js).store = s.store := rfl
@[simp] theorem State.setJobs_ports (s : State) (js : List Job) : (s.setJobs js).ports = s.ports := rfl
@[simp] theorem State.setJobs_uplink (s : State) (js : List Job) : (s.setJobs js).uplink = s.uplink := rfl
@[simp] theorem State.setJobs_control (s : State) (js : List Job) : (s.setJobs js).control = s.control := rfl
@[simp] theorem State.setJobs_freeCount (s : State) (js : List Job) : (s.setJobs js).freeCount = s.freeCount := rfl
@[simp] theorem State.setJobs_pending (s : State) (js : List Job) : (s.setJobs js).pending = s.pending := rfl

@[simp] theorem State.setStore_seats (s : State) (x : TemplateStore) : (s.setStore x).seats = s.seats := rfl
@[simp] theorem State.setStore_baskets (s : State) (x : TemplateStore) : (s.setStore x).baskets = s.baskets := rfl
@[simp] theorem State.setStore_prices (s : State) (x : TemplateStore) : (s.setStore x).prices = s.prices := rfl
@[simp] theorem State.setStore_relay (s : State) (x : TemplateStore) : (s.setStore x).relay = s.relay := rfl
@[simp] theorem State.setStore_vouchers (s : State) (x : TemplateStore) : (s.setStore x).vouchers = s.vouchers := rfl
@[simp] theorem State.setStore_print (s : State) (x : TemplateStore) : (s.setStore x).print = s.print := rfl
@[simp] theorem State.setStore_ports (s : State) (x : TemplateStore) : (s.setStore x).ports = s.ports := rfl
@[simp] theorem State.setStore_uplink (s : State) (x : TemplateStore) : (s.setStore x).uplink = s.uplink := rfl
@[simp] theorem State.setStore_control (s : State) (x : TemplateStore) : (s.setStore x).control = s.control := rfl
@[simp] theorem State.setStore_freeCount (s : State) (x : TemplateStore) : (s.setStore x).freeCount = s.freeCount := rfl
@[simp] theorem State.setStore_pending (s : State) (x : TemplateStore) : (s.setStore x).pending = s.pending := rfl

@[simp] theorem State.setControl_seats (s : State) (x : FoyerControl) : (s.setControl x).seats = s.seats := rfl
@[simp] theorem State.setControl_baskets (s : State) (x : FoyerControl) : (s.setControl x).baskets = s.baskets := rfl
@[simp] theorem State.setControl_prices (s : State) (x : FoyerControl) : (s.setControl x).prices = s.prices := rfl
@[simp] theorem State.setControl_relay (s : State) (x : FoyerControl) : (s.setControl x).relay = s.relay := rfl
@[simp] theorem State.setControl_vouchers (s : State) (x : FoyerControl) : (s.setControl x).vouchers = s.vouchers := rfl
@[simp] theorem State.setControl_print (s : State) (x : FoyerControl) : (s.setControl x).print = s.print := rfl
@[simp] theorem State.setControl_store (s : State) (x : FoyerControl) : (s.setControl x).store = s.store := rfl
@[simp] theorem State.setControl_ports (s : State) (x : FoyerControl) : (s.setControl x).ports = s.ports := rfl
@[simp] theorem State.setControl_uplink (s : State) (x : FoyerControl) : (s.setControl x).uplink = s.uplink := rfl
@[simp] theorem State.setControl_freeCount (s : State) (x : FoyerControl) : (s.setControl x).freeCount = s.freeCount := rfl
@[simp] theorem State.setControl_pending (s : State) (x : FoyerControl) : (s.setControl x).pending = s.pending := rfl

@[simp] theorem State.goodFrame_seats (s : State) (p : PortNo) : (s.goodFrame p).seats = s.seats := rfl
@[simp] theorem State.goodFrame_baskets (s : State) (p : PortNo) : (s.goodFrame p).baskets = s.baskets := rfl
@[simp] theorem State.goodFrame_prices (s : State) (p : PortNo) : (s.goodFrame p).prices = s.prices := rfl
@[simp] theorem State.goodFrame_relay (s : State) (p : PortNo) : (s.goodFrame p).relay = s.relay := rfl
@[simp] theorem State.goodFrame_vouchers (s : State) (p : PortNo) : (s.goodFrame p).vouchers = s.vouchers := rfl
@[simp] theorem State.goodFrame_print (s : State) (p : PortNo) : (s.goodFrame p).print = s.print := rfl
@[simp] theorem State.goodFrame_store (s : State) (p : PortNo) : (s.goodFrame p).store = s.store := rfl
@[simp] theorem State.goodFrame_uplink (s : State) (p : PortNo) : (s.goodFrame p).uplink = s.uplink := rfl
@[simp] theorem State.goodFrame_control (s : State) (p : PortNo) : (s.goodFrame p).control = s.control := rfl
@[simp] theorem State.goodFrame_freeCount (s : State) (p : PortNo) : (s.goodFrame p).freeCount = s.freeCount := rfl
@[simp] theorem State.goodFrame_pending (s : State) (p : PortNo) : (s.goodFrame p).pending = s.pending := rfl

@[simp] theorem State.pushReply_seats (s : State) (p : PortNo) (f : KioskFrame) : (s.pushReply p f).seats = s.seats := rfl
@[simp] theorem State.pushReply_baskets (s : State) (p : PortNo) (f : KioskFrame) : (s.pushReply p f).baskets = s.baskets := rfl
@[simp] theorem State.pushReply_prices (s : State) (p : PortNo) (f : KioskFrame) : (s.pushReply p f).prices = s.prices := rfl
@[simp] theorem State.pushReply_relay (s : State) (p : PortNo) (f : KioskFrame) : (s.pushReply p f).relay = s.relay := rfl
@[simp] theorem State.pushReply_vouchers (s : State) (p : PortNo) (f : KioskFrame) : (s.pushReply p f).vouchers = s.vouchers := rfl
@[simp] theorem State.pushReply_print (s : State) (p : PortNo) (f : KioskFrame) : (s.pushReply p f).print = s.print := rfl
@[simp] theorem State.pushReply_store (s : State) (p : PortNo) (f : KioskFrame) : (s.pushReply p f).store = s.store := rfl
@[simp] theorem State.pushReply_uplink (s : State) (p : PortNo) (f : KioskFrame) : (s.pushReply p f).uplink = s.uplink := rfl
@[simp] theorem State.pushReply_control (s : State) (p : PortNo) (f : KioskFrame) : (s.pushReply p f).control = s.control := rfl
@[simp] theorem State.pushReply_freeCount (s : State) (p : PortNo) (f : KioskFrame) : (s.pushReply p f).freeCount = s.freeCount := rfl
@[simp] theorem State.pushReply_pending (s : State) (p : PortNo) (f : KioskFrame) : (s.pushReply p f).pending = s.pending := rfl

@[simp] theorem State.mgmtAnswer_seats (s : State) (code tag : Byte) (r : Result) (content : Bytes) : (s.mgmtAnswer code tag r content).seats = s.seats := rfl
@[simp] theorem State.mgmtAnswer_baskets (s : State) (code tag : Byte) (r : Result) (content : Bytes) : (s.mgmtAnswer code tag r content).baskets = s.baskets := rfl
@[simp] theorem State.mgmtAnswer_prices (s : State) (code tag : Byte) (r : Result) (content : Bytes) : (s.mgmtAnswer code tag r content).prices = s.prices := rfl
@[simp] theorem State.mgmtAnswer_relay (s : State) (code tag : Byte) (r : Result) (content : Bytes) : (s.mgmtAnswer code tag r content).relay = s.relay := rfl
@[simp] theorem State.mgmtAnswer_vouchers (s : State) (code tag : Byte) (r : Result) (content : Bytes) : (s.mgmtAnswer code tag r content).vouchers = s.vouchers := rfl
@[simp] theorem State.mgmtAnswer_print (s : State) (code tag : Byte) (r : Result) (content : Bytes) : (s.mgmtAnswer code tag r content).print = s.print := rfl
@[simp] theorem State.mgmtAnswer_store (s : State) (code tag : Byte) (r : Result) (content : Bytes) : (s.mgmtAnswer code tag r content).store = s.store := rfl
@[simp] theorem State.mgmtAnswer_ports (s : State) (code tag : Byte) (r : Result) (content : Bytes) : (s.mgmtAnswer code tag r content).ports = s.ports := rfl
@[simp] theorem State.mgmtAnswer_control (s : State) (code tag : Byte) (r : Result) (content : Bytes) : (s.mgmtAnswer code tag r content).control = s.control := rfl
@[simp] theorem State.mgmtAnswer_freeCount (s : State) (code tag : Byte) (r : Result) (content : Bytes) : (s.mgmtAnswer code tag r content).freeCount = s.freeCount := rfl
@[simp] theorem State.mgmtAnswer_pending (s : State) (code tag : Byte) (r : Result) (content : Bytes) : (s.mgmtAnswer code tag r content).pending = s.pending := rfl

@[simp] theorem State.dropEntry_seats (s : State) (tag : Nat) : (s.dropEntry tag).seats = s.seats := rfl
@[simp] theorem State.dropEntry_baskets (s : State) (tag : Nat) : (s.dropEntry tag).baskets = s.baskets := rfl
@[simp] theorem State.dropEntry_prices (s : State) (tag : Nat) : (s.dropEntry tag).prices = s.prices := rfl
@[simp] theorem State.dropEntry_vouchers (s : State) (tag : Nat) : (s.dropEntry tag).vouchers = s.vouchers := rfl
@[simp] theorem State.dropEntry_print (s : State) (tag : Nat) : (s.dropEntry tag).print = s.print := rfl
@[simp] theorem State.dropEntry_store (s : State) (tag : Nat) : (s.dropEntry tag).store = s.store := rfl
@[simp] theorem State.dropEntry_ports (s : State) (tag : Nat) : (s.dropEntry tag).ports = s.ports := rfl
@[simp] theorem State.dropEntry_uplink (s : State) (tag : Nat) : (s.dropEntry tag).uplink = s.uplink := rfl
@[simp] theorem State.dropEntry_control (s : State) (tag : Nat) : (s.dropEntry tag).control = s.control := rfl
@[simp] theorem State.dropEntry_freeCount (s : State) (tag : Nat) : (s.dropEntry tag).freeCount = s.freeCount := rfl
@[simp] theorem State.dropEntry_pending (s : State) (tag : Nat) : (s.dropEntry tag).pending = s.pending := rfl

@[simp] theorem State.withdrawRequest_seats (s : State) (tag : Nat) : (s.withdrawRequest tag).seats = s.seats := rfl
@[simp] theorem State.withdrawRequest_baskets (s : State) (tag : Nat) : (s.withdrawRequest tag).baskets = s.baskets := rfl
@[simp] theorem State.withdrawRequest_prices (s : State) (tag : Nat) : (s.withdrawRequest tag).prices = s.prices := rfl
@[simp] theorem State.withdrawRequest_relay (s : State) (tag : Nat) : (s.withdrawRequest tag).relay = s.relay := rfl
@[simp] theorem State.withdrawRequest_vouchers (s : State) (tag : Nat) : (s.withdrawRequest tag).vouchers = s.vouchers := rfl
@[simp] theorem State.withdrawRequest_print (s : State) (tag : Nat) : (s.withdrawRequest tag).print = s.print := rfl
@[simp] theorem State.withdrawRequest_store (s : State) (tag : Nat) : (s.withdrawRequest tag).store = s.store := rfl
@[simp] theorem State.withdrawRequest_ports (s : State) (tag : Nat) : (s.withdrawRequest tag).ports = s.ports := rfl
@[simp] theorem State.withdrawRequest_control (s : State) (tag : Nat) : (s.withdrawRequest tag).control = s.control := rfl
@[simp] theorem State.withdrawRequest_freeCount (s : State) (tag : Nat) : (s.withdrawRequest tag).freeCount = s.freeCount := rfl
@[simp] theorem State.withdrawRequest_pending (s : State) (tag : Nat) : (s.withdrawRequest tag).pending = s.pending := rfl

@[simp] theorem State.freeReservation_seats (s : State) (n : Nat) : (s.freeReservation n).seats = s.seats := rfl
@[simp] theorem State.freeReservation_baskets (s : State) (n : Nat) : (s.freeReservation n).baskets = s.baskets := rfl
@[simp] theorem State.freeReservation_prices (s : State) (n : Nat) : (s.freeReservation n).prices = s.prices := rfl
@[simp] theorem State.freeReservation_relay (s : State) (n : Nat) : (s.freeReservation n).relay = s.relay := rfl
@[simp] theorem State.freeReservation_print (s : State) (n : Nat) : (s.freeReservation n).print = s.print := rfl
@[simp] theorem State.freeReservation_store (s : State) (n : Nat) : (s.freeReservation n).store = s.store := rfl
@[simp] theorem State.freeReservation_ports (s : State) (n : Nat) : (s.freeReservation n).ports = s.ports := rfl
@[simp] theorem State.freeReservation_uplink (s : State) (n : Nat) : (s.freeReservation n).uplink = s.uplink := rfl
@[simp] theorem State.freeReservation_control (s : State) (n : Nat) : (s.freeReservation n).control = s.control := rfl
@[simp] theorem State.freeReservation_freeCount (s : State) (n : Nat) : (s.freeReservation n).freeCount = s.freeCount := rfl
@[simp] theorem State.freeReservation_pending (s : State) (n : Nat) : (s.freeReservation n).pending = s.pending := rfl

@[simp] theorem State.releaseOffer_seats (s : State) (p : PortNo) : (s.releaseOffer p).seats = s.seats := rfl
@[simp] theorem State.releaseOffer_baskets (s : State) (p : PortNo) : (s.releaseOffer p).baskets = s.baskets := rfl
@[simp] theorem State.releaseOffer_prices (s : State) (p : PortNo) : (s.releaseOffer p).prices = s.prices := rfl
@[simp] theorem State.releaseOffer_relay (s : State) (p : PortNo) : (s.releaseOffer p).relay = s.relay := rfl
@[simp] theorem State.releaseOffer_vouchers (s : State) (p : PortNo) : (s.releaseOffer p).vouchers = s.vouchers := rfl
@[simp] theorem State.releaseOffer_print (s : State) (p : PortNo) : (s.releaseOffer p).print = s.print := rfl
@[simp] theorem State.releaseOffer_store (s : State) (p : PortNo) : (s.releaseOffer p).store = s.store := rfl
@[simp] theorem State.releaseOffer_uplink (s : State) (p : PortNo) : (s.releaseOffer p).uplink = s.uplink := rfl
@[simp] theorem State.releaseOffer_control (s : State) (p : PortNo) : (s.releaseOffer p).control = s.control := rfl
@[simp] theorem State.releaseOffer_freeCount (s : State) (p : PortNo) : (s.releaseOffer p).freeCount = s.freeCount := rfl
@[simp] theorem State.releaseOffer_pending (s : State) (p : PortNo) : (s.releaseOffer p).pending = s.pending := rfl

@[simp] theorem State.countLeases_baskets (s : State) : (s.countLeases).baskets = s.baskets := rfl
@[simp] theorem State.countLeases_prices (s : State) : (s.countLeases).prices = s.prices := rfl
@[simp] theorem State.countLeases_relay (s : State) : (s.countLeases).relay = s.relay := rfl
@[simp] theorem State.countLeases_vouchers (s : State) : (s.countLeases).vouchers = s.vouchers := rfl
@[simp] theorem State.countLeases_print (s : State) : (s.countLeases).print = s.print := rfl
@[simp] theorem State.countLeases_store (s : State) : (s.countLeases).store = s.store := rfl
@[simp] theorem State.countLeases_ports (s : State) : (s.countLeases).ports = s.ports := rfl
@[simp] theorem State.countLeases_uplink (s : State) : (s.countLeases).uplink = s.uplink := rfl
@[simp] theorem State.countLeases_control (s : State) : (s.countLeases).control = s.control := rfl
@[simp] theorem State.countLeases_freeCount (s : State) : (s.countLeases).freeCount = s.freeCount := rfl
@[simp] theorem State.countLeases_pending (s : State) : (s.countLeases).pending = s.pending := rfl

@[simp] theorem State.countAuths_seats (s : State) : (s.countAuths).seats = s.seats := rfl
@[simp] theorem State.countAuths_baskets (s : State) : (s.countAuths).baskets = s.baskets := rfl
@[simp] theorem State.countAuths_prices (s : State) : (s.countAuths).prices = s.prices := rfl
@[simp] theorem State.countAuths_vouchers (s : State) : (s.countAuths).vouchers = s.vouchers := rfl
@[simp] theorem State.countAuths_print (s : State) : (s.countAuths).print = s.print := rfl
@[simp] theorem State.countAuths_store (s : State) : (s.countAuths).store = s.store := rfl
@[simp] theorem State.countAuths_ports (s : State) : (s.countAuths).ports = s.ports := rfl
@[simp] theorem State.countAuths_uplink (s : State) : (s.countAuths).uplink = s.uplink := rfl
@[simp] theorem State.countAuths_control (s : State) : (s.countAuths).control = s.control := rfl
@[simp] theorem State.countAuths_freeCount (s : State) : (s.countAuths).freeCount = s.freeCount := rfl
@[simp] theorem State.countAuths_pending (s : State) : (s.countAuths).pending = s.pending := rfl

@[simp] theorem State.countWaits_seats (s : State) : (s.countWaits).seats = s.seats := rfl
@[simp] theorem State.countWaits_baskets (s : State) : (s.countWaits).baskets = s.baskets := rfl
@[simp] theorem State.countWaits_prices (s : State) : (s.countWaits).prices = s.prices := rfl
@[simp] theorem State.countWaits_relay (s : State) : (s.countWaits).relay = s.relay := rfl
@[simp] theorem State.countWaits_vouchers (s : State) : (s.countWaits).vouchers = s.vouchers := rfl
@[simp] theorem State.countWaits_store (s : State) : (s.countWaits).store = s.store := rfl
@[simp] theorem State.countWaits_ports (s : State) : (s.countWaits).ports = s.ports := rfl
@[simp] theorem State.countWaits_uplink (s : State) : (s.countWaits).uplink = s.uplink := rfl
@[simp] theorem State.countWaits_control (s : State) : (s.countWaits).control = s.control := rfl
@[simp] theorem State.countWaits_freeCount (s : State) : (s.countWaits).freeCount = s.freeCount := rfl
@[simp] theorem State.countWaits_pending (s : State) : (s.countWaits).pending = s.pending := rfl

/-! ## What was written is read -/

@[simp] theorem State.port_setPort (s : State) (p q : PortNo) (x : Port) :
    (s.setPort p x).port q = if q = p then x else s.port q := by
  by_cases h : q = p
  · subst h; simp [State.port, State.setPort]
  · have h' : ¬ p.val = q.val := fun e => h (Fin.ext e.symm)
    simp [State.port, State.setPort, h, h']

@[simp] theorem State.basket_setBasket (s : State) (p q : PortNo) (b : Basket) :
    (s.setBasket p b).basket q = if q = p then b else s.basket q := by
  by_cases h : q = p
  · subst h; simp [State.basket, State.setBasket]
  · have h' : ¬ p.val = q.val := fun e => h (Fin.ext e.symm)
    simp [State.basket, State.setBasket, h, h']

@[simp] theorem State.showAt_setShow (s : State) (i j : ShowNo) (x : Show) :
    (s.setShow i x).showAt j = if j = i then x else s.showAt j := by
  by_cases h : j = i
  · subst h; simp [State.showAt, State.setShow]
  · have h' : ¬ i.val = j.val := fun e => h (Fin.ext e.symm)
    simp [State.showAt, State.setShow, h, h']

@[simp] theorem State.channel_setChannel (s : State) (c e : ChannelNo) (x : Channel) :
    (s.setChannel c x).channel e = if e = c then x else s.channel e := by
  by_cases h : e = c
  · subst h; simp [State.channel, State.setChannel]
  · have h' : ¬ c.val = e.val := fun e' => h (Fin.ext e'.symm)
    simp [State.channel, State.setChannel, h, h']

@[simp] theorem State.slotAt_setSlot (s : State) (n m : Nat) (x : Slot) :
    (s.setSlot n x).slotAt m = if m = n then x else s.slotAt m := Sparse.get_set _ _ _ _ _

@[simp] theorem State.indexed_setSlot (s : State) (n : Nat) (x : Slot) (serial : Nat) :
    (s.setSlot n x).indexed serial = s.indexed serial := rfl

@[simp] theorem State.setPort_port (s : State) (p : PortNo) : s.setPort p (s.port p) = s := by
  simp [State.setPort, State.port]

@[simp] theorem State.setPort_setPort (s : State) (p : PortNo) (x y : Port) : (s.setPort p x).setPort p y = s.setPort p y := by
  simp [State.setPort]

@[simp] theorem State.setBasket_setBasket (s : State) (p : PortNo) (x y : Basket) :
    (s.setBasket p x).setBasket p y = s.setBasket p y := by
  simp [State.setBasket]

@[simp] theorem State.setChannel_setChannel (s : State) (c : ChannelNo) (x y : Channel) :
    (s.setChannel c x).setChannel c y = s.setChannel c y := by
  simp [State.setChannel]

/-- A port is one of the sixteen entries. -/
theorem State.port_of_ports {s t : State} (h : t.ports = s.ports) (p : PortNo) : t.port p = s.port p := by
  simp [State.port, h]

/-- A basket is one of the sixteen entries. -/
theorem State.basket_of_baskets {s t : State} (h : t.baskets = s.baskets) (p : PortNo) : t.basket p = s.basket p := by
  simp [State.basket, h]

/-- A show is one of the sixty-four entries. -/
theorem State.showAt_of_seats {s t : State} (h : t.seats = s.seats) (i : ShowNo) : t.showAt i = s.showAt i := by
  simp [State.showAt, h]

/-- A seat record is read from the Seat Table alone. -/
theorem State.seatAt_of_seats {s t : State} (h : t.seats = s.seats) (i : ShowNo) (k : Nat) : t.seatAt i k = s.seatAt i k := by
  simp [State.seatAt, State.showAt, h]

end Sys2Proof.Machine
end

