-- ==== Sys2Proof/Laws/Answers.lean ====
section
/-! SUPPORT. What taking a request or a management command comes to: one lemma for each way it can go. -/

namespace Sys2Proof.Machine

/-! ## Kiosk requests -/

theorem State.takesFrames_of_hears {s : State} {p : PortNo} (h : s.hears p = true) : s.takesFrames p = true := by
  simp only [State.hears, Bool.and_eq_true] at h; exact h.1

theorem State.places_of_hears {s : State} {p : PortNo} (h : s.hears p = true) : (s.port p).places < 8 := by
  simp only [State.hears, Bool.and_eq_true, decide_eq_true_eq] at h; exact h.2

/-- A request that is taken reaches its owner as a good frame. -/
theorem State.takeRequest_hears {s : State} {p : PortNo} (h : s.hears p = true) (owner : State → State) :
    s.takeRequest p owner = owner (s.goodFrame p) := by
  have h1 := s.takesFrames_of_hears h
  have h2 := s.places_of_hears h
  simp [State.takeRequest, h1, Nat.not_le.2 h2]

/-- A request that is not taken changes nothing. -/
theorem State.takeRequest_deaf {s : State} {p : PortNo} (h : s.hears p = false) (owner : State → State) :
    s.takeRequest p owner = s := by
  unfold State.takeRequest
  split
  · rfl
  · rename_i h1
    have : 8 ≤ (s.port p).places := by
      by_contra hlt
      simp [State.hears, Bool.eq_true_of_not_eq_false h1, Nat.not_le.1 hlt] at h
    simp [this]

/-- A request that is taken comes to its body's answer on the good frame. -/
theorem State.request_hears {s : State} {p : PortNo} (h : s.hears p = true) (c : KioskClass) (tag : Byte)
    (body : State → Answer) :
    s.request c p tag body =
      (body (s.goodFrame p)).1.answer c p tag (body (s.goodFrame p)).2.1 (body (s.goodFrame p)).2.2 := by
  rw [State.request, State.takeRequest_hears h]

/-- An answer on a state that differs by a good frame and by parts other than the ports. -/
theorem State.goodFrame_answer (s : State) (p : PortNo) (c : KioskClass) (tag : Byte) (r : Result) (content : Bytes) :
    (s.goodFrame p).answer c p tag r content = s.answered c p tag r content := by
  simp [State.goodFrame, State.answer, State.pushReply, State.answered, State.setPort, State.port]

/-- A request that is refused only replies. -/
theorem State.request_refused {s : State} {p : PortNo} (h : s.hears p = true) (c : KioskClass) (tag : Byte)
    (body : State → Answer) (r : Result) (content : Bytes) (hb : body (s.goodFrame p) = (s.goodFrame p, r, content)) :
    s.request c p tag body = s.answered c p tag r content := by
  rw [State.request_hears h, hb, State.goodFrame_answer]

/-! ## Management commands -/

@[simp] theorem State.mgmtAnswer_eq_replied (s : State) (c : Command) (tag : Byte) (r : Result) (content : Bytes) :
    s.mgmtAnswer c.code tag r content = s.replied c tag r content := rfl

/-- Without a Restart pending nothing is settled. -/
theorem State.settleRestart_of_clear {s : State} (h : s.control.restartPending = false) : s.settleRestart = s := by
  simp [State.settleRestart, h]

/-- While a command can be taken no Restart is pending. -/
theorem State.restartPending_of_takes {s : State} {c : Option Command} (h : s.takesCommand c = true) :
    s.control.restartPending = false := by
  simp only [State.takesCommand, Bool.and_eq_true, Bool.not_eq_true'] at h; exact h.1.1.2

/-- A command that is taken and sets no Restart comes to its body's answer. -/
theorem State.manage_taken {s : State} {c : Command} (h : s.takesCommand (some c) = true) (tag : Byte) (body : State → Answer)
    (hb : (body s).1.control.restartPending = false) :
    s.manage c tag body = (body s).1.replied c tag (body s).2.1 (body s).2.2 := by
  have hs : ((body s).1.replied c tag (body s).2.1 (body s).2.2).control.restartPending = false := hb
  simp [State.manage, h, State.settleRestart_of_clear hs]

/-- A command whose body is known. -/
theorem State.manage_eq {s t : State} {c : Command} {r : Result} {content : Bytes} (h : s.takesCommand (some c) = true)
    (tag : Byte) (body : State → Answer) (hb : body s = (t, r, content)) (ht : t.control.restartPending = false) :
    s.manage c tag body = t.replied c tag r content := by
  have := State.manage_taken h tag body (by rw [hb]; exact ht)
  rw [this, hb]

/-- A command that is refused only replies. -/
theorem State.manage_refused {s : State} {c : Command} {r : Result} {content : Bytes} (h : s.takesCommand (some c) = true)
    (tag : Byte) (body : State → Answer) (hb : body s = (s, r, content)) :
    s.manage c tag body = s.replied c tag r content :=
  State.manage_eq h tag body hb (State.restartPending_of_takes h)

/-- A command that is not taken is discarded. -/
theorem State.manage_discarded {s : State} {c : Command} (h : s.takesCommand (some c) = false) (tag : Byte)
    (body : State → Answer) : s.manage c tag body = s := by
  simp [State.manage, h]

end Sys2Proof.Machine
end

