-- ==== Sys2Proof/Laws/Seats.lean ====
section
/-! SUPPORT. What writing one seat and a list of seats does to the pool, to the directory and to nothing else. -/

namespace Sys2Proof.Machine

/-! ## One seat -/

/-- Writing a seat changes the Seat Table's pool and directory alone. -/
theorem State.setSeat_frame (s : State) (i : ShowNo) (k : Nat) (x : Seat) :
    s.setSeat i k x = { s with seats := { s.seats with
      shows := (s.setSeat i k x).seats.shows, pool := (s.setSeat i k x).seats.pool } } := rfl

/-- Writing a seat changes its own show's live counts (R9) and no other part of the directory. -/
theorem State.showAt_setSeat (s : State) (i j : ShowNo) (k : Nat) (x : Seat) :
    (s.setSeat i k x).showAt j =
      if j = i then { s.showAt i with counts := (s.showAt i).counts.move (s.seatAt i k).state x.state } else s.showAt j := by
  by_cases h : j = i
  · subst h; simp [State.showAt, State.setSeat]
  · have h' : ¬ i.val = j.val := fun e => h (Fin.ext e.symm)
    simp [State.showAt, State.setSeat, h, h']

@[simp] theorem State.seatBase_setSeat (s : State) (i j : ShowNo) (k : Nat) (x : Seat) :
    ((s.setSeat i k x).showAt j).seatBase = (s.showAt j).seatBase := by
  rw [State.showAt_setSeat]; split
  · rename_i h; subst h; rfl
  · rfl

@[simp] theorem State.seatAddress_setSeat (s : State) (i j : ShowNo) (k n : Nat) (x : Seat) :
    (s.setSeat i k x).seatAddress j n = s.seatAddress j n := by simp [State.seatAddress]

/-- Writing a seat writes one pool address. -/
theorem State.poolSeat_setSeat (s : State) (i : ShowNo) (k a : Nat) (x : Seat) :
    (s.setSeat i k x).poolSeat a = if a = s.seatAddress i k then x else s.poolSeat a := Sparse.get_set _ _ _ _ _

theorem State.seatAt_eq_poolSeat (s : State) (i : ShowNo) (k : Nat) : s.seatAt i k = s.poolSeat (s.seatAddress i k) := rfl

/-- Reading a seat after writing one: the same record where the addresses meet. -/
theorem State.seatAt_setSeat (s : State) (i j : ShowNo) (k n : Nat) (x : Seat) :
    (s.setSeat i k x).seatAt j n = if s.seatAddress j n = s.seatAddress i k then x else s.seatAt j n := by
  rw [State.seatAt_eq_poolSeat, State.poolSeat_setSeat, State.seatAddress_setSeat, State.seatAt_eq_poolSeat]

/-- Two seats of one show are two addresses. -/
theorem State.seatAddress_inj (s : State) (i : ShowNo) (k n : Nat) : s.seatAddress i k = s.seatAddress i n ↔ k = n := by
  simp [State.seatAddress]

/-- Reading another seat of the show that was written. -/
theorem State.seatAt_setSeatState (s : State) (i : ShowNo) (k n : Nat) (x : SeatState) :
    (s.setSeatState i k x).seatAt i n = if n = k then { s.seatAt i k with state := x } else s.seatAt i n := by
  rw [State.setSeatState, State.seatAt_setSeat]
  simp only [State.seatAddress_inj]

/-! ## A list of seats -/

/-- A list of seats whose states change by one function. -/
def State.eachSeat (s : State) (i : ShowNo) (g : SeatState → SeatState) (ks : List Nat) : State :=
  ks.foldl (fun s k => s.setSeatState i k (g (s.seatAt i k).state)) s

@[simp] theorem State.eachSeat_nil (s : State) (i : ShowNo) (g : SeatState → SeatState) : s.eachSeat i g [] = s := rfl

@[simp] theorem State.eachSeat_cons (s : State) (i : ShowNo) (g : SeatState → SeatState) (k : Nat) (ks : List Nat) :
    s.eachSeat i g (k :: ks) = (s.setSeatState i k (g (s.seatAt i k).state)).eachSeat i g ks := rfl

/-- Nothing but the Seat Table's pool and directory changes. -/
theorem State.eachSeat_frame (s : State) (i : ShowNo) (g : SeatState → SeatState) (ks : List Nat) :
    s.eachSeat i g ks = { s with seats := { s.seats with
      shows := (s.eachSeat i g ks).seats.shows, pool := (s.eachSeat i g ks).seats.pool } } := by
  induction ks generalizing s with
  | nil => rfl
  | cons k ks ih => rw [State.eachSeat_cons, ih]; rfl

theorem State.seatBase_eachSeat (s : State) (i j : ShowNo) (g : SeatState → SeatState) (ks : List Nat) :
    ((s.eachSeat i g ks).showAt j).seatBase = (s.showAt j).seatBase := by
  induction ks generalizing s with
  | nil => rfl
  | cons k ks ih => rw [State.eachSeat_cons, ih]; simp [State.setSeatState]

/-- No entry of the directory changes but for the counts of the show. -/
theorem State.eachSeat_showsKept (s : State) (i : ShowNo) (g : SeatState → SeatState) (ks : List Nat) :
    s.showsKept (s.eachSeat i g ks) i := by
  induction ks generalizing s with
  | nil => exact ⟨fun _ _ => rfl, rfl⟩
  | cons k ks ih =>
    obtain ⟨h1, h2⟩ := ih (s.setSeatState i k (g (s.seatAt i k).state))
    rw [State.eachSeat_cons]
    refine ⟨fun j hj => ?_, ?_⟩
    · rw [h1 j hj, State.setSeatState, State.showAt_setSeat, if_neg hj]
    · rw [h2]
      simp only [State.setSeatState, State.showAt_setSeat, if_true]

/-- No pool address changes but those of the list. -/
theorem State.eachSeat_poolKept (s : State) (i : ShowNo) (g : SeatState → SeatState) (ks : List Nat) :
    s.poolKept (s.eachSeat i g ks) (s.seatAddresses i ks) := by
  induction ks generalizing s with
  | nil => exact fun _ _ => rfl
  | cons k ks ih =>
    intro a ha
    have hk : a ≠ s.seatAddress i k := fun e => ha (by simp [State.seatAddresses, e])
    have hks : a ∉ (s.setSeatState i k (g (s.seatAt i k).state)).seatAddresses i ks := by
      intro hm
      apply ha
      simp only [State.seatAddresses, List.mem_map, List.map_cons, List.mem_cons] at hm ⊢
      obtain ⟨n, hn, rfl⟩ := hm
      exact Or.inr ⟨n, hn, by simp [State.seatAddress, State.setSeatState]⟩
    rw [State.eachSeat_cons, ih _ a hks, State.setSeatState, State.poolSeat_setSeat, if_neg hk]

/-- Every seat of the list takes the state the function gives, where giving it twice is giving it once. -/
theorem State.seatAt_eachSeat (s : State) (i : ShowNo) {g : SeatState → SeatState} (hg : ∀ x, g (g x) = g x) (ks : List Nat)
    (n : Nat) : (s.eachSeat i g ks).seatAt i n =
      if n ∈ ks then { s.seatAt i n with state := g (s.seatAt i n).state } else s.seatAt i n := by
  induction ks generalizing s with
  | nil => simp
  | cons k ks ih =>
    rw [State.eachSeat_cons, ih, State.seatAt_setSeatState]
    by_cases hn : n = k
    · subst hn
      by_cases hm : n ∈ ks <;> simp [hm, hg]
    · by_cases hm : n ∈ ks <;> simp [hm, hn]

theorem SeatState.givenUp_givenUp (x : SeatState) : x.givenUp.givenUp = x.givenUp := by
  rcases x with _ | _ | ⟨_, _, h⟩ | ⟨_, h⟩ | _ <;> first | rfl | (cases h <;> rfl)

/-- Returning seats, as a change of each. -/
theorem State.returnSeats_eq (s : State) (i : ShowNo) (ks : List Nat) :
    s.returnSeats i ks = s.eachSeat i SeatState.givenUp ks := rfl

/-- R7, R60: seats that return go to FREE, or to HOUSE, and nothing else changes. -/
theorem State.returnSeats_returns (s : State) (i : ShowNo) (ks : List Nat) : s.seatsReturned (s.returnSeats i ks) i ks := by
  rw [State.returnSeats_eq]
  refine ⟨fun k hk => ?_, s.eachSeat_poolKept _ _ _, s.eachSeat_showsKept _ _ _⟩
  rw [State.seatAt_eachSeat s i SeatState.givenUp_givenUp, if_pos hk]

end Sys2Proof.Machine
end

