-- ==== Sys2Proof/Laws/Vouchers.lean ====
section
/-! SUPPORT. What changing the slot of a serial, or of a list of serials, does. -/

namespace Sys2Proof.Machine

/-- Changing a serial's slot changes the slots alone. -/
theorem State.changeSlot_frame (s : State) (serial : Nat) (f : Slot → Slot) :
    s.changeSlot serial f = { s with vouchers := { s.vouchers with slots := (s.changeSlot serial f).vouchers.slots } } := by
  unfold State.changeSlot; split <;> rfl

@[simp] theorem State.indexed_changeSlot (s : State) (serial n : Nat) (f : Slot → Slot) :
    (s.changeSlot serial f).indexed n = s.indexed n := by
  unfold State.changeSlot; split <;> rfl

theorem State.slotOf_eq_some {s : State} {serial n : Nat} {x : Slot} :
    s.slotOf serial = some (n, x) ↔ s.indexed serial = some n ∧ s.slotAt n = x := by
  unfold State.slotOf
  cases s.indexed serial with
  | none => simp
  | some m =>
    simp only [Option.map_some, Option.some.injEq, Prod.mk.injEq]
    constructor
    · rintro ⟨rfl, rfl⟩; exact ⟨rfl, rfl⟩
    · rintro ⟨rfl, rfl⟩; exact ⟨rfl, rfl⟩

/-- The slot of the serial holds what the function makes of it, and no other slot changes. -/
theorem State.slotAt_changeSlot (s : State) (serial n : Nat) (f : Slot → Slot) :
    (s.changeSlot serial f).slotAt n = if s.indexed serial = some n then f (s.slotAt n) else s.slotAt n := by
  unfold State.changeSlot State.slotOf
  cases h : s.indexed serial with
  | none => simp
  | some m =>
    simp only [Option.map_some, State.slotAt_setSlot, Option.some.injEq]
    by_cases hm : n = m
    · subst hm; simp
    · simp [hm, Ne.symm hm]

/-- A list of serials whose slots change by one function. -/
def State.eachSlot (s : State) (f : Slot → Slot) (serials : List Nat) : State := serials.foldl (fun s n => s.changeSlot n f) s

@[simp] theorem State.eachSlot_nil (s : State) (f : Slot → Slot) : s.eachSlot f [] = s := rfl

@[simp] theorem State.eachSlot_cons (s : State) (f : Slot → Slot) (n : Nat) (ns : List Nat) :
    s.eachSlot f (n :: ns) = (s.changeSlot n f).eachSlot f ns := rfl

theorem State.eachSlot_frame (s : State) (f : Slot → Slot) (ns : List Nat) :
    s.eachSlot f ns = { s with vouchers := { s.vouchers with slots := (s.eachSlot f ns).vouchers.slots } } := by
  induction ns generalizing s with
  | nil => rfl
  | cons n ns ih =>
    rw [State.eachSlot_cons, ih, State.changeSlot_frame]

@[simp] theorem State.indexed_eachSlot (s : State) (f : Slot → Slot) (ns : List Nat) (k : Nat) :
    (s.eachSlot f ns).indexed k = s.indexed k := by
  induction ns generalizing s with
  | nil => rfl
  | cons n ns ih => rw [State.eachSlot_cons, ih, State.indexed_changeSlot]

/-- Every slot that a serial of the list names takes what the function makes of it, where twice is once. -/
theorem State.slotAt_eachSlot (s : State) {f : Slot → Slot} (hf : ∀ x, f (f x) = f x) (ns : List Nat) (m : Nat) :
    (s.eachSlot f ns).slotAt m = if ∃ n ∈ ns, s.indexed n = some m then f (s.slotAt m) else s.slotAt m := by
  induction ns generalizing s with
  | nil => simp
  | cons n ns ih =>
    rw [State.eachSlot_cons, ih, State.slotAt_changeSlot]
    by_cases h1 : s.indexed n = some m
    · by_cases h2 : ∃ k ∈ ns, s.indexed k = some m
      · simp [h1, h2, hf]
      · simp [h1, h2]
    · by_cases h2 : ∃ k ∈ ns, s.indexed k = some m
      · simp [h1, h2]
      · simp [h1, h2]

/-- R118: the slots of a list of serials change by the function, and nothing else in the Voucher Table does. -/
theorem State.eachSlot_spec (s : State) {f : Slot → Slot} (hf : ∀ x, f (f x) = f x) (ns : List Nat) :
    (∀ k ∈ ns, s.slotBecomes (s.eachSlot f ns) k f) ∧ s.slotsKept (s.eachSlot f ns) ns := by
  refine ⟨fun k hk => ?_, ?_, fun m hm => ?_⟩
  · unfold State.slotBecomes State.slotOf
    rw [State.indexed_eachSlot]
    cases h : s.indexed k with
    | none => rfl
    | some m =>
      have : ∃ n ∈ ns, s.indexed n = some m := ⟨k, hk, h⟩
      simp [State.slotAt_eachSlot s hf, this]
  · rw [State.eachSlot_frame]
  · rw [State.slotAt_eachSlot s hf, if_neg]
    rintro ⟨k, hk, h⟩
    exact hm k hk h

theorem Slot.unclaim_unclaim (x : Slot) : x.unclaim.unclaim = x.unclaim := by cases x <;> rfl
theorem Slot.claim_claim (o : ClaimOwner) (x : Slot) : (x.claim o).claim o = x.claim o := by cases x <;> rfl
theorem Slot.redeem_redeem (p : PortNo) (d t : Nat) (x : Slot) : (x.redeem p d t).redeem p d t = x.redeem p d t := by
  cases x <;> rfl

/-- Returning claims, as a change of each slot. -/
theorem State.returnClaims_eq (s : State) (ns : List Nat) : s.returnClaims ns = s.eachSlot Slot.unclaim ns := rfl

end Sys2Proof.Machine
end

