-- ==== Sys2Proof/Laws/Canonical.lean ====
section
/-! SUPPORT. Every operation that writes an addressed store keeps its canonical form, and the reset state has it. -/

namespace Sys2Proof.Machine

/-! ## The Seat Pool -/

theorem State.setSeat_pool_wf {s : State} (h : Sparse.wf blankSeat s.seats.pool = true) (i : ShowNo) (k : Nat) (x : Seat) :
    Sparse.wf blankSeat (s.setSeat i k x).seats.pool = true := Sparse.wf_set _ _ h

theorem State.eachSeat_pool_wf {s : State} (h : Sparse.wf blankSeat s.seats.pool = true) (i : ShowNo)
    (g : SeatState → SeatState) (ks : List Nat) : Sparse.wf blankSeat (s.eachSeat i g ks).seats.pool = true := by
  induction ks generalizing s with
  | nil => exact h
  | cons k ks ih => exact ih (s.setSeat_pool_wf h i k _)

theorem State.blankRange_pool_wf {s : State} (h : Sparse.wf blankSeat s.seats.pool = true) (base count : Nat) :
    Sparse.wf blankSeat (s.blankRange base count).seats.pool = true := Sparse.wf_update _ _ _ h

/-- Counting leases changes no address and makes no record blank. -/
theorem State.countLeases_pool_wf {s : State} (h : Sparse.wf blankSeat s.seats.pool = true) :
    Sparse.wf blankSeat s.countLeases.seats.pool = true := by
  rw [Sparse.wf_iff] at h ⊢
  refine ⟨?_, ?_⟩
  · exact List.pairwise_map.2 h.1
  · intro c hc
    obtain ⟨e, he, rfl⟩ := List.mem_map.1 hc
    have hne := h.2 e he
    show e.2.second ≠ blankSeat e.1
    unfold Seat.second
    split
    · rename_i hs
      intro hb
      have := congrArg Seat.state hb
      simp [blankSeat, Seat.blank] at this
    · exact hne

/-! ## The Voucher Table -/

theorem State.setSlot_slots_wf {s : State} (h : Sparse.wf freeSlot s.vouchers.slots = true) (n : Nat) (x : Slot) :
    Sparse.wf freeSlot (s.setSlot n x).vouchers.slots = true := Sparse.wf_set _ _ h

theorem State.changeSlot_slots_wf {s : State} (h : Sparse.wf freeSlot s.vouchers.slots = true) (n : Nat) (f : Slot → Slot) :
    Sparse.wf freeSlot (s.changeSlot n f).vouchers.slots = true := by
  unfold State.changeSlot
  split
  · exact s.setSlot_slots_wf h _ _
  · exact h

theorem State.issue_wf {s : State} (h : Sparse.wf freeSlot s.vouchers.slots = true)
    (h' : Sparse.wf noSlot s.vouchers.index = true) (kind : VoucherKind) (sale expiry : Nat) :
    Sparse.wf freeSlot (s.issue kind sale expiry).1.vouchers.slots = true
      ∧ Sparse.wf noSlot (s.issue kind sale expiry).1.vouchers.index = true := by
  unfold State.issue
  dsimp only
  exact ⟨Sparse.wf_set _ _ h, Sparse.wf_set _ _ h'⟩

theorem VoucherTable.reclaim_wf {v : VoucherTable} (h : Sparse.wf freeSlot v.slots = true)
    (h' : Sparse.wf noSlot v.index = true) (day : Nat) :
    Sparse.wf freeSlot (v.reclaim day).slots = true ∧ Sparse.wf noSlot (v.reclaim day).index = true :=
  ⟨Sparse.wf_filter _ h, Sparse.wf_filter _ h'⟩

/-! ## The Template Store and the Site Record -/

/-- The canonical form rests on the defaults of the listed addresses alone. -/
theorem Sparse.wf_congr {α : Type} [DecidableEq α] {d d' : Nat → α} {m : List (Nat × α)} (h : Sparse.wf d m = true)
    (hd : ∀ c ∈ m, d' c.1 = d c.1) : Sparse.wf d' m = true := by
  rw [Sparse.wf_iff] at h ⊢
  exact ⟨h.1, fun c hc => by rw [hd c hc]; exact h.2 c hc⟩

/-- What an unlisted byte reads as rests on its own sector's fill. -/
theorem TemplateStore.unlisted_set (st : TemplateStore) (k : SectorNo) (f : Fill) (a : Nat) (h : a / 4096 ≠ k.val) :
    ({ st with fill := st.fill.set k f } : TemplateStore).unlisted a = st.unlisted a := by
  unfold TemplateStore.unlisted
  cases hf : toFin 32 (a / 4096) with
  | none => rfl
  | some j =>
    have hj : ¬ k.val = j.val := fun e => h (by rw [toFin_eq_some.1 hf, e])
    simp [hj]

theorem TemplateStore.clearSector_wf {st : TemplateStore} (h : Sparse.wf st.unlisted st.cells = true) (k : SectorNo) (f : Fill) :
    Sparse.wf ({ st with fill := st.fill.set k f } : TemplateStore).unlisted
      (st.cells.filter (fun c => decide (c.1 / 4096 ≠ k.val))) = true := by
  refine Sparse.wf_congr (Sparse.wf_filter _ h) (fun c hc => ?_)
  exact st.unlisted_set k f c.1 (by simpa using (List.mem_filter.1 hc).2)

/-- R164: a completion keeps the form. -/
theorem TemplateStore.complete_wf {st : TemplateStore} (h : Sparse.wf st.unlisted st.cells = true) (op : StoreOp) :
    Sparse.wf (st.complete op).unlisted (st.complete op).cells = true := by
  cases op with
  | eraseSector k => exact st.clearSector_wf h k .erased
  | eraseAll => rfl
  | programPage k g o data was => exact Sparse.wf_update _ _ _ h

/-- R168: what a cut-off operation leaves keeps the form. -/
theorem TemplateStore.scramble_wf {st : TemplateStore} (h : Sparse.wf st.unlisted st.cells = true) (n : Nat) (op : StoreOp) :
    Sparse.wf (st.scramble n op).unlisted (st.scramble n op).cells = true := by
  cases op with
  | eraseSector k => exact st.clearSector_wf h k (.undefined n)
  | eraseAll => rfl
  | programPage k g o data was => exact st.clearSector_wf h k (.undefined n)

theorem TemplateStore.programSite_wf {st : TemplateStore} (h : Sparse.wf erasedByte st.siteRecord = true) (b : Bytes) :
    Sparse.wf erasedByte (st.programSite b).siteRecord = true := Sparse.wf_update _ _ _ h

/-- The stores right after reset list nothing. -/
theorem reset_canonical : State.reset.seats.pool = [] ∧ State.reset.vouchers.slots = [] ∧ State.reset.vouchers.index = []
    ∧ State.reset.store.cells = [] ∧ State.reset.store.siteRecord = [] := ⟨rfl, rfl, rfl, rfl, rfl⟩

end Sys2Proof.Machine
end

