-- ==== Sys2Proof/Laws/Notices.lean ====
section
/-! SUPPORT. What raising a notice can change, the Notice Queue and the Notices Lost indication, and what it leaves. -/

namespace Sys2Proof.Machine

/-- A notice joining the queue changes Foyer Control's queue and its mark, at most. -/
theorem State.pushNotice_frame (s : State) (code : Nat) (content : Bytes) :
    s.pushNotice code content = { s with
      control := { s.control with
        notices := (s.pushNotice code content).control.notices
        noticesLost := (s.pushNotice code content).control.noticesLost } } := by
  unfold State.pushNotice; dsimp only; split <;> rfl

/-- Raising a notice changes no more. -/
theorem State.raise_frame (s : State) (k : NoticeKind) (content : Bytes) :
    s.raise k content = { s with
      control := { s.control with
        notices := (s.raise k content).control.notices, noticesLost := (s.raise k content).control.noticesLost } } := by
  unfold State.raise
  split
  · exact s.pushNotice_frame _ _
  · rfl

@[simp] theorem State.raise_seats (s : State) (k : NoticeKind) (content : Bytes) : (s.raise k content).seats = s.seats := by
  rw [s.raise_frame]
@[simp] theorem State.raise_baskets (s : State) (k : NoticeKind) (content : Bytes) :
    (s.raise k content).baskets = s.baskets := by rw [s.raise_frame]
@[simp] theorem State.raise_prices (s : State) (k : NoticeKind) (content : Bytes) :
    (s.raise k content).prices = s.prices := by rw [s.raise_frame]
@[simp] theorem State.raise_relay (s : State) (k : NoticeKind) (content : Bytes) : (s.raise k content).relay = s.relay := by
  rw [s.raise_frame]
@[simp] theorem State.raise_vouchers (s : State) (k : NoticeKind) (content : Bytes) :
    (s.raise k content).vouchers = s.vouchers := by rw [s.raise_frame]
@[simp] theorem State.raise_print (s : State) (k : NoticeKind) (content : Bytes) : (s.raise k content).print = s.print := by
  rw [s.raise_frame]
@[simp] theorem State.raise_store (s : State) (k : NoticeKind) (content : Bytes) : (s.raise k content).store = s.store := by
  rw [s.raise_frame]
@[simp] theorem State.raise_ports (s : State) (k : NoticeKind) (content : Bytes) : (s.raise k content).ports = s.ports := by
  rw [s.raise_frame]
@[simp] theorem State.raise_uplink (s : State) (k : NoticeKind) (content : Bytes) : (s.raise k content).uplink = s.uplink := by
  rw [s.raise_frame]
@[simp] theorem State.raise_pending (s : State) (k : NoticeKind) (content : Bytes) :
    (s.raise k content).pending = s.pending := by rw [s.raise_frame]

/-- A queue with room gains the notice at its end. -/
theorem State.pushNotice_room {s : State} (h : s.control.notices.length < 32) (code : Nat) (content : Bytes) :
    s.pushNotice code content = { s with control := { s.control with notices := s.control.notices ++
      [{ code := code, carriesLost := false, day := s.control.day, seconds := s.control.seconds, content := content }] } } := by
  simp [State.pushNotice, h]

/-- A full queue keeps a head that is being sent, loses its oldest other notice, gains the notice and marks the loss. -/
theorem State.pushNotice_full {s : State} (h : 32 ≤ s.control.notices.length) (code : Nat) (content : Bytes) :
    s.pushNotice code content = { s with control := { s.control with
      notices := s.noticesLessOldest ++
        [{ code := code, carriesLost := false, day := s.control.day, seconds := s.control.seconds, content := content }]
      noticesLost := true } } := by
  simp [State.pushNotice, Nat.not_lt.2 h]

/-- One notice leaves a queue of two or more. -/
theorem State.noticesLessOldest_length {s : State} (h : 2 ≤ s.control.notices.length) :
    s.noticesLessOldest.length = s.control.notices.length - 1 := by
  unfold State.noticesLessOldest
  split
  · simp; omega
  · simp

/-- A queue stays within 32. -/
theorem State.pushNotice_length {s : State} (h : s.control.notices.length ≤ 32) (code : Nat) (content : Bytes) :
    (s.pushNotice code content).control.notices.length ≤ 32 := by
  unfold State.pushNotice
  dsimp only
  split
  · simp; omega
  · simp [State.noticesLessOldest_length (s := s) (by omega)]; omega

/-- An enabled notice with room joins the queue. -/
theorem State.raise_room {s : State} {k : NoticeKind} (ha : s.control.enables.all = true)
    (hk : s.control.enables.kind k = true) (h : s.control.notices.length < 32) (content : Bytes) :
    s.raise k content = { s with control := { s.control with notices := s.control.notices ++
      [{ code := k.code, carriesLost := false, day := s.control.day, seconds := s.control.seconds, content := content }] } } := by
  simp [State.raise, ha, hk, State.pushNotice_room h]

/-- A notice whose enable is off is not made. -/
theorem State.raise_disabled {s : State} {k : NoticeKind} (h : (s.control.enables.all && s.control.enables.kind k) = false)
    (content : Bytes) : s.raise k content = s := by
  simp [State.raise, h]

/-- R126: Low Armed follows Available, and no other part of the Voucher Table changes. -/
theorem State.checkLow_vouchers (s : State) :
    s.checkLow.vouchers = { s.vouchers with lowArmed := decide (64 ≤ s.vouchers.available) } := by
  unfold State.checkLow
  dsimp only
  split
  · rename_i h
    have h' : ¬ 64 ≤ s.vouchers.available := by omega
    split
    · simp [h']
    · rename_i ha
      have : s.vouchers.lowArmed = false := by simpa using ha
      rw [decide_eq_false h', ← this]
  · rename_i h
    simp [Nat.le_of_not_lt h]

/-- R126: what following Available changes besides. -/
theorem State.checkLow_frame (s : State) :
    s.checkLow = { s with
      vouchers := { s.vouchers with lowArmed := decide (64 ≤ s.vouchers.available) }
      control := { s.control with notices := s.checkLow.control.notices, noticesLost := s.checkLow.control.noticesLost } } := by
  rw [← s.checkLow_vouchers]
  unfold State.checkLow
  dsimp only
  split
  · split
    · rw [State.raise_frame]
    · rfl
  · rfl

end Sys2Proof.Machine
end

