-- ==== Sys2Proof/Laws/Printing.lean ====
section
/-! SUPPORT. What fetching, rendering, offering, failing and the channel arbiter can change, said once (R134, R135, R139, R144). -/

namespace Sys2Proof.Machine

/-- What a step of the print channels can change: jobs, channels, owed documents, print offers and the notices raised. -/
structure State.PrintStep (s t : State) : Prop where
  frame : t = { s with print := t.print, ports := t.ports, uplink := t.uplink, control := t.control }
  ports : ∀ q, t.port q = { s.port q with printOffer := (t.port q).printOffer }
  print : t.print = { s.print with jobs := t.print.jobs, channels := t.print.channels, owed := t.print.owed }
  uplink : s.uplinkKept t
  control : s.controlKept t

theorem State.PrintStep.refl (s : State) : s.PrintStep s := ⟨rfl, fun _ => rfl, rfl, rfl, rfl⟩

theorem State.PrintStep.trans {s t u : State} (h : s.PrintStep t) (h' : t.PrintStep u) : s.PrintStep u := by
  refine ⟨?_, fun q => ?_, ?_, ?_, ?_⟩
  · rw [h'.frame, h.frame]
  · rw [h'.ports q, h.ports q]
  · rw [h'.print, h.print]
  · have h1 := h.uplink
    have h2 := h'.uplink
    simp only [State.uplinkKept] at h1 h2 ⊢
    rw [h2, h1]
  · have h1 := h.control
    have h2 := h'.control
    simp only [State.controlKept] at h1 h2 ⊢
    rw [h2, h1]

/-- Raising a notice is such a step. -/
theorem State.raise_printStep (s : State) (k : NoticeKind) (content : Bytes) : s.PrintStep (s.raise k content) := by
  refine ⟨?_, fun q => ?_, ?_, ?_, ?_⟩
  · conv_lhs => rw [s.raise_frame]
    conv_rhs => rw [s.raise_frame]
  · rw [State.port_of_ports (s.raise_ports k content)]
  · rw [s.raise_print]
  · unfold State.uplinkKept; conv_lhs => rw [s.raise_frame]
  · unfold State.controlKept; conv_lhs => rw [s.raise_frame]

/-- Changing jobs and channels is such a step. -/
theorem State.setJobs_printStep (s : State) (js : List Job) : s.PrintStep (s.setJobs js) := ⟨rfl, fun _ => rfl, rfl, rfl, rfl⟩

theorem State.setChannel_printStep (s : State) (c : ChannelNo) (x : Channel) : s.PrintStep (s.setChannel c x) :=
  ⟨rfl, fun _ => rfl, rfl, rfl, rfl⟩

/-- Changing a port's print offer is such a step. -/
theorem State.setOffer_printStep (s : State) (p : PortNo) (o : Option PrintOffer) :
    s.PrintStep (s.setPort p { s.port p with printOffer := o }) := by
  refine ⟨rfl, fun q => ?_, rfl, rfl, rfl⟩
  rw [State.port_setPort]
  split
  · rename_i h; subst h; rfl
  · rfl

theorem State.releaseOffer_printStep (s : State) (p : PortNo) : s.PrintStep (s.releaseOffer p) := s.setOffer_printStep p _

theorem State.owe_printStep (s : State) (e : OwedEntry) : s.PrintStep (s.owe e) := by
  unfold State.owe
  dsimp only
  split
  · have h : s.PrintStep { s with print := { s.print with owed := s.print.owed ++ [e] } } :=
      ⟨rfl, fun _ => rfl, rfl, rfl, rfl⟩
    exact h.trans (State.raise_printStep _ _ _)
  · exact State.raise_printStep _ _ _

theorem State.offer_printStep (s : State) (c : ChannelNo) : s.PrintStep (s.offer c) := by
  unfold State.offer
  repeat' split
  all_goals first | exact State.PrintStep.refl _ | exact s.setOffer_printStep _ _

theorem State.enterSend_printStep (s : State) (c : ChannelNo) (r : Rendered) : s.PrintStep (s.enterSend c r) :=
  (s.setChannel_printStep c _).trans (State.offer_printStep _ c)

theorem State.endJob_printStep (s : State) (c : ChannelNo) (n : Nat) : s.PrintStep (s.endJob c n) :=
  (s.setJobs_printStep _).trans (State.setChannel_printStep _ c _)

theorem State.failJob_printStep (s : State) (c : ChannelNo) (why : FailReason) : s.PrintStep (s.failJob c why) := by
  unfold State.failJob
  split
  · exact State.PrintStep.refl _
  · split
    · exact State.PrintStep.refl _
    · exact (((s.raise_printStep _ _).trans (State.owe_printStep _ _)).trans (State.releaseOffer_printStep _ _)).trans
        (State.endJob_printStep _ _ _)

theorem State.readSector_printStep (s : State) (c : ChannelNo) : s.PrintStep (s.readSector c) := by
  unfold State.readSector
  split
  · exact State.PrintStep.refl _
  · split
    · exact (s.raise_printStep _ _).trans (State.endJob_printStep _ _ _)
    · split
      · exact s.endJob_printStep _ _
      · split
        · exact s.failJob_printStep _ _
        · exact s.enterSend_printStep _ _

theorem State.enterFetch_printStep (s : State) (c : ChannelNo) : s.PrintStep (s.enterFetch c) := by
  unfold State.enterFetch
  dsimp only
  split
  · exact s.setChannel_printStep _ _
  · exact (s.setChannel_printStep _ _).trans (State.readSector_printStep _ _)

theorem State.takeJob_printStep (s : State) (c : ChannelNo) (j : Job) : s.PrintStep (s.takeJob c j) :=
  ((s.setJobs_printStep _).trans (State.setChannel_printStep _ _ _)).trans (State.enterFetch_printStep _ _)

theorem State.assign_printStep (n : Nat) (s : State) : s.PrintStep (State.assign n s) := by
  induction n generalizing s with
  | zero => exact State.PrintStep.refl _
  | succ n ih =>
    unfold State.assign
    split
    · exact (s.takeJob_printStep _ _).trans (ih _)
    · exact State.PrintStep.refl _

/-- R134: the channel arbiter changes jobs, channels, owed documents, print offers and notices, and nothing else. -/
theorem State.runArbiter_printStep (s : State) : s.PrintStep s.runArbiter := State.assign_printStep _ s

/-- R164, step 5: so do the channels that read at a completion. -/
theorem State.readSectors_printStep (cs : List ChannelNo) (s : State) :
    s.PrintStep (cs.foldl (fun s c => s.readSector c) s) := by
  induction cs generalizing s with
  | nil => exact State.PrintStep.refl _
  | cons c cs ih => exact (s.readSector_printStep c).trans (ih _)

end Sys2Proof.Machine
end

