-- ==== Sys2Proof/Tests/Slice0.lean ====
section
/-! SUPPORT. The model's own tests: ill-formed terms that WellFormed refuses, one small step for each command with its expected
result taken from the rules and worked cases of spec/, and for each statement a state that meets its premises. -/

open Sys2Proof Sys2Proof.Machine

namespace Sys2Proof.Tests

set_option Elab.async false

/-! ## A small foyer

Show 0 with Generation 3 in the middle of its life; port 6 a SALES kiosk with a basket, port 7 a COUNTER, port 8 a BOXOFFICE,
port 9 DISABLED, port 10 QUARANTINED, ports 11 and 12 with an ACTIVE and a LOST authorisation. -/

/-- The state a command leaves. -/
def after (o : Host.Outcome State Fault Refusal) : Option State :=
  match o with
  | .next t => some t
  | .fault _ => none
  | .refused _ => none

/-- A seat of zone 1 in row A. -/
def seat (n : Nat) (st : SeatState) : Seat := { zone := 1, rowLabel := [0x41], number := n, state := st }

/-- The show: 20 seats from pool address 0, of which 2 FREE, 2 HELD, 2 PENDING, 1 SOLD and 13 HOUSE. -/
def show0 : Show :=
  { state := .onSale, generation := 3, seatBase := 0, seatCount := 20, priceBand := 3, surcharge := 300, ticketTemplate := 2,
    startDay := 12, startTime := 72000, graceDays := 2, title := [0x41],
    counts := { free := 2, held := 2, pending := 2, sold := 1, house := 13 } }

/-- Its handle. -/
def handle0 : Handle := { index := 0, generation := 3 }

/-- Its seats that are not blank. -/
def pool0 : List (Nat × Seat) :=
  [(0, seat 1 .free), (1, seat 2 .free), (2, seat 3 .house), (3, seat 4 (.held 6 12 false)), (4, seat 5 (.held 6 1 true)),
   (5, seat 6 (.pending 9 false)), (6, seat 7 (.pending 10 true)), (7, seat 8 (.sold 77 1))]

/-- The Live tables of spec/04, section 4.5, with every type and combo 4 valid. -/
def live0 : PriceTables :=
  { PriceTables.reset with
    base := PriceTables.reset.base.set 3 #v[1000, 1450, 2000, 65535]
    types := (Vector.replicate 8 { factor := 1000, valid := true, boxOfficeOnly := false, name := [0x54] }).set 1
      { factor := 650, valid := true, boxOfficeOnly := false, name := [0x43] }
    combos := PriceTables.reset.combos.set 4
      { price := 1095, discount := 150, minSeats := 2, template := 5, name := [0x50], valid := true }
    ticketRate := 700
    snackRate := 1900
    ceiling := 200000 }

/-- Five vouchers, one in each state but FREE and one credit voucher ISSUED. -/
def vouchers0 : VoucherTable :=
  { slots :=
      [(0, .claimed { serial := 500, kind := .credit 500, issuingSale := 0, expiryDay := 65535 } (.port 6)),
       (1, .issued { serial := 501, kind := .snack 4, issuingSale := 90, expiryDay := 14 }),
       (2, .issued { serial := 502, kind := .credit 700, issuingSale := 0, expiryDay := 9 }),
       (3, .redeemed { serial := 503, kind := .snack 4, issuingSale := 90, expiryDay := 14 } 7 9 100),
       (4, .void { serial := 504, kind := .credit 700, issuingSale := 0, expiryDay := 14 } 10),
       (6, .issued { serial := 506, kind := .credit 300, issuingSale := 0, expiryDay := 14 })]
    index := [(500, some 0), (501, some 1), (502, some 2), (503, some 3), (504, some 4), (506, some 6)]
    serialCounter := 505
    serialLoaded := true
    reservation := 2
    lowArmed := true }

/-- The ACTIVE authorisation of port 11. -/
def entry9 : AuthEntry :=
  { tag := 9, state := .active 40, origin := 11, handle := handle0, seatLines := [{ seat := 5, ticketType := 0, amount := 1750 }],
    combos := [4], claims := [], net := 2845, ticketTax := 114, snackTax := 175, reservation := 1 }

/-- The LOST authorisation of port 12. -/
def entry10 : AuthEntry :=
  { entry9 with tag := 10, state := .lost, origin := 12, seatLines := [{ seat := 6, ticketType := 1, amount := 1243 }] }

/-- The snapshot of the basket behind it. -/
def snapshot9 : Snapshot :=
  { generation := 17, seats := entry9.seatLines, combos := [{ code := 4, discounted := false, amount := 1095 }]
    ticketPortion := 1750, snackPortion := 1095, gross := 2845, creditValue := 0, creditsApplied := 0, creditUnused := 0
    ticketDue := 1750, snackDue := 1095, net := 2845, ticketTax := 114, snackTax := 175, overLimit := false }

/-- Port 6's basket: two seats, a combo and a claim. -/
def basket6 : Basket :=
  { state := .building, handle := handle0, seatLines := [{ seat := 3, ticketType := 0 }, { seat := 4, ticketType := 1 }],
    combos := [4], claims := [500], undo := [.addCombo 0], lapsed := false, snapshot := none }

/-- A port in a state and a role, its receiver ready. -/
def portAs (st : PortState) (r : Role) : Port := { Port.reset with state := st, role := r, awaitingIdle := false }

/-- The foyer OPEN on day 10, at one in the morning, with the uplink UP. -/
def scene : State :=
  { State.reset with
    seats := { SeatTable.reset with shows := SeatTable.reset.shows.set 0 show0, pool := pool0 }
    baskets := ((State.reset.baskets.set 6 basket6).set 11 { Basket.reset with state := .authorising, handle := handle0
                                                                               seatLines := [{ seat := 5, ticketType := 0 }]
                                                                               combos := [4], snapshot := some snapshot9 })
    prices := { live := live0, staged := live0, generation := 17, committed := true }
    relay := { PaymentRelay.reset with entries := [entry9, entry10], tagCounter := 11, saleCounter := 100, saleLoaded := true }
    vouchers := vouchers0
    ports := ((((((State.reset.ports.set 6 (portAs .active .sales)).set 7 (portAs .active .counter)).set 8
      (portAs .active .boxOffice)).set 10 { portAs .quarantined .sales with errorCount := 130 }).set 11
        { portAs .active .sales with kept := some 0x44 }).set 12 (portAs .active .sales))
    store := { State.reset.store with siteLock := true, siteRecord := [(2, 2)] }
    uplink := { State.reset.uplink with linkUp := true }
    control := { State.reset.control with
      foyer := .opened, day := 10, seconds := 3600, clockSet := true, tickRunning := true, running := true } }

/-- The foyer in another Foyer State. -/
def foyerIn (f : FoyerState) : State := { scene with control := { scene.control with foyer := f } }

/-- Port 6's snapshot of section 4.5's kind, with a Net. -/
def snapshotOfNet (net : Nat) : Snapshot :=
  { generation := 17, seats := [{ seat := 3, ticketType := 0, amount := 1750 }, { seat := 4, ticketType := 1, amount := 1243 }],
    combos := [{ code := 4, discounted := true, amount := 931 }], ticketPortion := 2993, snackPortion := 931, gross := 3924,
    creditValue := 500, creditsApplied := 3924 - net, creditUnused := 0, ticketDue := 0, snackDue := net, net := net, ticketTax := 0,
    snackTax := 0, overLimit := false }

/-- Port 6's basket PRICED with a Net. -/
def pricedScene (net : Nat) : State :=
  { scene with baskets := scene.baskets.set 6 { basket6 with state := .priced, snapshot := some (snapshotOfNet net) } }

theorem scene_takes : scene.hears 6 = true ∧ scene.hears 7 = true ∧ scene.hears 8 = true ∧ scene.takesUplink = true
    ∧ (∀ c : Command, scene.takesCommand (some c) = true) := by
  refine ⟨by decide, by decide, by decide, by decide, fun c => ?_⟩
  cases c <;> decide

/-- The payload of the last reply waiting at a port. -/
def said (p : PortNo) (o : Host.Outcome State Fault Refusal) : Option Bytes :=
  (after o).bind (fun t => (t.port p).replies.getLast?.map (·.payload))

/-- The payload of the last management reply waiting. -/
def told (o : Host.Outcome State Fault Refusal) : Option Bytes :=
  (after o).bind (fun t => t.uplink.replies.getLast?.map (·.payload))

/-- A part of the state a command leaves. -/
def left {α : Type} (o : Host.Outcome State Fault Refusal) (f : State → α) : Option α := (after o).map f

/-! ## Codes and checks -/

/-- Command Codes, the examples of R205. -/
theorem test_command_codes : Command.code .defineShow = 0x10 ∧ Command.code .commitPrices = 0x47
    ∧ Command.code .reconcile = 0x53 ∧ Command.code .writeEnable = 0x80 ∧ Command.code .setNoticeEnables = 0xAA := by
  decide +kernel

/-- Every Command Code names its own command. -/
theorem test_command_code_round_trip (c : Command) : Command.ofCode c.code = some c := by cases c <;> decide +kernel

/-- The CRC-16 with R175's parameters gives 0x29B1 for the characters 123456789, its standard check value. -/
theorem test_crc_check_value : crc16 (ascii "123456789") = 0x29B1 := by decide +kernel

/-- The bytes a kiosk sends for CANCEL with Tag 7 pass R175 and are a CANCEL. -/
theorem test_wire_cancel : checkRun (KioskFrame.wire { cls := 0x19, tag := 7, payload := [] }) = .inr (.cancel, 7, []) := by
  decide +kernel

/-- The first failing check of R175 gives the framing error. -/
theorem test_run_errors : checkRun [0xD4, 0x19, 7, 0, 0, 0] = .inl .delimit ∧ checkRun [0xD5, 0x19, 7] = .inl .delimit
    ∧ checkRun [0xD5, 0x19, 7, 241, 0, 0] = .inl .length ∧ checkRun [0xD5, 0x19, 7, 1, 0, 0] = .inl .length
    ∧ checkRun [0xD5, 0x19, 7, 0, 0, 0] = .inl .check
    ∧ checkRun (KioskFrame.wire { cls := 0x21, tag := 7, payload := [] }) = .inl .cls := by decide +kernel

/-! ## WellFormed refuses ill-formed terms -/

theorem smoke_kiosk_payload : (Instr.hold 0 0 (List.replicate 241 0)).wf = false := by decide +kernel
theorem smoke_arguments : (Instr.defineShow 0 (List.replicate 1495 0)).wf = false := by decide +kernel
theorem smoke_uplink_payload : (Instr.authResponse (List.replicate 1496 0)).wf = false := by decide +kernel
theorem smoke_run_that_passes :
    (Instr.kioskRunFailed 0 (KioskFrame.wire { cls := 0x19, tag := 7, payload := [] })).wf = false := by decide +kernel
theorem smoke_known_command : (Instr.unknownCommand 0 [0x10]).wf = false := by decide +kernel
theorem smoke_envelope_taken : (Instr.uplinkEnvelopeDiscarded 0x89C2 true [255, 0x70, 1, 0, 0]).wf = false := by decide +kernel
theorem smoke_well_formed : (Instr.hold 0 0 []).wf = true ∧ (Instr.kioskRunFailed 0 []).wf = true
    ∧ (Instr.unknownCommand 0 [0xFF]).wf = true ∧ (Instr.uplinkEnvelopeDiscarded 0x0800 true []).wf = true := by decide +kernel

/-! ## Words of the table -/

/-- No row of the opcode table gives bits, so no word spells a command. -/
theorem test_no_word : decodeTableWord 8 0x10 = none := rfl

/-! ## Shows and the seat map -/

/-- R24, R25: FREE, FREE, HOUSE, MINE, MINE, TAKEN, TAKEN, TAKEN to port 6, and the Free count. -/
theorem test_seatQuery : said 6 (exec (.seatQuery 6 1 [0, 3, 0, 0, 8]) scene)
    = some [0x00, 0, 3, 0, 0, 8, 0, 0, 1, 5, 5, 6, 6, 6, 0, 2] := by decide +kernel

/-- R25: the PENDING seat of port 11's own ACTIVE entry is MINE to it, and another entry's is TAKEN. -/
theorem test_seatQuery_pending : said 11 (exec (.seatQuery 11 1 [0, 3, 0, 5, 2]) scene)
    = some [0x00, 0, 3, 0, 5, 2, 5, 6, 0, 2] := by decide +kernel

/-- R13: a show defined LOADING, its surcharge clamped to 4,095. -/
theorem test_defineShow : left (exec (.defineShow 1 (u8 5 ++ u16 100 ++ u16 2 ++ u8 1 ++ u24 5000 ++ u8 3 ++ u16 20 ++ u24 0
      ++ u8 7 ++ text [0x42])) scene) (fun t => ((t.showAt 5).state, (t.showAt 5).surcharge, (t.showAt 5).counts.house))
    = some (.loading, 4095, 2) := by decide +kernel

/-- R13: a range that meets another show's is refused OVERLAP. -/
theorem test_defineShow_overlap : told (exec (.defineShow 1 (u8 5 ++ u16 19 ++ u16 2 ++ u8 1 ++ u24 0 ++ u8 3 ++ u16 20 ++ u24 0
      ++ u8 7 ++ text [0x42])) scene) = some [0x10, 0x05] := by decide +kernel

/-- The show LOADING or CLOSED. -/
def showIn (st : ShowState) : State := scene.setShow 0 { show0 with state := st }

/-- R14: a record written HOUSE to FREE moves the counts. -/
theorem test_loadSeats : left (exec (.loadSeats 1 ([0, 3] ++ u16 19 ++ [1, 2, 1, 0x42, 9, 0])) (showIn .loading))
    (fun t => (t.seatAt 0 19, (t.showAt 0).counts.free, (t.showAt 0).counts.house))
    = some ({ zone := 2, rowLabel := [0x42], number := 9, state := .free }, 3, 12) := by decide +kernel

/-- R15. -/
theorem test_openShow : left (exec (.openShow 1 [0, 3]) (showIn .loading)) (fun t => (t.showAt 0).state) = some .onSale := by
  decide +kernel

/-- R16. -/
theorem test_closeShow : left (exec (.closeShow 1 [0, 3]) scene) (fun t => (t.showAt 0).state) = some .closed := by decide +kernel

/-- R17: a show with seats HELD or PENDING is refused BUSY. -/
theorem test_removeShow_busy : told (exec (.removeShow 1 [0, 3]) (showIn .closed)) = some [0x14, 0x04] := by decide +kernel

/-- A CLOSED show without HELD or PENDING seats, at Generation 15. -/
def showEnded : State :=
  scene.setShow 0 { show0 with
    state := .closed, generation := 15, counts := { free := 2, held := 0, pending := 0, sold := 5, house := 13 } }

/-- R17: the Generation after 15 is 0. -/
theorem test_removeShow : left (exec (.removeShow 1 [0, 15]) showEnded) (fun t => ((t.showAt 0).state, (t.showAt 0).generation))
    = some (.empty, 0) := by decide +kernel

/-- R18: FREE to HOUSE. -/
theorem test_setSeat : left (exec (.setSeat 1 [0, 3, 0, 1]) scene) (fun t => ((t.seatAt 0 1).state, (t.showAt 0).counts.house))
    = some (.house, 14) := by decide +kernel

/-- R19: a HELD seat among those listed refuses the whole, and no seat is SOLD. -/
theorem test_markSold_taken : left (exec (.markSold 1 ([0, 3] ++ u32 9 ++ [2, 2, 0, 0, 0, 3])) scene)
    (fun t => (t.seatAt 0 0).state) = some .free := by decide +kernel

/-- R19: FREE and HOUSE seats become SOLD. -/
theorem test_markSold : left (exec (.markSold 1 ([0, 3] ++ u32 9 ++ [2, 2, 0, 0, 0, 2])) scene)
    (fun t => ((t.seatAt 0 0).state, (t.seatAt 0 2).state, (t.showAt 0).counts.sold)) = some (.sold 9 2, .sold 9 2, 3) := by
  decide +kernel

/-- R20, R7: HELD seats of the block return, the one with House Origin to HOUSE, and their lines leave the basket. -/
theorem test_releaseBlock : left (exec (.releaseBlock 1 [0, 3, 0]) scene)
    (fun t => ((t.seatAt 0 3).state, (t.seatAt 0 4).state, (t.basket 6).seatLines, (t.basket 6).state))
    = some (.free, .house, [], .building) := by decide +kernel

/-- R22: a first index and count past the map. -/
theorem test_readSeats_refused : told (exec (.readSeats 1 [0, 3, 0, 19, 2]) scene) = some [0x18, 0x02] := by decide +kernel

/-! ## Holds and leases -/

/-- R28, R33: NEW with 240 s, and ALREADY with the lease it has. -/
theorem test_hold : said 6 (exec (.hold 6 1 [0, 3, 2, 0, 0, 0, 3]) scene)
    = some [0x00, 3, 0, 0, 0x60, 0, 240, 0, 3, 0x61, 0, 12] := by decide +kernel

/-- R27: all or none; a SALES port may not take a HOUSE seat, and the first failing seat gives the reason. -/
theorem test_hold_house : said 6 (exec (.hold 6 1 [0, 3, 3, 0, 0, 0, 2, 0, 5]) scene)
    = some [0x28, 2, 0, 2, 0x28, 0, 5, 0x0C] := by decide +kernel

/-- R30, R31. -/
theorem test_release : said 6 (exec (.release 6 1 [2, 0, 4, 0, 5]) scene) = some [0x00, 1, 0, 4, 0x63, 0, 5, 0x29] := by
  decide +kernel

/-- R32: clamped to 30 and 300. -/
theorem test_setLeaseTimes : told (exec (.setLeaseTimes 1 (u16 5 ++ u16 900)) scene) = some [0x20, 0x00, 0, 30, 1, 44] := by
  decide +kernel

/-- R32: the values after reset. -/
theorem test_readLeaseTimes : told (exec (.readLeaseTimes 1 []) scene) = some [0x21, 0x00, 0, 240, 0, 60] := by decide +kernel

/-- R34, R35: no lease has reached 0, so nothing expires. -/
theorem test_leaseExpiry : left (exec .leaseExpiry scene) (fun t => decide (t = scene)) = some true := by decide +kernel

/-! ## Baskets -/

/-- R48. -/
theorem test_setType : left (exec (.setType 6 1 [0, 3, 1]) scene) (fun t => ((t.basket 6).seatLines.map (·.ticketType),
    (t.basket 6).undo.head?)) = some ([1, 1], some (.setType 3 0)) := by decide +kernel

/-- R49: combo 5 is not valid in the Live copy. -/
theorem test_addCombo_bad : (said 6 (exec (.addCombo 6 1 [5]) scene)).map (·.take 2) = some [0x2B, 1] := by decide +kernel

/-- R49. -/
theorem test_addCombo : left (exec (.addCombo 6 1 [4]) scene) (fun t => (t.basket 6).combos) = some [4, 4] := by decide +kernel

/-- R50. -/
theorem test_removeCombo : left (exec (.removeCombo 6 1 [0]) scene) (fun t => ((t.basket 6).combos, (t.basket 6).undo.head?))
    = some ([], some (.removeCombo 4 0)) := by decide +kernel

/-- R51: voucher 506 is an ISSUED credit voucher of value 300. -/
theorem test_applyCredit : left (exec (.applyCredit 6 1 (u24 506)) scene) (fun t => ((t.basket 6).claims, (t.slotAt 6).code))
    = some ([500, 506], 2) := by decide +kernel

/-- R119: voucher 502 expired on day 9, and the reply gives the Expiry Day. -/
theorem test_applyCredit_expired : (said 6 (exec (.applyCredit 6 1 (u24 502)) scene)).map (·.take 3) = some [0x44, 0, 9] := by
  decide +kernel

/-- R52: the voucher returns to ISSUED. -/
theorem test_removeCredit : left (exec (.removeCredit 6 1 (u24 500)) scene) (fun t => ((t.basket 6).claims, (t.slotAt 0).code))
    = some ([], 1) := by decide +kernel

/-- R54, R57: the ADD_COMBO entry takes its line back. -/
theorem test_undo : left (exec (.undo 6 1 []) scene) (fun t => ((t.basket 6).combos, (t.basket 6).undo)) = some ([], []) := by
  decide +kernel

/-- R60, R61. -/
theorem test_cancel : left (exec (.cancel 6 1 []) scene)
    (fun t => (t.basket 6, (t.seatAt 0 4).state, (t.slotAt 0).code))
    = some ({ Basket.reset with handle := handle0 }, .house, 1) := by decide +kernel

/-! ## Prices -/

/-- Spec/04, section 4.5: the basket of the worked case, at seats of zone 1. -/
def workedBasket : Basket :=
  { basket6 with seatLines := [{ seat := 3, ticketType := 0 }, { seat := 4, ticketType := 0 }, { seat := 1, ticketType := 1 }] }

/-- Spec/04, section 4.5: its amounts. -/
theorem test_worked_case : (scene.snapshotOf workedBasket).seats.map (·.amount) = [1750, 1750, 1243]
    ∧ (scene.snapshotOf workedBasket).combos.map (·.amount) = [931] ∧ (scene.snapshotOf workedBasket).gross = 5674
    ∧ (scene.snapshotOf workedBasket).net = 5174 := by decide +kernel

/-- Spec/04, section 4.6: exact halves go up. -/
theorem test_exact_halves : roundDiv (1450 * 650) 1000 = 943 ∧ roundDiv (1090 * 150) 1000 = 164
    ∧ roundDiv (1503 * 2000) 12000 = 251 ∧ roundDiv (1502 * 2000) 12000 = 250 := by decide +kernel

/-- R80. -/
theorem test_price : left (exec (.price 6 1 []) scene) (fun t => ((t.basket 6).state, (t.basket 6).snapshot.map (·.ticketPortion)))
    = some (.priced, some 2993) := by decide +kernel

/-- R72: a price above 65,535 is refused. -/
theorem test_stageBand : left (exec (.stageBand 1 (u8 2 ++ u24 1 ++ u24 2 ++ u24 3 ++ u24 65535)) scene)
    (fun t => ((t.prices.staged.base[2])[3], (t.prices.live.base[2])[0])) = some (65535, 65535) := by decide +kernel

/-- R73: a factor above 2,000 is clamped. -/
theorem test_stageTicketType : left (exec (.stageTicketType 1 (u8 2 ++ u16 2500 ++ [1, 1] ++ text [0x41])) scene)
    (fun t => (t.prices.staged.types[2]).factor) = some 2000 := by decide +kernel

/-- R73: a discount above 1,000 is clamped. -/
theorem test_stageCombo : left (exec (.stageCombo 1 (u8 31 ++ u24 10 ++ u16 1500 ++ [10, 31] ++ text [] ++ [1])) scene)
    (fun t => ((t.prices.staged.combos[31]).discount, (t.prices.staged.combos[31]).minSeats)) = some (1000, 10) := by
  decide +kernel

/-- R74: a rate above 5,000 is clamped. -/
theorem test_stageTax : told (exec (.stageTax 1 (u16 6000 ++ u16 7)) scene) = some ([0x43, 0x00] ++ u16 5000 ++ u16 7) := by
  decide +kernel

/-- R74. -/
theorem test_stageCeiling : left (exec (.stageCeiling 1 (u24 5174)) scene) (fun t => (t.prices.staged.ceiling, t.prices.live.ceiling))
    = some (5174, 200000) := by decide +kernel

/-- R75. -/
theorem test_reloadStaged : left (exec (.reloadStaged 1 []) (scene.setStaged PriceTables.reset)) (fun t => t.prices.staged.ceiling)
    = some 200000 := by decide +kernel

/-- R76: the generation after 255 is 0. -/
theorem test_commitPrices : told (exec (.commitPrices 1 []) { scene with prices := { scene.prices with generation := 255 } })
    = some [0x47, 0x00, 0] := by decide +kernel

/-- R75: the Live rates and ceiling, the generation and the Committed flag; a BAD_ARG gives the last two. -/
theorem test_readPrices : told (exec (.readPrices 1 [0, 3]) scene)
    = some ([0x46, 0x00] ++ u16 700 ++ u16 1900 ++ u24 200000 ++ [17, 1])
    ∧ told (exec (.readPrices 1 [0, 2, 31, 2]) scene) = some [0x46, 0x02, 17, 1] := by decide +kernel

/-! ## Payment -/

/-- R92, R93: the seats are PENDING under tag 11 with their House Origin marks, and the basket is AUTHORISING. -/
theorem test_pay : left (exec (.pay 6 1 [0x31]) (pricedScene 2500))
    (fun t => ((t.seatAt 0 3).state, (t.seatAt 0 4).state, (t.basket 6).state))
    = some (.pending 11 false, .pending 11 true, .authorising) := by decide +kernel

/-- R106: a Net of 0 sells at once with Sale Number 100. -/
theorem test_pay_zero : left (exec (.pay 6 1 [0x31]) (pricedScene 0))
    (fun t => ((t.seatAt 0 4).state, t.relay.saleCounter, t.relay.entries.length)) = some (.sold 100 1, 101, 2) := by
  decide +kernel

/-- R98, R100: the approval sells seat 5 and answers the kept PAY, Tag 0x44, with one snack voucher. -/
theorem test_authResponse : left (exec (.authResponse [0, 9, 0x50, 0]) scene)
    (fun t => ((t.seatAt 0 5).state, (t.port 11).replies.map (fun f => (f.tag, f.payload))))
    = some (.sold 100 0, [(0x44, [0x50] ++ u16 9 ++ u32 100 ++ u24 2845 ++ [0, 0, 1] ++ u24 505)]) := by decide +kernel

/-- R99: DECLINED gives the seat back to the port for the decline grace of 60 s. -/
theorem test_authResponse_declined : left (exec (.authResponse [0, 9, 0x51, 0]) scene)
    (fun t => ((t.seatAt 0 5).state, (t.basket 11).state, t.vouchers.reservation)) = some (.held 11 60 false, .priced, 1) := by
  decide +kernel

/-- R96: clamped to 120. -/
theorem test_setAuthTimeout : told (exec (.setAuthTimeout 1 (u16 300)) scene) = some [0x50, 0x00, 0, 120] := by decide +kernel

/-- R96. -/
theorem test_readAuthTimeout : told (exec (.readAuthTimeout 1 []) scene) = some [0x51, 0x00, 0, 45] := by decide +kernel

/-- The ACTIVE entry with its timer run out. -/
def timedScene : State := { scene with relay := { scene.relay with entries := [{ entry9 with state := .active 0 }, entry10] } }

/-- R97: LOST, its seat still PENDING, and UNKNOWN in the kept place. -/
theorem test_authTimeout : left (exec .authTimeout timedScene)
    (fun t => (t.relay.entries.map (·.state), (t.seatAt 0 5).state, (t.port 11).replies.map (·.payload)))
    = some ([.lost, .lost], .pending 9 false, [[0x40, 0, 9]]) := by decide +kernel

/-- R101. -/
theorem test_clearGatewayHold : told (exec (.clearGatewayHold 1 []) scene) = some [0x52, 0x00, 0] := by decide +kernel

/-- R105: RELEASE returns the seat of the LOST entry to HOUSE, where it came from. -/
theorem test_reconcile : left (exec (.reconcile 1 [0, 10, 2]) scene) (fun t => ((t.seatAt 0 6).state, t.relay.entries.length))
    = some (.house, 1) := by decide +kernel

/-- R105: an ACTIVE entry is refused BAD_STATE. -/
theorem test_reconcile_active : told (exec (.reconcile 1 [0, 9, 2]) scene) = some [0x53, 0x03] := by decide +kernel

/-- R108: two entries, one ACTIVE. -/
theorem test_readAuthorisations : (told (exec (.readAuthorisations 1 [0, 8]) scene)).map (·.take 5) = some [0x54, 0x00, 2, 1, 0] := by
  decide +kernel

/-! ## Vouchers -/

/-- R121: the Combo Code, the Issuing Sale and the Live name. -/
theorem test_redeem : said 7 (exec (.redeem 7 1 (u24 501)) scene)
    = some ([0x00] ++ u24 501 ++ [4] ++ u32 90 ++ [1, 0x50]) := by decide +kernel

/-- R119: redeemed at port 7 on day 9 at second 100. -/
theorem test_redeem_again : said 7 (exec (.redeem 7 1 (u24 503)) scene)
    = some ([0x41] ++ u24 503 ++ [7] ++ u16 9 ++ u24 100) := by decide +kernel

/-- R122, R115: the lowest FREE slot is 5 and the next serial 505; 506 is in the index, so 507 would follow. -/
theorem test_issueCredit : left (exec (.issueCredit 1 (u24 800 ++ u16 30)) scene)
    (fun t => (t.slotAt 5, t.indexed 505, t.vouchers.serialCounter))
    = some (.issued { serial := 505, kind := .credit 800, issuingSale := 0, expiryDay := 30 }, some 5, 506) := by decide +kernel

/-- R123: a CLAIMED voucher is refused IN_USE. -/
theorem test_voidVoucher : told (exec (.voidVoucher 1 (u24 500)) scene) = some [0x61, 0x09]
    ∧ left (exec (.voidVoucher 1 (u24 501)) scene) (fun t => (t.slotAt 1).code) = some 4 := by decide +kernel

/-- R127: slot 4, VOID on day 10. -/
theorem test_readVoucher : told (exec (.readVoucher 1 (u24 504)) scene)
    = some ([0x62, 0x00] ++ u16 4 ++ [4] ++ u24 504 ++ [2] ++ u24 700 ++ u32 0 ++ u16 14 ++ u16 10) := by decide +kernel

/-- R127: FREE 4,090, and Available less the 2 reserved. -/
theorem test_readVoucherStatus : told (exec (.readVoucherStatus 1 []) scene)
    = some ([0x63, 0x00] ++ u16 4090 ++ u16 3 ++ u16 1 ++ u16 1 ++ u16 1 ++ u16 2 ++ u16 4088 ++ [1] ++ u24 505 ++ [1]) := by
  decide +kernel

/-- R125: on day 15 all but the claimed voucher are freed: four expired or spent, and the void one. -/
theorem test_dayRoll : told (exec (.dayRoll 1 (u16 15)) scene) = some ([0xA8, 0x00] ++ u16 15 ++ u16 5) := by decide +kernel

/-! ## Printing -/

/-- A ticket document of sale 55, on sector 2. -/
def ticketDoc (i : Nat) : Document :=
  { template := 2, index := i, sale := 55,
    fields := .ticket [0x41] 12 72000 1 [0x41] 4 [0x54] 1750 }

/-- A job RUNNING on channel 0 for port 6, its first of two documents sent and awaiting DONE. -/
def job7 : Job := { number := 7, work := .print false 55 6 6 [ticketDoc 0, ticketDoc 1], next := 0, channel := some 0 }

/-- A QUEUED job for the DISABLED port 9. -/
def job8 : Job := { number := 8, work := .print false 56 9 9 [ticketDoc 0], next := 0, channel := none }

/-- The print channel 0 in a state. -/
def printing (st : ChannelState) : State :=
  { scene with print := { scene.print with
      jobs := [job7, job8]
      channels := scene.print.channels.set 0
        { state := st, job := some 7, buffer := some { data := [1, 2], truncated := false }, nextFrame := 0 }
      owed := [{ sale := 60, origin := 6, reason := .late, docs := [ticketDoc 0] }]
      jobCounter := 9 } }

/-- R141: BUSY in AWAIT sets the Printer Wait again, to 20 s. -/
theorem test_printerStatus_busy : left (exec (.printerStatus 6 0 [1, 0]) (printing (.await 3))) (fun t => (t.channel 0).state)
    = some (.await 20) := by decide +kernel

/-- R135, R140, R144: DONE fetches the next document, whose erased sector fails the job TEMPLATE_BAD. -/
theorem test_printerStatus_done : left (exec (.printerStatus 6 0 [4, 0]) (printing (.await 3)))
    (fun t => ((t.channel 0).state, t.print.jobs.map (·.number), (t.print.owed.map (·.docs.length)),
      t.control.notices.map (·.code))) = some (.idle, [8], [1, 1], [8, 9]) := by decide +kernel

/-- R147: the owed documents go to the box office as job 9. -/
theorem test_reprint : said 8 (exec (.reprint 8 1 (u32 60)) (printing (.await 3))) = some [0x00, 0, 9, 1] := by decide +kernel

/-- R147, R24 of the reply codes: only a BOXOFFICE port may. -/
theorem test_reprint_role : said 6 (exec (.reprint 6 1 (u32 60)) scene) = some [0x21] := by decide +kernel

/-- R143: clamped to 5 and 600. -/
theorem test_setPrintWaits : told (exec (.setPrintWaits 1 (u16 1 ++ u16 900)) scene) = some ([0x70, 0x00] ++ u16 5 ++ u16 600) := by
  decide +kernel

/-- R148: the QUEUED job goes to port 8, and a RUNNING one is BUSY. -/
theorem test_redirectJob : told (exec (.redirectJob 1 [0, 8, 8]) (printing .send)) = some [0x71, 0x00, 9, 8]
    ∧ told (exec (.redirectJob 1 [0, 7, 8]) (printing .send)) = some [0x71, 0x04] := by decide +kernel

/-- R149. -/
theorem test_cancelJob : left (exec (.cancelJob 1 [0, 8]) (printing .send))
    (fun t => (t.print.jobs.map (·.number), t.print.owed.map (·.reason))) = some ([7], [.late, .cancelled]) := by decide +kernel

/-- R150. -/
theorem test_dropOwed : told (exec (.dropOwed 1 (u32 60)) (printing .send)) = some [0x73, 0x00, 1, 1] := by decide +kernel

/-- R151: the proof of an erased sector completes at once, BAD_KIND. -/
theorem test_proofTemplate : left (exec (.proofTemplate 1 [2]) scene)
    (fun t => (t.print.jobs, t.control.notices.map (·.content)))
    = some ([], [[0, 1, 2, 1, 0, 0, 0, 0, 0, 0]]) := by decide +kernel

/-- R153: jobs, RUNNING jobs and owed entries, the waits and the next Job Number. -/
theorem test_readPrintStatus : (told (exec (.readPrintStatus 1 [0]) (printing .send))).map (·.take 11)
    = some [0x75, 0x00, 2, 1, 1, 0, 20, 0, 120, 0, 9] := by decide +kernel

/-- R143: the Printer Wait of 0 fails the job. -/
theorem test_printerWaitExpiry : left (exec (.printerWaitExpiry 0) (printing (.await 0))) (fun t => t.print.jobs.map (·.number))
    = some [8] := by decide +kernel

/-- R143: the Paper Wait of 0 fails the job. -/
theorem test_paperWaitExpiry : left (exec (.paperWaitExpiry 0) (printing (.paused 0))) (fun t => t.print.jobs.map (·.number))
    = some [8] := by decide +kernel

/-- R136: a field, an escaped escape, an unknown pair and a last escape. -/
theorem test_render : renderBody ((ticketDoc 1).field scene.store) [0x41, 0x1B, 9, 0x1B, 0x1B, 0x1B, 0x7F, 0x1B]
    = [0x41] ++ ascii "20:00" ++ [0x1B, 0x3F, 0x3F] := by decide +kernel

/-! ## The store -/

/-- The store with the latch set. -/
def latchSet : State := { scene with store := { scene.store with writeEnable := true } }

/-- R159: the latch before the command. -/
theorem test_writeEnable : told (exec (.writeEnable 1 []) scene) = some [0x80, 0x00, 0] := by decide +kernel

/-- R159. -/
theorem test_writeDisable : told (exec (.writeDisable 1 []) latchSet) = some [0x81, 0x00, 1] := by decide +kernel

/-- R159: without the latch. -/
theorem test_eraseSector_latch : told (exec (.eraseSector 1 [4]) scene) = some [0x82, 0x0A] := by decide +kernel

/-- R160. -/
theorem test_eraseSector : left (exec (.eraseSector 1 [4]) latchSet)
    (fun t => (t.store.operation, t.store.writeEnable, t.store.unsettled[4])) = some (some (.eraseSector 4), false, true) := by
  decide +kernel

/-- R161: a job in the Print Queue refuses it IN_USE. -/
theorem test_eraseAll_in_use : told (exec (.eraseAll 1 []) { printing .send with store := latchSet.store }) = some [0x83, 0x09] := by
  decide +kernel

/-- R161. -/
theorem test_eraseAll : told (exec (.eraseAll 1 []) latchSet) = some [0x83, 0x01] := by decide +kernel

/-- R162. -/
theorem test_programPage : told (exec (.programPage 1 [31, 15, 254, 0, 2, 7, 9]) latchSet) = some [0x84, 0x01, 31, 15]
    ∧ told (exec (.programPage 1 [31, 15, 255, 0, 2, 7, 9]) latchSet) = some [0x84, 0x02] := by decide +kernel

/-- R164: the last two bytes of the store take their values, and STORE_DONE reports no mismatch. -/
theorem test_storeOperationCompletion : left (exec .storeOperationCompletion
      { scene with store := { scene.store with operation := some (.programPage 31 15 254 [7, 9] false) } })
    (fun t => (t.store.bytes 131069 3, t.control.notices.map (·.content)))
    = some ([0xFF, 7, 9], [[3, 31, 15, 0, 0, 0]]) := by decide +kernel

/-- R167: with the lock set and the KEY INACTIVE another span is PROTECTED, and the latch is taken. -/
theorem test_setProtect : left (exec (.setProtect 1 [3, 1])
      { latchSet with store := { latchSet.store with protectSpan := 2, protectLock := true } })
    (fun t => (t.store.protectSpan, t.store.writeEnable)) = some (2, false) := by decide +kernel

/-- R165: the last byte of the store, erased and SETTLED; past the end is BAD_ARG. -/
theorem test_readStore : told (exec (.readStore 1 (u24 131071 ++ [1])) scene) = some [0x86, 0x00, 0xFF, 31, 0]
    ∧ told (exec (.readStore 1 (u24 131071 ++ [2])) scene) = some [0x86, 0x02] := by decide +kernel

/-- R165: IDLE, latch clear, span 0 with no sector, lock clear, KEY INACTIVE, no abort, none UNSETTLED, Site Lock set. -/
theorem test_readStoreStatus : told (exec (.readStoreStatus 1 []) scene) = some [0x87, 0x00, 0, 0, 0, 0, 0, 0, 0, 0, 1] := by
  decide +kernel

/-- R170: the Site Lock refuses it LOCKED. -/
theorem test_siteProgram_locked : told (exec (.siteProgram 1 (List.replicate 39 0xFF)) latchSet) = some [0x88, 0x08] := by
  decide +kernel

/-- The Site Record not locked. -/
def siteOpen : State := { latchSet with store := { latchSet.store with siteLock := false } }

/-- R170: the byte stored 2 and the byte given 1 leave 0. -/
theorem test_siteProgram : left (exec (.siteProgram 1 ([0xFF, 0xFF, 1] ++ List.replicate 36 0xFF)) siteOpen) (fun t => t.store.exponent)
    = some 0 := by decide +kernel

/-- R171. -/
theorem test_siteLock : left (exec (.siteLock 1 []) siteOpen) (fun t => t.store.siteLock) = some true := by decide +kernel

/-- R172: 39 bytes and the lock. -/
theorem test_readSiteRecord : (told (exec (.readSiteRecord 1 []) scene)).map (fun b => (b.take 5, b.length))
    = some ([0x8A, 0x00, 0xFF, 0xFF, 2], 42) := by decide +kernel

/-! ## Links -/

/-- R176: the count rises by 8 and the code is DELIMIT. -/
theorem test_kioskRunFailed : left (exec (.kioskRunFailed 6 []) scene) (fun t => ((t.port 6).errorCount, (t.port 6).lastError))
    = some (8, .delimit) := by decide +kernel

/-- Port 6 with an Error Count. -/
def counted (n : Nat) : State := scene.setPort 6 { scene.port 6 with errorCount := n }

/-- R176, R179: 120 becomes 128 and quarantines the port, whose basket is voided. -/
theorem test_quarantine : left (exec (.kioskRunFailed 6 []) (counted 120))
    (fun t => ((t.port 6).state, (t.basket 6).state, (t.seatAt 0 3).state, t.control.notices.map (·.content)))
    = some (.quarantined, .empty, .free, [[6, 128, 1]]) := by decide +kernel

/-- A port with a reply, a print offer and a pass frame waiting. -/
def sendingPort : State :=
  scene.setPort 6 { scene.port 6 with
    replies := [{ cls := 0x59, tag := 1, payload := [0] }]
    printOffer := some { frame := { cls := 0x21, tag := 0, payload := [] }, last := true, current := true }
    downPass := [{ tag := 9, payload := [] }] }

/-- R182: the reply goes first. -/
theorem test_kioskFrameStart : left (exec (.kioskFrameStart 6) sendingPort) (fun t => (t.port 6).sending.map (·.source))
    = some (some .reply) := by decide +kernel

/-- R182: it leaves the queue when sent. -/
theorem test_kioskFrameEnd : left (exec (.kioskFrameEnd 6) (sendingPort.setPort 6 { sendingPort.port 6 with
      sending := some { source := .reply, frame := { cls := 0x59, tag := 1, payload := [0] } } })) (fun t => (t.port 6).replies)
    = some [] := by decide +kernel

/-- R183: Pass Allowed is no, so the frame is dropped. -/
theorem test_kioskPass : left (exec (.kioskPass 6 1 [5]) scene) (fun t => t.uplink.upwardPass) = some [] := by decide +kernel

/-- R184: with Pass Allowed yes it joins the downward buffer. -/
theorem test_uplinkPass : left (exec (.uplinkPass 6 1 [5]) (scene.setPort 6 { scene.port 6 with passAllowed := true }))
    (fun t => (t.port 6).downPass) = some [{ tag := 1, payload := [5] }] := by decide +kernel

/-- R185: a MGMT envelope of Port 3 is discarded. -/
theorem test_discarded : left (exec (.uplinkEnvelopeDiscarded 0x89C2 true [3, 0x70, 1, 0, 1, 0x10]) scene)
    (fun t => t.uplink.replies) = some [] := by decide +kernel

/-- R186: a reply goes before a notice. -/
theorem test_uplinkFrameStart : left (exec .uplinkFrameStart { scene with uplink := { scene.uplink with
      replies := [{ tag := 4, payload := [0x20, 0] }] } }) (fun t => t.uplink.sending.map (·.frame.envelope.wire))
    = some (some [255, 0x70, 4, 0, 2, 0x20, 0]) := by decide +kernel

/-- R186: the reply leaves when sent. -/
theorem test_uplinkFrameEnd : left (exec .uplinkFrameEnd { scene with uplink := { scene.uplink with
      replies := [{ tag := 4, payload := [0x20, 0] }]
      sending := some { source := .reply, frame := ownFrame (ownEnvelope 0x70 4 [0x20, 0]) } } }) (fun t => t.uplink.replies)
    = some [] := by decide +kernel

/-- R187. -/
theorem test_uplinkLinkDown : left (exec .uplinkLinkDown scene) (fun t => t.uplink.linkUp) = some false := by decide +kernel

/-- R187. -/
theorem test_uplinkLinkUp : left (exec .uplinkLinkUp (State.reset.start)) (fun t => t.uplink.linkUp) = some true := by
  decide +kernel

/-- R200: 0xFF is in no row. -/
theorem test_unknownCommand : told (exec (.unknownCommand 1 [0xFF, 1]) scene) = some [0xFF, 0x02] := by decide +kernel

/-- R180: refused BAD_STATE unless DISABLED. -/
theorem test_configurePort : told (exec (.configurePort 1 [9, 2, 3, 1]) scene) = some [0x90, 0x00, 2, 3, 1]
    ∧ told (exec (.configurePort 1 [6, 2, 3, 1]) scene) = some [0x90, 0x03] := by decide +kernel

/-- R178. -/
theorem test_enablePort : told (exec (.enablePort 1 [9]) scene) = some [0x91, 0x00, 1, 0] := by decide +kernel

/-- R178: the Error Count stays. -/
theorem test_disablePort : told (exec (.disablePort 1 [10]) scene) = some [0x92, 0x00, 0, 130] := by decide +kernel

/-- R178: KEEP leaves 130. -/
theorem test_restorePort : told (exec (.restorePort 1 [10, 1]) scene) = some [0x93, 0x00, 1, 130] := by decide +kernel

/-- R180. -/
theorem test_clearErrorCode : told (exec (.clearErrorCode 1 [6]) scene) = some [0x94, 0x00, 0] := by decide +kernel

/-- R180: ACTIVE, COUNTER, level 0, no pass, no errors, nothing queued, uplink UP. -/
theorem test_readPort : told (exec (.readPort 1 [7]) scene) = some [0x95, 0x00, 1, 1, 0, 0, 0, 0, 0, 0, 0, 0, 1] := by
  decide +kernel

/-- R174: the receiver takes runs once line idle is found. -/
theorem test_lineIdle : left (exec (.lineIdle 6) (scene.setPort 6 { scene.port 6 with awaitingIdle := true }))
    (fun t => t.takesFrames 6) = some true := by decide +kernel

/-! ## Foyer control -/

/-- R192: conditions 2 and 4 fail. -/
theorem test_openFoyer : told (exec (.openFoyer 1 []) { foyerIn .closed with
      vouchers := { scene.vouchers with serialLoaded := false }
      control := { (foyerIn .closed).control with clockSet := false } }) = some [0xA0, 0x03, 2, 2, 4]
    ∧ told (exec (.openFoyer 1 []) (foyerIn .closed)) = some [0xA0, 0x00, 2] := by decide +kernel

/-- R193. -/
theorem test_closeFoyer : told (exec (.closeFoyer 1 []) scene) = some [0xA1, 0x00, 1] := by decide +kernel

/-- R194: an ACTIVE entry refuses it BUSY. -/
theorem test_night_busy : told (exec (.night 1 []) (foyerIn .closed)) = some [0xA2, 0x04] := by decide +kernel

/-- The foyer CLOSED with a LOST entry only. -/
def evening : State := { foyerIn .closed with relay := { scene.relay with entries := [entry10] } }

/-- R194: no seat stays HELD, the LOST entry's seat stays PENDING, and the tick stops. -/
theorem test_night : left (exec (.night 1 []) evening)
    (fun t => ((t.seatAt 0 3).state, (t.seatAt 0 6).state, t.control.tickRunning, t.control.foyer))
    = some (.free, .pending 10 true, false, .night) := by decide +kernel

/-- R193. -/
theorem test_wake : told (exec (.wake 1 []) (foyerIn .night)) = some [0xA3, 0x00, 1] := by decide +kernel

/-- R199: the reply waits while the link is UP. -/
theorem test_restart : told (exec (.restart 1 []) scene) = some [0xA4, 0x00] := by decide +kernel

/-- R199: Identify begins with 1640 and, after the revision, OPEN and the Site Lock. -/
theorem test_identify : (told (exec (.identify 1 []) scene)).map (fun b => (b.take 4, b.drop 5))
    = some ([0xA5, 0x00, 6, 104], [2, 1, 0]) := by decide +kernel

/-- R199. -/
theorem test_readFoyerStatus : (told (exec (.readFoyerStatus 1 []) scene)).map (·.take 12)
    = some [0xA6, 0x00, 2, 1, 1, 1, 1, 0, 10, 0, 14, 16] := by decide +kernel

/-- R195: 86,399 is the last second; the reply gives the day before. -/
theorem test_setClock : told (exec (.setClock 1 (u16 20 ++ u24 86399)) scene) = some ([0xA7, 0x00] ++ u16 20 ++ u24 86399 ++ u16 10)
    ∧ told (exec (.setClock 1 (u16 20 ++ u24 86400)) scene) = some [0xA7, 0x02] := by decide +kernel

/-- R197: refused while OPEN. -/
theorem test_loadCounters : told (exec (.loadCounters 1 (u32 5 ++ u24 6)) scene) = some [0xA9, 0x03]
    ∧ told (exec (.loadCounters 1 (u32 5 ++ u24 6)) (foyerIn .closed)) = some ([0xA9, 0x00] ++ u32 5 ++ u24 6) := by decide +kernel

/-- R202: a disabled kind raises nothing. -/
theorem test_setNoticeEnables : left (exec (.setNoticeEnables 1 ([1] ++ List.replicate 10 1 ++ [0])) scene)
    (fun t => (t.control.enables.storeDone, t.control.enables.voucherLow)) = some (true, false) := by decide +kernel

/-- R195, R34: the clock and the leases; the lease of 1 s reaches 0 and its seat returns to HOUSE. -/
theorem test_tick : left (exec .tick scene) (fun t => (t.control.seconds, (t.seatAt 0 3).state, (t.seatAt 0 4).state,
    (t.basket 6).seatLines.map (·.seat), t.relay.entries.map (·.state)))
    = some (3601, .held 6 11 false, .house, [3], [.active 39, .lost]) := by decide +kernel

/-- R195: 86,399 is followed by 0 with the Day Number unchanged. -/
theorem test_tick_midnight : left (exec .tick { State.reset.start with control := { State.reset.start.control with
      day := 4, seconds := 86399 } }) (fun t => (t.control.day, t.control.seconds)) = some (4, 0) := by decide +kernel

/-- R198: everything but the store is as after reset, and nothing runs. -/
theorem test_powerOn : left (exec .powerOn scene) (fun t => (decide (t.seats = SeatTable.reset), t.store.siteLock, t.control.running))
    = some (true, true, false) := by decide +kernel

/-- R190, R198: a reset by the line is reported LINE in START, code 2. -/
theorem test_resetInput : (left (exec .resetInputAsserted scene) id).bind (fun t =>
      left (exec .resetInputReleased t) (fun u => u.control.notices.map (·.content))) = some [[2, 0, 0, 0, 1]] := by decide +kernel

/-- R168: a reset at the input cuts off an erase, and Write Aborted says so. -/
theorem test_reset_aborts : left (exec .resetInputAsserted { scene with store := { scene.store with
      operation := some (.eraseSector 4) } }) (fun t => (t.store.writeAborted, t.store.operation, t.store.byte 20480))
    = some (some { kind := 1, sector := some 4 }, none, 0xFF) := by decide +kernel

/-- R198: START of a power-on, whatever the enables. -/
theorem test_startUp : left (exec .startUp State.reset) (fun t => (t.control.notices.map (·.content), t.control.tickRunning))
    = some ([[1, 0, 0, 0, 0]], true) := by decide +kernel

/-- R190. -/
theorem test_keyInputChange : left (exec (.keyInputChange true) scene) (fun t => t.control.keyActive) = some true := by
  decide +kernel

/-! ## Witnesses

For each statement with premises, states and operands that meet them together, clause by clause. -/

/-- The empty queue. -/
theorem witness_StepRunsFrontCommand : scene.pending = [] := rfl

theorem witness_ResetsTakeEveryBlock : scene.control.resetLow = false
    ∧ ({ scene with control := { scene.control with resetLow := true } } : State).control.resetLow = true := by decide +kernel

/-- An erase in progress, and the bytes at both ends of the sectors beside its own. -/
def erasing : State := { scene with store := { scene.store with operation := some (.eraseSector 4) } }

theorem witness_StoreAfterEveryReset : scene.store.operation = none
    ∧ erasing.store.operation = some (.eraseSector 4)
    ∧ (StoreOp.eraseSector 4).works 3 = false ∧ 16383 / 4096 = (3 : SectorNo).val
    ∧ (StoreOp.eraseSector 4).works 5 = false ∧ 20480 / 4096 = (5 : SectorNo).val := by decide +kernel

theorem witness_StartUpAndRestart_startUp : State.reset.control.running = false ∧ State.reset.control.notices = []
    ∧ State.reset.control.resetLow = false
    ∧ (let s : State := { State.reset with control := { State.reset.control with resetLow := true } }
       s.control.running = false ∧ s.control.notices = [] ∧ s.control.resetLow = true) := by decide +kernel

/-- The uplink DOWN. -/
def linkDown : State := { scene with uplink := { scene.uplink with linkUp := false } }

/-- Restart's reply being sent. -/
def restarting : State :=
  { scene with
    control := { scene.control with restartPending := true }
    uplink := { scene.uplink with
      replies := [{ tag := 4, payload := [0xA4, 0] }]
      sending := some { source := .reply, frame := ownFrame (ownEnvelope 0x70 4 [0xA4, 0]) } } }

theorem witness_StartUpAndRestart_restart :
    (scene.takesCommand (some .restart) = true ∧ scene.uplink.linkUp = true)
    ∧ (linkDown.takesCommand (some .restart) = true ∧ linkDown.uplink.linkUp = false)
    ∧ (restarting.control.restartPending = true
      ∧ restarting.uplink.sending = some { source := .reply, frame := ownFrame (ownEnvelope 0x70 4 [0xA4, 0]) }
      ∧ restarting.uplink.replies.length = 1) := by decide +kernel

/-- Show 31 takes the last address of the pool, show 0 the first 20: neither meets the range 20 to 32,766. -/
def lastShow : State := scene.setShow 31 { show0 with seatBase := 32767, seatCount := 1 }

theorem witness_DefineShowWritesItsRange : lastShow.takesCommand (some .defineShow) = true ∧ (lastShow.showAt 5).state = .empty
    ∧ 1 ≤ 1024 ∧ 31743 + 1024 ≤ 32768 ∧ 16777215 < 16777216 ∧ 65535 < 65536 ∧ 86399 ≤ 86399 ∧ 7 ≤ 7
    ∧ (List.replicate 32 (0x7E : Byte)).length ≤ 32 ∧ printable (List.replicate 32 0x7E) = true
    ∧ (∀ j, (lastShow.showAt j).state ≠ .empty → 31743 + 1024 ≤ (lastShow.showAt j).seatBase
      ∨ (lastShow.showAt j).seatBase + (lastShow.showAt j).seatCount ≤ 31743) := by decide +kernel

/-- A seat that Load Seats can carry. -/
def loaded (st : SeatState) : Seat := { zone := 3, rowLabel := [0x41, 0x42], number := 255, state := st }

theorem witness_LoadSeatsWritesRecords : (showIn .loading).takesCommand (some .loadSeats) = true ∧ handle0.generation < 256
    ∧ ((showIn .loading).showAt handle0.index).generation = handle0.generation
    ∧ ((showIn .loading).showAt handle0.index).state = .loading
    ∧ (∀ x ∈ [loaded .free, loaded .house, loaded (.sold 0 0)], 1 ≤ x.rowLabel.length ∧ x.rowLabel.length ≤ 2
      ∧ printable x.rowLabel = true ∧ 1 ≤ x.number ∧ x.number ≤ 255
      ∧ (x.state = .free ∨ x.state = .house ∨ x.state = .sold 0 0))
    ∧ 17 + 3 ≤ ((showIn .loading).showAt handle0.index).seatCount := by decide +kernel

theorem witness_ShowsOpenCloseAndGo :
    ((showIn .loading).takesCommand (some .openShow) = true ∧ ((showIn .loading).showAt 0).state = .loading
      ∧ ((showIn .loading).showAt 0).generation = handle0.generation)
    ∧ (scene.takesCommand (some .closeShow) = true ∧ (scene.showAt 0).state = .onSale)
    ∧ (showEnded.takesCommand (some .removeShow) = true ∧ (showEnded.showAt 0).state = .closed
      ∧ (showEnded.showAt 0).generation = 15 ∧ (showEnded.showAt 0).counts.held = 0 ∧ (showEnded.showAt 0).counts.pending = 0) := by
  decide +kernel

theorem witness_SeatsMarkedByManagement : (scene.showAt 0).generation = handle0.generation
    ∧ scene.takesCommand (some .setSeat) = true ∧ (scene.showAt 0).state ≠ .empty
    ∧ ((scene.seatAt 0 0).state = .free) ∧ (19 < (scene.showAt 0).seatCount ∧ (scene.seatAt 0 19).state = .house)
    ∧ scene.takesCommand (some .markSold) = true ∧ (scene.showAt 0).state = .onSale ∧ ((showIn .closed).showAt 0).state = .closed
    ∧ noRepeat [0, 19] = true ∧ (∀ k ∈ [0, 19], k < (scene.showAt 0).seatCount ∧ k < 65536
        ∧ ((scene.seatAt 0 k).state = .free ∨ (scene.seatAt 0 k).state = .house)) := by decide +kernel

/-- Where the only show is show 0 no two meet. -/
theorem scene_disjoint : scene.disjointShows := by
  have h : ∀ i : ShowNo, i ≠ 0 → (scene.showAt i).state = .empty := by decide +kernel
  intro i j hij hi hj
  by_cases h0 : i = 0
  · exact absurd (h j fun e => hij (h0.trans e.symm)) hj
  · exact absurd (h i h0) hi

theorem witness_HeldSeatsLeaveTheirBaskets :
    ((scene.showAt 0).generation = handle0.generation ∧ (scene.showAt 0).state ≠ .empty
      ∧ scene.takesCommand (some .releaseBlock) = true ∧ 16 * 1 < (scene.showAt 0).seatCount)
    ∧ (scene.control.running = true ∧ scene.disjointShows) :=
  ⟨by decide +kernel, by decide +kernel, scene_disjoint⟩

/-- HOLD of the lists that follow meets its list check. -/
theorem witness_goodSeatList : (∀ ks ∈ [[0, 3], [3], [0, 5, 2], [1023], [19, 20], [0, 1, 2, 5, 6, 7, 8, 9, 19],
    [0, 1, 2, 3, 4, 5, 6, 7, 8, 9]], 1 ≤ ks.length ∧ ks.length ≤ 10 ∧ noRepeat ks = true ∧ ∀ k ∈ ks, k < 65536) := by decide +kernel

/-- Port 6's basket as a request finds it. -/
def payFinds (b : Basket) : State := { scene with baskets := scene.baskets.set 6 b }

theorem witness_HoldTakesSeats : scene.hears 6 = true ∧ scene.control.foyer = .opened ∧ (scene.port 6).role ≠ .counter
    ∧ scene.holdCheck 6 handle0 [0, 3] = none ∧ scene.holdFailures 6 0 [0, 3] = []
    ∧ [0, 3].filter (scene.isNew 6 0) = [0] := by decide +kernel

theorem witness_HoldIsAllOrNone : scene.hears 6 = true ∧ scene.control.foyer = .opened ∧ (scene.port 6).role ≠ .counter
    ∧ ((foyerIn .closed).hears 6 = true ∧ (foyerIn .closed).control.foyer = .closed)
    ∧ ((showIn .closed).hears 6 = true ∧ ((showIn .closed).showAt 0).state ≠ .onSale)
    ∧ (scene.showAt 0).state = .onSale ∧ (scene.showAt 0).generation = handle0.generation ∧ (scene.showAt 0).generation ≠ 255
    ∧ ((scene.showAt 0).seatCount ≤ 20 ∧ 19 < (scene.showAt 0).seatCount)
    ∧ (scene.hears 11 = true ∧ (scene.port 11).role ≠ .counter ∧ (scene.basket 11).state = .authorising)
    ∧ (let s := payFinds { basket6 with handle := { index := 1, generation := 0 } }
       s.hears 6 = true ∧ (s.basket 6).seatLines ≠ [] ∧ (s.basket 6).handle ≠ handle0)
    ∧ ((scene.basket 6).handle = handle0 ∧ (scene.basket 6).seatLines.length = 2
      ∧ (∀ k ∈ [0, 1, 2, 5, 6, 7, 8, 9, 19], (scene.seatAt 0 k).state.heldBy 6 = false)
      ∧ 10 < 2 + [0, 1, 2, 5, 6, 7, 8, 9, 19].length ∧ scene.holdCheck 6 handle0 [0, 1, 2, 5, 6, 7, 8, 19] = none)
    ∧ (scene.holdCheck 6 handle0 [0, 5, 2] = none ∧ scene.holdFailures 6 0 [0, 5, 2] = [(5, .taken), (2, .houseOnly)])
    ∧ (scene.holdCheck 6 handle0 [3] = none ∧ scene.holdFailures 6 0 [3] = [] ∧ ∀ k ∈ [3], scene.isNew 6 0 k = false) := by
  decide +kernel

theorem witness_ReleaseReturnsSeats : scene.hears 6 = true ∧ scene.control.foyer ≠ .unconfigured
    ∧ (scene.port 6).role ≠ .counter ∧ (scene.basket 6).state ≠ .authorising
    ∧ [1023].filter (scene.basket 6).hasSeat = [] ∧ [0, 3].filter (scene.basket 6).hasSeat ≠ [] := by decide +kernel

/-- Every reading command is taken in the scene (`scene_takes`); what the others of their premises ask. -/
theorem witness_ReadersReportAndChangeNothing :
    ((scene.showAt 0).generation = handle0.generation ∧ (scene.showAt 0).state ≠ .empty ∧ 0 + 20 ≤ (scene.showAt 0).seatCount
      ∧ 20 + 0 ≤ (scene.showAt 0).seatCount)
    ∧ (scene.hears 6 = true ∧ scene.control.foyer ≠ .unconfigured ∧ (scene.port 6).role ≠ .counter
      ∧ (scene.showAt 0).state = .onSale ∧ 19 + 1 ≤ (scene.showAt 0).seatCount)
    ∧ (readPricesArgs [1, 2, 31, 1] = some (true, .combos 31 1) ∧ PriceSection.inRange (.combos 31 1) = true)
    ∧ ((readPricesArgs [0, 4]).isNone ∧ readPricesArgs [0, 2, 31, 2] = some (false, .combos 31 2)
      ∧ PriceSection.inRange (.combos 31 2) = false)
    ∧ ((readPrintSection [3]).isNone ∧ (32 < 32 + 1 ∧ 32 < 31 + 2) ∧ (64 < 64 + 1 ∧ 64 < 63 + 2))
    ∧ (0 + 8 ≤ 24 ∧ 23 + 1 ≤ 24) ∧ (scene.slotOf 501 = some (1, scene.slotAt 1)) ∧ 31 + 1 ≤ 32 ∧ 63 + 1 ≤ 64
    ∧ (scene.store.operation = none ∧ 131071 + 1 ≤ 131072)
    ∧ (erasing.takesCommand (some .readStore) = true ∧ erasing.store.operation = some (.eraseSector 4)
      ∧ ∀ k ∈ touched 20480 200, (StoreOp.eraseSector 4).works k = false) := by decide +kernel

theorem witness_BasketLineEdits : scene.hears 6 = true ∧ (scene.port 6).role ≠ .counter ∧ (scene.basket 6).state ≠ .authorising
    ∧ scene.control.foyer = .opened
    ∧ ((scene.basket 6).lineOf 3 = some { seat := 3, ticketType := 0 } ∧ (scene.prices.live.types[(7 : Fin 8)]).valid = true
      ∧ (scene.prices.live.types[(7 : Fin 8)]).boxOfficeOnly = false ∧ (0 : Fin 8) ≠ 7)
    ∧ ((scene.prices.live.combos[(4 : Fin 32)]).valid = true ∧ (scene.basket 6).combos.length < 6)
    ∧ (0 ≤ 5 ∧ (scene.basket 6).combos[0]? = some 4) := by decide +kernel

/-- Day 14, the Expiry Day of voucher 506. -/
def lastDay : State := { scene with control := { scene.control with day := 14 } }

theorem witness_CreditClaimsFollowTheBasket : lastDay.hears 6 = true ∧ (lastDay.port 6).role ≠ .counter
    ∧ (lastDay.basket 6).state ≠ .authorising ∧ lastDay.control.foyer = .opened
    ∧ (506 ∉ (lastDay.basket 6).claims ∧ (lastDay.basket 6).claims.length < 2
      ∧ lastDay.slotOf 506 = some (6, .issued { serial := 506, kind := .credit 300, issuingSale := 0, expiryDay := 14 })
      ∧ lastDay.control.day ≤ 14)
    ∧ (500 ∈ (lastDay.basket 6).claims ∧ lastDay.slotOf 500
      = some (0, .claimed { serial := 500, kind := .credit 500, issuingSale := 0, expiryDay := 65535 } (.port 6))) := by
  decide +kernel

theorem witness_CancelVoidsTheBasket : scene.hears 6 = true ∧ scene.control.foyer ≠ .unconfigured
    ∧ (scene.port 6).role ≠ .counter ∧ (scene.basket 6).state ≠ .authorising := by decide +kernel

/-- Port 6 with this entry at the top of its Undo Stack. -/
def undoing (e : UndoEntry) : State := payFinds { basket6 with undo := [e, .addCombo 0] }

/-- The RELEASE of two seats, FREE and HOUSE, as an entry of it. -/
def released02 : UndoEntry := .release handle0 [{ seat := 0, ticketType := 1 }, { seat := 2, ticketType := 0 }]

theorem witness_UndoPopsItsEntry :
    (∀ e ∈ [UndoEntry.hold handle0 [3, 9], released02, .setType 3 7, .setType 9 7, .addCombo 0, .addCombo 1, .removeCombo 5 1,
        .applyCredit 500, .applyCredit 506, .removeCredit 506, .removeCredit 505],
      (undoing e).hears 6 = true ∧ (undoing e).control.foyer = .opened ∧ ((undoing e).port 6).role ≠ .counter
      ∧ ((undoing e).basket 6).state ≠ .authorising ∧ ((undoing e).basket 6).undo = [e, .addCombo 0])
    ∧ (∀ e ∈ [released02, .removeCombo 5 1, .removeCredit 506],
      let s : State := { undoing e with control := (foyerIn .closed).control }
      s.hears 6 = true ∧ s.control.foyer = .closed ∧ (s.basket 6).undo = [e, .addCombo 0])
    ∧ ((scene.showAt 0).state = .onSale ∧ (scene.showAt 0).generation = handle0.generation ∧ ([0, 2] : List Nat).Nodup)
    ∧ (let s := (undoing released02).setShow 0 { show0 with state := .closed }
       s.hears 6 = true ∧ (s.basket 6).undo = [released02, .addCombo 0] ∧ (s.showAt 0).state ≠ .onSale)
    ∧ (let s := (undoing released02).setShow 0 { show0 with generation := 4 }
       s.hears 6 = true ∧ (s.showAt 0).state = .onSale ∧ (s.showAt 0).generation ≠ handle0.generation)
    ∧ (let s := payFinds { basket6 with handle := { index := 1, generation := 0 }, undo := [released02] }
       s.hears 6 = true ∧ (s.basket 6).undo = [released02] ∧ (s.basket 6).seatLines ≠ [] ∧ (s.basket 6).handle ≠ handle0)
    ∧ (basket6.hasSeat 3 = true ∧ basket6.hasSeat 9 = false) ∧ (0 < basket6.combos.length ∧ basket6.combos.length ≤ 1)
    ∧ basket6.combos.length < 6
    ∧ (let s := payFinds { basket6 with combos := List.replicate 6 4, undo := [.removeCombo 5 1] }
       s.hears 6 = true ∧ (s.basket 6).undo = [.removeCombo 5 1] ∧ 6 ≤ (s.basket 6).combos.length)
    ∧ (500 ∈ basket6.claims ∧ 506 ∉ basket6.claims) ∧ scene.slotOf 505 = none
    ∧ scene.slotOf 506 = some (6, .issued { serial := 506, kind := .credit 300, issuingSale := 0, expiryDay := 14 })
    ∧ ¬ 14 < scene.control.day := by decide +kernel

theorem witness_AuthorisingBasketIsFrozen : (scene.basket 11).state = .authorising
    ∧ left (runClass .hold 11 1 [0, 3, 1, 0, 0] scene) (fun t => (t.basket 11).state) = some .authorising := by decide +kernel

theorem witness_StageCommandsWriteTheStagedCopy : scene.takesCommand (some .stageBand) = true
    ∧ scene.takesCommand (some .stageTicketType) = true ∧ scene.takesCommand (some .stageCombo) = true
    ∧ scene.takesCommand (some .stageTax) = true ∧ scene.takesCommand (some .stageCeiling) = true
    ∧ printable (List.replicate 16 0x20) = true ∧ (31 < 32 ∧ 10 ≤ 10) ∧ (10 < 11 ∧ 32 ≤ 32) ∧ 1 ≤ 16777215 := by decide +kernel

theorem witness_CommitAndReloadCopyTheTables : scene.takesCommand (some .commitPrices) = true
    ∧ scene.takesCommand (some .reloadStaged) = true := by decide +kernel

/-- Port 6's basket with a combo line whose entry is not valid. -/
def invalidCombo : State := { scene with baskets := scene.baskets.set 6 { basket6 with combos := [4, 5] } }

theorem witness_PriceStoresTheSnapshot :
    (scene.hears 6 = true ∧ scene.control.foyer = .opened ∧ (scene.port 6).role ≠ .counter
      ∧ (scene.basket 6).state ≠ .authorising ∧ (scene.basket 6).seatLines ≠ []
      ∧ scene.failingSeats 6 basket6 ++ scene.failingCombos basket6 = [])
    ∧ (invalidCombo.hears 6 = true ∧ (invalidCombo.basket 6).seatLines ≠ []
      ∧ invalidCombo.failingSeats 6 (invalidCombo.basket 6) ++ invalidCombo.failingCombos (invalidCombo.basket 6)
        = [(2, 1, .badCombo)]) := by decide +kernel

/-- The tables of spec/04, section 4.5 are in range. -/
theorem live_inRange : live0.InRange := by constructor <;> decide +kernel

theorem witness_LineAmountsRoundHalfUp : scene.prices.live.InRange ∧ basket6.seatLines.length ≤ 10 ∧ basket6.combos.length ≤ 6
    ∧ (scene.showAt 0).surcharge ≤ 4095 ∧ ∀ l ∈ basket6.seatLines, scene.basePrice 0 l.seat ≠ notSold :=
  ⟨live_inRange, by decide +kernel⟩

theorem witness_CreditsAndTaxesOfASnapshot : scene.prices.live.InRange := live_inRange

theorem witness_PayAcceptedReservesAndPends :
    let s := pricedScene 2500
    s.hears 6 = true ∧ s.control.foyer = .opened ∧ (s.port 6).role ≠ .counter ∧ 1 ≤ [(0x31 : Byte)].length
    ∧ (List.replicate 64 (0x31 : Byte)).length ≤ 64 ∧ (s.basket 6).state = .priced
    ∧ (s.basket 6).snapshot = some (snapshotOfNet 2500) ∧ 0 < (snapshotOfNet 2500).net
    ∧ (snapshotOfNet 2500).generation = s.prices.generation ∧ s.current (s.basket 6).handle = true
    ∧ (s.showAt (s.basket 6).handle.index).state = .onSale ∧ (snapshotOfNet 2500).overLimit = false
    ∧ s.relay.gatewayHold = false ∧ s.uplink.linkUp = true ∧ s.relay.entries.length < 24
    ∧ s.vouchers.reservation + (s.basket 6).combos.length ≤ s.vouchers.freeSlots := by decide +kernel

/-- Its snapshot over the ceiling. -/
def overCeiling : Snapshot := { snapshotOfNet 300000 with overLimit := true }

/-- All slots reserved but two. -/
def almostReserved (net : Nat) : State := { pricedScene net with vouchers := { vouchers0 with reservation := 4090 } }

theorem witness_PayRefusals :
    ((foyerIn .unconfigured).hears 6 = true ∧ scene.hears 7 = true ∧ (scene.port 7).role = .counter
      ∧ (List.replicate 65 (0x31 : Byte)).length > 64 ∧ (foyerIn .closed).hears 6 = true)
    ∧ (scene.hears 11 = true ∧ (scene.basket 11).state = .authorising)
    ∧ (let s := payFinds { basket6 with lapsed := true }
       s.hears 6 = true ∧ (s.basket 6).state = .building ∧ (s.basket 6).lapsed = true)
    ∧ ((scene.basket 8).state = .empty ∧ scene.hears 8 = true ∧ basket6.state = .building ∧ basket6.lapsed = false)
    ∧ (let s : State := { pricedScene 2500 with prices := { scene.prices with generation := 18 } }
       s.hears 6 = true ∧ (s.basket 6).snapshot = some (snapshotOfNet 2500) ∧ (snapshotOfNet 2500).generation ≠ s.prices.generation)
    ∧ (let s := (pricedScene 2500).setShow 0 { show0 with state := .closed }
       s.hears 6 = true ∧ (s.basket 6).state = .priced ∧ (s.showAt (s.basket 6).handle.index).state ≠ .onSale)
    ∧ (let s := payFinds { basket6 with state := .priced, snapshot := some overCeiling }
       s.hears 6 = true ∧ s.current (s.basket 6).handle = true ∧ overCeiling.overLimit = true
       ∧ overCeiling.generation = s.prices.generation)
    ∧ (let s : State := { pricedScene 1 with relay := { scene.relay with gatewayHold := true } }
       s.hears 6 = true ∧ (snapshotOfNet 1).overLimit = false ∧ 0 < (snapshotOfNet 1).net ∧ s.relay.gatewayHold = true)
    ∧ (let s : State := { pricedScene 1 with uplink := { scene.uplink with linkUp := false } }
       s.hears 6 = true ∧ s.relay.gatewayHold = false ∧ s.uplink.linkUp = false)
    ∧ (let s : State := { pricedScene 1 with relay := { scene.relay with entries := List.replicate 24 entry9 } }
       s.hears 6 = true ∧ 24 ≤ s.relay.entries.length)
    ∧ ((almostReserved 1).hears 6 = true ∧ (almostReserved 1).relay.entries.length < 24
      ∧ (almostReserved 1).vouchers.freeSlots < 4090 + basket6.combos.length ∧ (snapshotOfNet 0).net = 0) := by decide +kernel

theorem scene_canonical : scene.Canonical := by constructor <;> decide +kernel

/-- The Serial Index of the scene is the exact map of its vouchers. -/
theorem scene_index (serial n : Nat) : scene.indexed serial = some n ↔ ∃ v, (scene.slotAt n).voucher = some v ∧ v.serial = serial := by
  have listed : ∀ c ∈ scene.vouchers.index, ∀ m, c.2 = some m → ((scene.slotAt m).voucher.map (·.serial)) = some c.1 := by
    decide +kernel
  have held : ∀ c ∈ scene.vouchers.slots, ∀ v, c.2.voucher = some v → scene.indexed v.serial = some c.1 := by decide +kernel
  constructor
  · intro h
    have hne : Sparse.get noSlot scene.vouchers.index serial ≠ noSlot serial := by
      change scene.indexed serial ≠ _
      rw [h]
      simp [noSlot]
    have hm := listed _ (Sparse.listed_of_get_ne hne) n h
    obtain ⟨v, hv, hs⟩ := Option.map_eq_some_iff.1 hm
    exact ⟨v, hv, hs⟩
  · rintro ⟨v, hv, rfl⟩
    have hne : Sparse.get freeSlot scene.vouchers.slots n ≠ freeSlot n := by
      intro e
      have : scene.slotAt n = freeSlot n := e
      rw [this] at hv
      simp [freeSlot, Slot.voucher] at hv
    exact held _ (Sparse.listed_of_get_ne hne) v hv

theorem scene_relaySound : scene.RelaySound := by
  constructor
  case index => exact scene_index
  all_goals decide +kernel

/-- The sale of port 6's basket at a Net of 0. -/
def sale6 : Sale :=
  { origin := 6, handle := handle0, seatLines := (snapshotOfNet 0).seats, combos := [4], claims := [500], net := 0, ticketTax := 0
    snackTax := 0, reservation := 0 }

theorem witness_CompletionOfASale : scene.Canonical ∧ scene.RelaySound ∧ scene.vouchers.used + sale6.combos.length ≤ 4096
    ∧ scene.vouchers.serialCounter ≤ 16777215 ∧ sale6.combos = [4]
    ∧ (scene.completeSale sale6 []).2.2 = [505] ∧ (scene.completeSale { sale6 with combos := [] } []).2.2 = []
    ∧ 506 ∉ sale6.claims ∧ scene.slotAt 7 = .free
    ∧ 500 ∈ sale6.claims ∧ scene.slotOf 500
      = some (0, .claimed { serial := 500, kind := .credit 500, issuingSale := 0, expiryDay := 65535 } (.port 6)) :=
  ⟨scene_canonical, scene_relaySound, by decide +kernel⟩

/-- A state with numbers of jobs queued and of entries owed. -/
def crowded (s : State) (jobs owed : Nat) : State :=
  { s with print := { s.print with
      jobs := List.replicate jobs job8
      owed := List.replicate owed { sale := 60, origin := 6, reason := .late, docs := [ticketDoc 0] } } }

theorem witness_ZeroTotalSaleCompletes : ∀ n ∈ [(31, 64), (32, 63), (32, 64)],
    let s := crowded (pricedScene 0) n.1 n.2
    s.print.jobs.length = n.1 ∧ s.print.owed.length = n.2
    ∧ s.hears 6 = true ∧ s.control.foyer = .opened ∧ (s.port 6).role ≠ .counter ∧ (s.basket 6).state = .priced
    ∧ (s.basket 6).snapshot = some (snapshotOfNet 0) ∧ (snapshotOfNet 0).net = 0
    ∧ (snapshotOfNet 0).generation = s.prices.generation ∧ s.current (s.basket 6).handle = true
    ∧ (s.showAt (s.basket 6).handle.index).state = .onSale ∧ (snapshotOfNet 0).overLimit = false
    ∧ s.vouchers.reservation + (s.basket 6).combos.length ≤ s.vouchers.freeSlots
    ∧ (snapshotOfNet 0).seats ≠ [] ∧ (s.basket 6).combos ≠ [] := by decide +kernel

theorem witness_ApprovalSellsTheSeats : entry9.tag < 65536 ∧ entry9.state = .active 40
    ∧ (List.replicate 8 (0x7E : Byte)).length ≤ 8 ∧ printable (List.replicate 8 0x7E) = true
    ∧ ∀ n ∈ [(31, 64), (32, 63), (32, 64)], (crowded scene n.1 n.2).takesUplink = true
      ∧ (crowded scene n.1 n.2).entryTagged entry9.tag = some entry9
      ∧ (crowded scene n.1 n.2).print.jobs.length = n.1 ∧ (crowded scene n.1 n.2).print.owed.length = n.2 := by decide +kernel

/-- Port 11 no longer ACTIVE, its authorisation still so. -/
def originGone : State := scene.setPort 11 { scene.port 11 with state := .disabled, kept := none }

theorem witness_DeclineReturnsTheSeats :
    (scene.takesUplink = true ∧ scene.entryTagged 9 = some entry9 ∧ (scene.port 11).state = .active ∧ (scene.port 11).role ≠ .counter
      ∧ (List.replicate 8 (0x7E : Byte)).length ≤ 8 ∧ printable (List.replicate 8 0x7E) = true)
    ∧ (originGone.takesUplink = true ∧ originGone.entryTagged 9 = some entry9 ∧ (originGone.port 11).state ≠ .active) := by
  decide +kernel

theorem witness_LateResultsSettleLostEntries : scene.takesUplink = true ∧ scene.entryTagged 10 = some entry10
    ∧ entry10.state = .lost ∧ scene.takesCommand (some .reconcile) = true ∧ scene.print.owed.length < 64
    ∧ ((crowded scene 0 64).entryTagged 10 = some entry10 ∧ 64 ≤ (crowded scene 0 64).print.owed.length) ∧ scene.entryTagged 65535 = none
    ∧ (foyerIn .night).takesUplink = false ∧ ([0, 9, 0x50] : Bytes).length < 4
    ∧ (∀ b ∈ [[0, 9, 0x50, 1], [0, 9, 0x50, 0, 0x41]], (b : Bytes).length ≠ 4 + (b.getD 3 0).toNat)
    ∧ ([0, 9, 0x53, 0] : Bytes).getD 2 0 ∉ [0x50, 0x51, 0x52] ∧ 8 < (9 : Byte).toNat ∧ 0x7E < (0x7F : Byte).toNat := by
  decide +kernel

theorem witness_TimeoutLosesTheEntry : timedScene.control.running = true ∧ (timedScene.relay.entries.map (·.tag)).Nodup
    ∧ timedScene.relay.entries.filter (fun e => decide (e.state = .active 0)) = [{ entry9 with state := .active 0 }]
    ∧ scene.control.running = true ∧ (scene.relay.entries.map (·.tag)).Nodup ∧ ∀ e ∈ scene.relay.entries, e.state ≠ .active 0 := by
  decide +kernel

theorem witness_RedeemStampsTheVoucher : scene.hears 7 = true ∧ scene.control.foyer ≠ .unconfigured
    ∧ (scene.port 7).role = .counter ∧ scene.indexed 16777215 = none
    ∧ (scene.indexed 503 = some 3 ∧ (scene.slotAt 3).code = 3) ∧ (scene.indexed 504 = some 4 ∧ (scene.slotAt 4).code = 4)
    ∧ (scene.indexed 500 = some 0 ∧ (scene.slotAt 0).code = 2)
    ∧ (scene.indexed 502 = some 2 ∧ scene.slotAt 2 = .issued { serial := 502, kind := .credit 700, issuingSale := 0, expiryDay := 9 })
    ∧ (scene.indexed 501 = some 1 ∧ scene.slotAt 1 = .issued { serial := 501, kind := .snack 4, issuingSale := 90, expiryDay := 14 })
    ∧ (let late : State := { scene with control := { scene.control with day := 15 } }
       late.hears 7 = true ∧ late.indexed 501 = some 1 ∧ 14 < late.control.day)
    ∧ (let last : State := { scene with control := { scene.control with day := 14 } }
       last.hears 7 = true ∧ last.indexed 501 = some 1 ∧ last.control.day ≤ 14) := by decide +kernel

theorem witness_VouchersIssuedAndVoided : scene.takesCommand (some .issueCredit) = true ∧ scene.vouchers.serialLoaded = true
    ∧ 1 ≤ scene.vouchers.available ∧ scene.vouchers.index.length ≤ 4096 ∧ scene.vouchers.serialCounter ≤ 16777215
    ∧ scene.indexed 505 = none
    ∧ ({ scene with vouchers := { vouchers0 with serialCounter := 16777215 } } : State).vouchers.serialCounter ≤ 16777215
    ∧ scene.takesCommand (some .voidVoucher) = true ∧ (scene.slotOf 501 = some (1, scene.slotAt 1) ∧ (scene.slotAt 1).code = 1)
    ∧ (scene.slotOf 500 = some (0, scene.slotAt 0) ∧ (scene.slotAt 0).code = 2) ∧ scene.indexed 1 = none := by decide +kernel

theorem witness_DayRollReclaimsSlots : scene.takesCommand (some .dayRoll) = true ∧ scene.Canonical ∧ 10 ≤ scene.control.day
    ∧ scene.control.day < 11 ∧ scene.control.day < 65535 :=
  ⟨by decide +kernel, scene_canonical, by decide +kernel⟩

/-- Job 7 at its last document. -/
def lastDocument : State := { printing (.await 3) with print := { (printing (.await 3)).print with jobs := [{ job7 with next := 1 }] } }

theorem witness_PrinterReportsDriveTheChannel : scene.takesFrames 6 = true ∧ 4 < (5 : Byte).toNat ∧ scene.channelFor 6 = none
    ∧ (∀ st ∈ [ChannelState.fetch, .send, .await 3, .paused 30], (printing st).takesFrames 6 = true
      ∧ (printing st).channelFor 6 = some 0 ∧ (printing st).jobOn 0 = some job7 ∧ ((printing st).channel 0).state = st)
    ∧ (job7.current = some (ticketDoc 0) ∧ (ticketDoc 0).index ≠ (1 : Byte).toNat ∧ (ticketDoc 0).index = (0 : Byte).toNat
      ∧ job7.next + 1 < job7.docs.length)
    ∧ (lastDocument.channelFor 6 = some 0 ∧ lastDocument.jobOn 0 = some { job7 with next := 1 }
      ∧ ({ job7 with next := 1 } : Job).current = some (ticketDoc 1) ∧ (ticketDoc 1).index = (1 : Byte).toNat
      ∧ ({ job7 with next := 1 } : Job).next + 1 = job7.docs.length) := by decide +kernel

theorem witness_FailedJobsOweTheirDocuments :
    (∀ st ∈ [ChannelState.await 0, .paused 0], (printing st).jobOn 0 = some job7 ∧ (printing st).control.running = true
      ∧ ((printing st).channel 0).state = st ∧ (printing st).control.enables.all = true
      ∧ (printing st).control.enables.printFailed = true ∧ (printing st).control.enables.owedAdded = true
      ∧ (printing st).control.notices.length ≤ 30)
    ∧ job7.work = .print false 55 6 6 [ticketDoc 0, ticketDoc 1] ∧ job7.current = some (ticketDoc 0) := by decide +kernel

/-- The store BUSY, two QUEUED jobs and a channel IDLE. -/
def waiting : State := { erasing with print := { erasing.print with jobs := [job8, { job8 with number := 9, work := .proof 2 }] } }

/-- The body "A" in sector 2 behind a header with this Kind and Body Length; 0xB915 is the CRC-16 of the one byte 0x41. -/
def templated (kind len : Byte) (s : State) : State :=
  { s with store := { s.store with
      cells := [(8192, kind), (8193, 0), (8194, len), (8195, 0xB9), (8196, 0x15), (8208, 0x41)] } }

/-- A proof of sector 2 RUNNING on channel 0. -/
def proofing : State := { printing .fetch with print := { (printing .fetch).print with jobs := [{ job7 with work := .proof 2 }] } }

theorem witness_ChannelsTakeTheHighestJob_arbiter : waiting.pickJob = some { job8 with number := 9, work := .proof 2 }
    ∧ ({ job8 with number := 9, work := .proof 2 } : Job).isProof = true ∧ waiting.idleChannel = some 0
    ∧ (let s : State := { waiting with print := { waiting.print with jobs := [{ job8 with work := .print false 56 8 8 [ticketDoc 0] }] } }
       (s.pickJob.map (·.isProof)) = some false)
    ∧ scene.pickJob = none ∧ job8.dest = some 9
    ∧ waiting.control.running = true ∧ waiting.store.operation = some (.eraseSector 4) ∧ scene.store.operation = none := by
  decide +kernel

theorem witness_ChannelsTakeTheHighestJob_fetch :
    ((printing .fetch).jobOn 0 = some job7 ∧ job7.isProof = false ∧ job7.current = some (ticketDoc 0) ∧ job7.dest = some 6
      ∧ (ticketDoc 0).template = 2)
    ∧ (proofing.jobOn 0 = some { job7 with work := .proof 2 })
    ∧ (let st := (templated 1 1 scene).store
       st.unsettled[(2 : SectorNo)] = false ∧ st.byte 8192 = 1 ∧ beNat (st.bytes 8193 2) = 1
       ∧ checkBytes (st.bytes 8208 1) = st.bytes 8195 2)
    ∧ (let st := (templated 2 2 scene).store
       st.byte 8192 = 2 ∧ beNat (st.bytes 8193 2) = 2 ∧ checkBytes (st.bytes 8208 2) ≠ st.bytes 8195 2)
    ∧ beNat ((templated 1 0 scene).store.bytes 8193 2) < 1 ∧ scene.store.byte 8192 = 0xFF := by decide +kernel

/-- R135, R139: the document read is offered as frame 0 of job 7, marked Last. -/
theorem test_fetch : (((templated 1 1 (printing .fetch)).readSector 0).port 6).printOffer.map (·.frame.payload)
    = some [0, 7, 0, 0, 1, 0x41] := by decide +kernel

/-- R151: OK, Kind TICKET, one byte, not truncated, and its CRC-16. -/
theorem test_proof_done : ((templated 1 1 proofing).readSector 0).control.notices.map (·.content)
    = [[0, 7, 2, 0, 1, 0, 1, 0, 0xB9, 0x15]] := by decide +kernel

theorem witness_PrintQueueCommands :
    (let s := printing .send
     s.hears 8 = true ∧ s.control.foyer = .opened ∧ (s.port 8).role = .boxOffice
     ∧ (s.print.owed.find? (fun x => decide (x.sale = 60))).isSome = true ∧ s.print.jobs.length < 32
     ∧ (s.jobNumbered 8 = some job8 ∧ job8.channel = none ∧ job8.work = .print false 56 9 9 [ticketDoc 0])
     ∧ (s.jobNumbered 7 = some job7 ∧ job7.channel ≠ none)
     ∧ s.takesCommand (some .redirectJob) = true ∧ s.takesCommand (some .cancelJob) = true
     ∧ s.takesCommand (some .dropOwed) = true ∧ s.takesCommand (some .proofTemplate) = true ∧ s.print.owed.length < 64)
    ∧ ((crowded scene 32 0).takesCommand (some .proofTemplate) = true ∧ 32 ≤ (crowded scene 32 0).print.jobs.length)
    ∧ (let s : State := { printing .send with print := { (printing .send).print with owed := (crowded scene 0 64).print.owed } }
       s.jobNumbered 8 = some job8 ∧ 64 ≤ s.print.owed.length) := by decide +kernel

theorem witness_PrintQueueCommands_refusals :
    ((foyerIn .unconfigured).hears 8 = true ∧ (foyerIn .unconfigured).control.foyer = .unconfigured)
    ∧ (scene.hears 6 = true ∧ (scene.port 6).role ≠ .boxOffice) ∧ (scene.hears 8 = true ∧ (scene.port 8).role = .boxOffice)
    ∧ ((foyerIn .closed).hears 8 = true ∧ (foyerIn .closed).control.foyer = .closed) ∧ scene.control.foyer = .opened
    ∧ (∀ x ∈ scene.print.owed, x.sale ≠ 60) ∧ (crowded scene 32 1).hears 8 = true
    ∧ ((∃ x ∈ (crowded scene 32 1).print.owed, x.sale = 60) ∧ 32 ≤ (crowded scene 32 1).print.jobs.length)
    ∧ scene.jobNumbered 65535 = none
    ∧ (waiting.takesCommand (some .redirectJob) = true ∧ waiting.takesCommand (some .cancelJob) = true
      ∧ waiting.jobNumbered 9 = some { job8 with number := 9, work := .proof 2 })
    ∧ scene.takesCommand (some .dropOwed) = true := by decide +kernel

/-- A document of 8,192 bytes has 36 frames, an empty one 1. -/
theorem witness_PrintFramesCarryTheDocument : 35 < max 1 ((8192 + 231) / 232) ∧ 0 < max 1 ((0 + 231) / 232) ∧ 0 + 1 < max 1 ((233 + 231) / 232) := by
  decide +kernel

theorem witness_RenderingReplacesEscapes : (0x41 : Byte) ≠ 0x1B ∧ (1 ≤ (1 : Byte).toNat ∧ (20 : Byte).toNat ≤ 20)
    ∧ ((0 : Byte).toNat = 0 ∧ (0 : Byte) ≠ 0x1B) ∧ (20 < (21 : Byte).toNat ∧ (21 : Byte) ≠ 0x1B)
    ∧ (0x1B : Byte) ∉ [(0x41 : Byte)] ∧ 0 < 4294967295 ∧ 99 < 100 := by decide +kernel

theorem witness_StoreOperationsAreAccepted :
    (scene.store.operation = none ∧ scene.takesCommand (some .writeEnable) = true ∧ scene.takesCommand (some .writeDisable) = true
      ∧ scene.takesCommand (some .eraseSector) = true ∧ scene.store.writeEnable = false)
    ∧ (let s : State := { latchSet with store := { latchSet.store with protectSpan := 7 } }
       s.store.operation = none ∧ s.store.writeEnable = true ∧ s.store.protects 31 = true)
    ∧ (latchSet.store.operation = none ∧ latchSet.store.writeEnable = true ∧ latchSet.store.protects 31 = false
      ∧ latchSet.print.jobs = [] ∧ latchSet.store.protectSpan = 0 ∧ latchSet.takesCommand (some .eraseAll) = true
      ∧ latchSet.takesCommand (some .programPage) = true ∧ 255 + 1 ≤ 256 ∧ 0 + 256 ≤ 256)
    ∧ (erasing.store.operation ≠ none ∧ erasing.takesCommand (some .writeEnable) = true
      ∧ erasing.takesCommand (some .writeDisable) = true ∧ erasing.takesCommand (some .eraseSector) = true
      ∧ ∀ c ∈ [Command.eraseAll, .programPage, .setProtect, .siteProgram, .siteLock], erasing.takesCommand (some c) = true)
    ∧ (List.replicate 39 (0xFF : Byte)).length = 39 := by decide +kernel

theorem witness_StoreCompletionWritesTheBytes : erasing.control.running = true
    ∧ erasing.store.operation = some (.eraseSector 4) := by decide +kernel

theorem witness_ProtectionAndSiteRecord :
    (latchSet.store.operation = none ∧ latchSet.store.writeEnable = true ∧ latchSet.takesCommand (some .setProtect) = true
      ∧ latchSet.store.protectLock = false ∧ latchSet.takesCommand (some .siteProgram) = true
      ∧ latchSet.takesCommand (some .siteLock) = true ∧ latchSet.store.siteLock = true)
    ∧ (let s : State := { latchSet with store := { latchSet.store with protectSpan := 2, protectLock := true } }
       s.takesCommand (some .setProtect) = true ∧ s.store.protectLock = true ∧ s.control.keyActive = false
       ∧ (3 : Fin 8) ≠ s.store.protectSpan)
    ∧ (siteOpen.store.siteLock = false ∧ siteOpen.store.operation = none ∧ siteOpen.store.writeEnable = true
      ∧ siteOpen.store.exponent ≤ 3 ∧ siteOpen.takesCommand (some .siteProgram) = true)
    ∧ (let b : Bytes := [0, 0, 3] ++ List.replicate 35 0x7E ++ [0xFF]
       b.length = 39 ∧ (b.getD 2 0).toNat ≤ 3 ∧ ∀ c ∈ b.drop 3, (0x20 ≤ c.toNat ∧ c.toNat ≤ 0x7E) ∨ c = 0xFF)
    ∧ (let s : State := { siteOpen with store := { siteOpen.store with siteRecord := [] } }
       s.store.siteLock = false ∧ 3 < s.store.exponent ∧ s.takesCommand (some .siteLock) = true) := by decide +kernel

theorem witness_ProtectionAndSiteRecord_refusals :
    (∀ t ∈ [scene, latchSet], t.store.operation = none ∧ ∀ c ∈ [Command.setProtect, .siteProgram, .siteLock],
      t.takesCommand (some c) = true) ∧ scene.store.writeEnable = false
    ∧ (8 ≤ (8 : Byte).toNat ∧ 2 ≤ (2 : Byte).toNat) ∧ ([3] : Bytes).length ≠ 2 ∧ (List.replicate 38 (0 : Byte)).length ≠ 39
    ∧ (let b : Bytes := [0, 0, 4] ++ List.replicate 36 0x20
       b.length = 39 ∧ ¬((b.getD 2 0).toNat ≤ 3 ∨ b.getD 2 0 = 0xFF)) := by decide +kernel

/-- R159, R170: BAD_ARG takes the latch; the wrong length leaves it. -/
theorem test_siteProgram_badArg : left (exec (.siteProgram 1 ([0, 0, 4] ++ List.replicate 36 0x20)) siteOpen) (fun t => t.store.writeEnable)
      = some false
    ∧ left (exec (.siteProgram 1 [0]) siteOpen) (fun t => t.store.writeEnable) = some true := by decide +kernel

theorem witness_FramingErrorsCountToQuarantine : checkRun [] = .inl .delimit ∧ scene.takesFrames 9 = false
    ∧ ((counted 119).takesFrames 6 = true ∧ min 255 (119 + 8) < 128)
    ∧ ((counted 88).takesFrames 6 = true ∧ 88 < 96 ∧ 96 ≤ min 255 (88 + 8))
    ∧ ((counted 120).takesFrames 6 = true ∧ 128 ≤ min 255 (120 + 8) ∧ ((counted 120).basket 6).state ≠ .authorising)
    ∧ (let s := scene.setPort 11 { scene.port 11 with errorCount := 255 }
       s.takesFrames 11 = true ∧ 128 ≤ min 255 (255 + 8) ∧ (s.basket 11).state = .authorising)
    ∧ scene.channelFor 6 = none
    ∧ ((printing .send).channelFor 6 = some 0 ∧ (printing .send).jobOn 0 = some job7
      ∧ job7.work = .print false 55 6 6 [ticketDoc 0, ticketDoc 1]) := by decide +kernel

theorem witness_PortCommands : (∀ c ∈ [Command.enablePort, .restorePort, .disablePort, .configurePort, .clearErrorCode],
      scene.takesCommand (some c) = true)
    ∧ (scene.port 9).state = .disabled ∧ (scene.port 10).state = .quarantined ∧ (scene.port 6).state = .active
    ∧ scene.control.running = true ∧ scene.control.foyer ≠ .night := by decide +kernel

/-- Port 6 sending from a source, its channel's print offer current and Last or not. -/
def sendingFrom (src : KioskSource) (last : Bool) : State := (printing .send).setPort 6 { (printing .send).port 6 with
  sending := some { source := src, frame := { cls := 0x21, tag := 0, payload := [] } }
  printOffer := some { frame := { cls := 0x21, tag := 0, payload := [] }, last := last, current := true } }

theorem witness_KioskArbiterOrder :
    (sendingPort.control.running = true ∧ (sendingPort.port 6).state = .active ∧ (sendingPort.port 6).sending = none
      ∧ (sendingPort.port 6).replies ≠ [])
    ∧ (let x := { sendingPort.port 6 with replies := [] }
       x.state = .active ∧ x.sending = none ∧ x.printOffer.isSome = true)
    ∧ (let x := { sendingPort.port 6 with replies := [], printOffer := none }
       x.state = .active ∧ x.sending = none ∧ x.downPass ≠ [])
    ∧ (∀ src ∈ [KioskSource.reply, .pass, .detached, .print], ∀ last ∈ [false, true],
      (((sendingFrom src last).port 6).sending.map (·.source)) = some src
      ∧ (((sendingFrom src last).port 6).printOffer.map (fun o => (o.current, o.last))) = some (true, last)
      ∧ (sendingFrom src last).channelFor 6 = some 0) := by decide +kernel

/-- Port 6 sending a print frame that its channel, in a state, no longer waits for. -/
def staleFrame (st : ChannelState) : State := ((printing st).setPort 6 { (printing st).port 6 with
  sending := some { source := .print, frame := { cls := 0x21, tag := 0, payload := [] } }
  printOffer := some { frame := { cls := 0x21, tag := 0, payload := [] }, last := true, current := false } })

theorem witness_KioskArbiterOrder_stale :
    (∀ st ∈ [ChannelState.send, .paused 30], (staleFrame st).channelFor 6 = some 0
      ∧ ((staleFrame st).port 6).sending.map (·.source) = some .print
      ∧ ((staleFrame st).port 6).printOffer.map (·.current) = some false ∧ ((staleFrame st).channel 0).state = st)
    ∧ ((staleFrame .send).jobOn 0 = some job7 ∧ job7.current = some (ticketDoc 0)
      ∧ ((staleFrame .send).channel 0).buffer = some { data := [1, 2], truncated := false })
    ∧ ({ staleFrame .send with print := scene.print } : State).channelFor 6 = none := by decide +kernel

/-- Port 6 with Pass Allowed and a number of frames in its downward buffer. -/
def passing (n : Nat) : State := scene.setPort 6 { scene.port 6 with
  passAllowed := true, downPass := List.replicate n { tag := 1, payload := [] } }

theorem witness_PassThroughAndStrays :
    ((passing 3).takesFrames 6 = true ∧ ((passing 3).port 6).passAllowed = true ∧ (passing 3).uplink.linkUp = true
      ∧ ((passing 3).uplink.upwardPass.filter (fun f => decide (f.port = 6))).length < 4
      ∧ ((passing 3).port 6).downPass.length < 4 ∧ (passing 3).control.foyer ≠ .night ∧ 4 ≤ ((passing 4).port 6).downPass.length)
    ∧ (scene.takesFrames 6 = true ∧ (scene.port 6).passAllowed = false ∧ (linkDown.takesFrames 6 = true ∧ linkDown.uplink.linkUp = false))
    ∧ (let s : State := { passing 0 with uplink := { scene.uplink with upwardPass := List.replicate 4 { port := 6, tag := 1, payload := [] } } }
       s.takesFrames 6 = true ∧ 4 ≤ (s.uplink.upwardPass.filter (fun f => decide (f.port = 6))).length)
    ∧ (16 ≤ (16 : Byte).toNat ∧ (15 : Byte).toNat = (15 : PortNo).val ∧ (foyerIn .night).control.foyer = .night
      ∧ 240 < (List.replicate 241 (0 : Byte)).length)
    ∧ ((0x0800 : BitVec 16) ≠ 0x89C2 ∧ [(0 : Byte), 0, 0, 0].length < 5
      ∧ ([] : Bytes).length < (0 : Byte).toNat * 256 + (1 : Byte).toNat ∧ (0x74 : Byte) ≠ 0x70 ∧ (0x74 : Byte) ≠ 0x72
      ∧ (0x74 : Byte) ≠ 0x30 ∧ (254 : Byte) ≠ 255)
    ∧ (Command.ofCode 0xFF = none ∧ scene.takesCommand none = true ∧ (foyerIn .night).takesCommand none = false) := by decide +kernel

/-- A transmit side with everything waiting, an AUTH_REQUEST of the ACTIVE entry 9 behind one of the LOST entry 10. -/
def uplinkBusy : State :=
  { scene with
    uplink := { scene.uplink with
      authRequests := [{ tag := 10, payload := [0] }, { tag := 9, payload := [1] }]
      replies := [{ tag := 4, payload := [0x20, 0] }]
      upwardPass := [{ port := 15, tag := 1, payload := [] }] }
    control := { scene.control with
      notices := [{ code := 5, carriesLost := false, day := 0, seconds := 0, content := [] }], noticesLost := true } }

/-- A number of notices waiting. -/
def noticed (n : Nat) : State := { scene with control := { scene.control with
  notices := List.replicate n { code := 5, carriesLost := false, day := 0, seconds := 0, content := [] } } }

/-- A full queue, codes 1 to 32, with its head being sent. -/
def noticeInFlight : State :=
  { scene with
    control := { scene.control with notices := (List.range 32).map (fun n =>
      { code := n + 1, carriesLost := false, day := 0, seconds := 0, content := [] }) }
    uplink := { scene.uplink with sending := some { source := .notice, frame := ownFrame (ownEnvelope 0x73 0 []) } } }

/-- R201, R203: the head being sent leaves at its last byte, and the notice behind it was discarded. -/
theorem test_notice_at_full_queue :
    let t := noticeInFlight.raise .sale []
    t.control.notices.map (·.code) = [1] ++ (List.range 30).map (· + 3) ++ [2] ∧ t.control.noticesLost = true
    ∧ left (exec .uplinkFrameEnd t) (fun u => (u.control.notices.length, u.control.notices.head?.map (·.code)))
      = some (31, some 3) := by decide +kernel

theorem witness_UplinkArbiterOrder :
    let served := fun (s : State) (r : AuthRequest) => s.relay.entries.any (fun e => decide (e.tag = r.tag) && decide (e.state ≠ .lost))
    (uplinkBusy.control.running = true ∧ uplinkBusy.uplink.linkUp = true ∧ uplinkBusy.uplink.sending = none
      ∧ served uplinkBusy { tag := 9, payload := [1] } = true ∧ served uplinkBusy { tag := 10, payload := [0] } = false)
    ∧ (let s : State := { uplinkBusy with uplink := { uplinkBusy.uplink with authRequests := [{ tag := 10, payload := [0] }] } }
       (∀ q ∈ s.uplink.authRequests, served s q = false) ∧ s.uplink.replies ≠ [])
    ∧ (let s : State := { uplinkBusy with uplink := { uplinkBusy.uplink with authRequests := [], replies := [] } }
       s.uplink.replies = [] ∧ s.control.notices ≠ [])
    ∧ (let s : State := { scene with uplink := uplinkBusy.uplink }
       s.control.notices = [] ∧ s.uplink.upwardPass ≠ [])
    ∧ linkDown.uplink.linkUp = false ∧ scene.control.restartPending = false ∧ scene.control.running = true
    ∧ (({ scene.control with enables := { scene.control.enables with all := false } } : FoyerControl).enables.all = false
      ∧ ({ scene.control.enables with sale := false } : NoticeEnables).kind .sale = false)
    ∧ (noticeInFlight.control.notices.length = 32 ∧ noticeInFlight.uplink.sending.map (·.source) = some .notice)
    ∧ (∀ n ∈ [31, 32], (noticed n).uplink.sending = none ∧ (noticed n).control.notices.length = n ∧ (noticed n).control.enables.all = true
      ∧ (noticed n).control.enables.kind .sale = true)
    ∧ (∀ src ∈ [UplinkSource.authRequest 9, .reply, .notice, .pass],
      (({ scene.uplink with sending := some { source := src, frame := ownFrame (ownEnvelope 0x70 4 []) } } : UplinkUnit).sending.map
        (·.source)) = some src) := by decide +kernel

theorem witness_FoyerOpensClosesAndWakes :
    ((foyerIn .closed).takesCommand (some .openFoyer) = true ∧ (foyerIn .closed).control.foyer = .closed
      ∧ (foyerIn .unconfigured).control.foyer = .unconfigured ∧ scene.store.siteLock = true ∧ scene.relay.saleLoaded = true
      ∧ scene.vouchers.serialLoaded = true ∧ scene.prices.committed = true ∧ scene.control.clockSet = true)
    ∧ (let s : State := { foyerIn .closed with control := { (foyerIn .closed).control with clockSet := false } }
       s.takesCommand (some .openFoyer) = true ∧ s.control.clockSet = false)
    ∧ (scene.takesCommand (some .openFoyer) = true ∧ scene.takesCommand (some .closeFoyer) = true
      ∧ scene.takesCommand (some .wake) = true ∧ scene.control.foyer = .opened ∧ scene.control.foyer ≠ .night)
    ∧ ((foyerIn .night).takesCommand (some .wake) = true ∧ (foyerIn .night).control.foyer = .night) := by decide +kernel

theorem witness_NightLetsGoOfHeldSeats : (scene.takesCommand (some .night) = true ∧ scene.control.foyer ≠ .closed)
    ∧ ((foyerIn .closed).takesCommand (some .night) = true ∧ ∃ e ∈ (foyerIn .closed).relay.entries, e.state ≠ .lost)
    ∧ (evening.takesCommand (some .night) = true ∧ evening.control.foyer = .closed ∧ evening.print.jobs = []
      ∧ ∀ e ∈ evening.relay.entries, e.state = .lost) := by decide +kernel

theorem witness_SettingsAndCountersAreWritten : (∀ c ∈ [Command.setLeaseTimes, .setAuthTimeout, .setPrintWaits, .setClock,
      .loadCounters, .setNoticeEnables, .clearGatewayHold], scene.takesCommand (some c) = true)
    ∧ (foyerIn .closed).takesCommand (some .loadCounters) = true ∧ (foyerIn .closed).control.foyer ≠ .opened
    ∧ scene.control.foyer = .opened := by decide +kernel

theorem witness_TickAdvancesClockAndTimers : State.reset.control.running = false
    ∧ (foyerIn .opened).control.tickRunning = true ∧ scene.control.running = true ∧ scene.disjointShows
    ∧ (scene.relay.entries.map (·.tag)).Nodup
    ∧ ((printing (.await 2)).channel 0).state = .await 2 ∧ ((printing (.paused 2)).channel 0).state = .paused 2 :=
  ⟨by decide +kernel, by decide +kernel, by decide +kernel, scene_disjoint, by decide +kernel⟩

theorem scene_snapshots : ∀ p : PortNo, ∀ x ∈ (scene.basket p).snapshot, x.seats.length ≤ 10 := by decide +kernel

theorem scene_bounded : scene.Bounded := by
  constructor
  case snapshots => exact fun p x h => scene_snapshots p x h
  all_goals decide +kernel

/-- The scene with a command at the front of its queue. -/
def sent (c : Instr) : State := { scene with pending := [c] }

theorem witness_CollectionsStayBounded : scene.Bounded ∧ (left (step (sent (.hold 6 1 [0, 3, 1, 0, 0]))) (fun t => t.pending)) = some [] :=
  ⟨scene_bounded, by decide +kernel⟩

theorem witness_RelayAndVouchersStaySound : scene.Canonical ∧ scene.RelaySound
    ∧ (left (step (sent (.authResponse [0, 9, 0x50, 0]))) (fun t => t.vouchers.reservation)) = some 1 :=
  ⟨scene_canonical, scene_relaySound, by decide +kernel⟩

/-- Every seat of the scene's one show by its index, from a check of each. -/
theorem scene_seat {P : ShowNo → Nat → Prop} (h : ∀ k < 20, P 0 k) (i : ShowNo) (k : Nat) (hi : (scene.showAt i).state ≠ .empty)
    (hk : k < (scene.showAt i).seatCount) : P i k := by
  have h0 : ∀ i : ShowNo, i ≠ 0 → (scene.showAt i).state = .empty := by decide +kernel
  by_cases e : i = 0
  · subst e
    exact h k hk
  · exact absurd (h0 i e) hi

theorem scene_seatsAgree : scene.SeatsAgree where
  ranges := by decide +kernel
  apart := scene_disjoint
  counts := by decide +kernel
  loading := fun i k hi hk => absurd hi ((by decide +kernel : ∀ i : ShowNo, (scene.showAt i).state ≠ .loading) i)
  held := fun i k p hi hk => scene_seat (P := fun i k => ∀ p, (scene.seatAt i k).state.heldBy p = true →
    (scene.basket p).state ≠ .authorising ∧ (scene.basket p).handle = scene.handleOf i ∧ k ∈ (scene.basket p).seats)
    (by decide +kernel) i k hi hk p
  lines := fun p hp => ⟨(by decide +kernel : ∀ p, (scene.basket p).seats.Nodup) p,
    (by decide +kernel : ∀ p, (scene.basket p).state ≠ .authorising → ∀ k ∈ (scene.basket p).seats,
      scene.current (scene.basket p).handle = true ∧ k < (scene.showAt (scene.basket p).handle.index).seatCount
        ∧ (scene.seatAt (scene.basket p).handle.index k).state.heldBy p = true) p hp⟩
  pending := fun i k tag hi hk => scene_seat (P := fun i k => ∀ tag, (scene.seatAt i k).state.pendingUnder tag = true →
    ∃ e ∈ scene.relay.entries, e.tag = tag ∧ e.handle = scene.handleOf i ∧ k ∈ e.seats)
    (fun k hk tag ht => by
      have h : ∀ k < 20, match (scene.seatAt 0 k).state with
          | .pending t _ => ∃ e ∈ scene.relay.entries, e.tag = t ∧ e.handle = scene.handleOf 0 ∧ k ∈ e.seats
          | _ => True := by
        intro k hk
        rcases (by decide +kernel : ∀ k < 20, (scene.seatAt 0 k).state.isPending = false ∨ k = 5 ∨ k = 6) k hk with h | rfl | rfl
        · revert h
          cases (scene.seatAt 0 k).state <;> simp [SeatState.isPending]
        · exact (by decide +kernel : ∃ e ∈ scene.relay.entries, e.tag = 9 ∧ e.handle = scene.handleOf 0 ∧ 5 ∈ e.seats)
        · exact (by decide +kernel : ∃ e ∈ scene.relay.entries, e.tag = 10 ∧ e.handle = scene.handleOf 0 ∧ 6 ∈ e.seats)
      have hk' := h k hk
      revert ht hk'
      cases (scene.seatAt 0 k).state <;> simp [SeatState.pendingUnder]
      rintro rfl e he rfl h1 h2
      exact ⟨e, he, rfl, h1, h2⟩) i k hi hk tag
  entries := fun e he => ⟨(by decide +kernel : ∀ e ∈ scene.relay.entries, e.seats.Nodup) e he,
    (by decide +kernel : ∀ e ∈ scene.relay.entries, ∀ k ∈ e.seats, scene.current e.handle = true
      ∧ k < (scene.showAt e.handle.index).seatCount ∧ (scene.seatAt e.handle.index k).state.pendingUnder e.tag = true) e he⟩
  authorising := by decide +kernel
  origins := by decide +kernel
  contents := by decide +kernel
  snapshots := fun p hp => by
    have h : ∀ p : PortNo, p ≠ 11 → ¬ ((scene.basket p).state = .priced ∨ (scene.basket p).state = .authorising) := by decide +kernel
    by_cases e : p = 11
    · subst e
      exact ⟨snapshot9, by decide +kernel⟩
    · exact absurd hp (h p e)

theorem witness_SeatsBasketsAndEntriesAgree : scene.RelaySound ∧ scene.SeatsAgree
    ∧ (left (step (sent (.pay 6 1 [0x31]))) (fun t => t.pending)) = some [] :=
  ⟨scene_relaySound, scene_seatsAgree, by decide +kernel⟩

theorem scene_inRange : scene.InRange := by
  constructor
  case live => exact live_inRange
  case staged => exact live_inRange
  all_goals decide +kernel

theorem witness_ValuesStayInRange : scene.InRange
    ∧ (left (step (sent (.setClock 1 (u16 20 ++ u24 86399)))) (fun t => t.control.seconds)) = some 86399 :=
  ⟨scene_inRange, by decide +kernel⟩

theorem witness_StoresStayCanonical : scene.Canonical
    ∧ (left (step (sent (.setSeat 1 [0, 3, 0, 1]))) (fun t => (t.seatAt 0 1).state)) = some .house :=
  ⟨scene_canonical, by decide +kernel⟩

/-- An erase of sector 4 in progress beside a protected span. -/
def guarding : State := { erasing with pending := [.storeOperationCompletion], store := { erasing.store with protectSpan := 1 } }

theorem witness_ProtectedBytesAndLockedSiteStay : guarding.worksUnprotected ∧ guarding.store.guarded 131071
    ∧ guarding.store.siteLock = true ∧ (left (step guarding) (fun t => t.store.operation)) = some none := by
  refine ⟨?_, ⟨31, by decide +kernel⟩, by decide +kernel⟩
  intro op h
  cases h
  exact ⟨trivial, by decide +kernel⟩

end Sys2Proof.Tests
end

section
/-! What a command keeps: the seats, baskets, authorisations, vouchers and stored bytes that the reports and settings leave alone. -/

namespace Sys2Proof.Machine

/-- The seats, baskets and authorisations are as they were. -/
structure State.SeatingKept (s t : State) : Prop where
  shows : t.seats.shows = s.seats.shows
  pool : t.seats.pool = s.seats.pool
  baskets : t.baskets = s.baskets
  entries : t.relay.entries = s.relay.entries

/-- Besides, so are the vouchers' slots and index and the whole Template Store. -/
structure State.HoldingsKept (s t : State) : Prop extends s.SeatingKept t where
  slots : t.vouchers.slots = s.vouchers.slots
  index : t.vouchers.index = s.vouchers.index
  store : t.store = s.store

theorem State.SeatingKept.refl (s : State) : s.SeatingKept s := ⟨rfl, rfl, rfl, rfl⟩

theorem State.SeatingKept.trans {s t u : State} (h : s.SeatingKept t) (h' : t.SeatingKept u) : s.SeatingKept u :=
  ⟨h'.shows.trans h.shows, h'.pool.trans h.pool, h'.baskets.trans h.baskets, h'.entries.trans h.entries⟩

theorem State.HoldingsKept.refl (s : State) : s.HoldingsKept s := ⟨.refl s, rfl, rfl, rfl⟩

theorem State.HoldingsKept.trans {s t u : State} (h : s.HoldingsKept t) (h' : t.HoldingsKept u) : s.HoldingsKept u :=
  ⟨h.toSeatingKept.trans h'.toSeatingKept, h'.slots.trans h.slots, h'.index.trans h.index, h'.store.trans h.store⟩

/-! ## Operations that keep what is held -/

/-- Changes of the ports, the uplink, Foyer Control, the Print Engine, the prices and the counts keep what is held. -/
theorem State.holdingsKept_of_blocks (s : State) (ports : Vector Port 16) (uplink : UplinkUnit) (control : FoyerControl)
    (print : PrintEngine) (prices : PriceUnit) (n : Nat) :
    s.HoldingsKept { s with ports := ports, uplink := uplink, control := control, print := print, prices := prices,
                            freeCount := n } :=
  ⟨⟨rfl, rfl, rfl, rfl⟩, rfl, rfl, rfl⟩

theorem State.setPort_keeps (s : State) (p : PortNo) (x : Port) : s.HoldingsKept (s.setPort p x) :=
  s.holdingsKept_of_blocks _ _ _ _ _ _

theorem State.goodFrame_keeps (s : State) (p : PortNo) : s.HoldingsKept (s.goodFrame p) := s.setPort_keeps _ _

theorem State.answer_keeps (s : State) (c : KioskClass) (p : PortNo) (tag : Byte) (r : Result) (content : Bytes) :
    s.HoldingsKept (s.answer c p tag r content) := s.setPort_keeps _ _

theorem State.mgmtAnswer_keeps (s : State) (code tag : Byte) (r : Result) (content : Bytes) :
    s.HoldingsKept (s.mgmtAnswer code tag r content) := s.holdingsKept_of_blocks _ _ _ _ _ _

theorem State.setControl_keeps (s : State) (c : FoyerControl) : s.HoldingsKept (s.setControl c) :=
  s.holdingsKept_of_blocks _ _ _ _ _ _

theorem State.PrintStep.keeps {s t : State} (h : s.PrintStep t) : s.HoldingsKept t := by
  rw [h.frame]; exact s.holdingsKept_of_blocks _ _ _ _ _ _

theorem State.pushNotice_keeps (s : State) (code : Nat) (content : Bytes) : s.HoldingsKept (s.pushNotice code content) := by
  rw [s.pushNotice_frame]; exact s.holdingsKept_of_blocks _ _ _ _ _ _

theorem State.raise_keeps (s : State) (k : NoticeKind) (content : Bytes) : s.HoldingsKept (s.raise k content) :=
  (s.raise_printStep k content).keeps

theorem State.start_keeps (s : State) : s.HoldingsKept s.start :=
  (s.holdingsKept_of_blocks _ _ _ _ _ _).trans (State.pushNotice_keeps _ _ _)

theorem State.runArbiter_keeps (s : State) : s.HoldingsKept s.runArbiter := s.runArbiter_printStep.keeps

theorem State.checkLow_keeps (s : State) : s.HoldingsKept s.checkLow := by
  rw [s.checkLow_frame]; exact ⟨⟨rfl, rfl, rfl, rfl⟩, rfl, rfl, rfl⟩

theorem State.addJob_keeps (s : State) (w : JobWork) : s.HoldingsKept (s.addJob w).1 := s.holdingsKept_of_blocks _ _ _ _ _ _

theorem State.withdrawRequest_keeps (s : State) (tag : Nat) : s.HoldingsKept (s.withdrawRequest tag) :=
  s.holdingsKept_of_blocks _ _ _ _ _ _

theorem State.freeReservation_keeps (s : State) (n : Nat) : s.HoldingsKept (s.freeReservation n) :=
  ⟨⟨rfl, rfl, rfl, rfl⟩, rfl, rfl, rfl⟩

theorem State.answerKept_keeps (s : State) (p : PortNo) (make : Bool) (r : Result) (content : Bytes) :
    s.HoldingsKept (s.answerKept p make r content) := by
  unfold State.answerKept
  split
  · exact .refl s
  · cases make
    · exact s.setPort_keeps _ _
    · exact (s.setPort_keeps _ _).trans (State.answer_keeps _ _ _ _ _ _)

theorem State.printSale_keeps (s : State) (x : Sale) (sale : Nat) (serials : List Nat) :
    s.HoldingsKept (s.printSale x sale serials).1 := by
  unfold State.printSale
  dsimp only
  split
  · exact s.addJob_keeps _
  · exact (s.owe_printStep _).keeps

theorem State.stopJob_keeps (s : State) (p : PortNo) : s.HoldingsKept (s.stopJob p) := by
  unfold State.stopJob
  split
  · exact .refl s
  · split
    · exact .refl s
    · split
      · exact .refl s
      · exact ((s.owe_printStep _).trans (State.endJob_printStep _ _ _)).keeps

theorem State.activate_keeps (s : State) (p : PortNo) (n : Nat) : s.HoldingsKept (s.activate p n) :=
  (s.setPort_keeps _ _).trans (State.runArbiter_keeps _)

/-! ## Commands that keep what is held -/

/-- The state a refusal leaves is the one it finds. -/
theorem State.refuse_fst (s : State) (r : Result) (content : Bytes) : (s.refuse r content).1 = s := rfl

/-- A command without arguments keeps what its body keeps. -/
theorem noArgs_keeps {body : State → Answer} {s : State} (h : s.HoldingsKept (body s).1) (args : Bytes) :
    s.HoldingsKept (noArgs args body s).1 := by
  unfold noArgs
  split
  · exact h
  · exact .refl s

theorem withShow_fst_of_body {P : State → Prop} {h : Handle} {legal : List ShowState} {body : State → Answer} {s : State}
    (hs : P s) (hb : s.showCheck h legal = none → P (body s).1) : P (withShow h legal body s).1 := by
  unfold withShow
  split
  · exact hs
  · rename_i hc
    exact hb hc

theorem State.stage_keeps (s : State) (ok : List Bool) (t : PriceTables) (echo : Bytes) :
    s.HoldingsKept (s.stage ok t echo).1 := by
  unfold State.stage
  split
  · exact .refl s
  · exact s.holdingsKept_of_blocks _ _ _ _ _ _

/-- What a management command comes to before it is answered: the function that its arm of `runCommand` hands to `manage`. -/
def Command.body : Command → Bytes → State → Answer
  | .defineShow => Machine.defineShow | .loadSeats => Machine.loadSeats | .openShow => Machine.openShow
  | .closeShow => Machine.closeShow | .removeShow => Machine.removeShow | .setSeat => setSeatCommand
  | .markSold => Machine.markSold | .releaseBlock => Machine.releaseBlock | .readSeats => Machine.readSeats
  | .setLeaseTimes => Machine.setLeaseTimes | .readLeaseTimes => Machine.readLeaseTimes
  | .stageBand => Machine.stageBand | .stageTicketType => Machine.stageTicketType | .stageCombo => Machine.stageCombo
  | .stageTax => Machine.stageTax | .stageCeiling => Machine.stageCeiling | .reloadStaged => Machine.reloadStaged
  | .readPrices => Machine.readPrices | .commitPrices => Machine.commitPrices
  | .setAuthTimeout => Machine.setAuthTimeout | .readAuthTimeout => Machine.readAuthTimeout
  | .clearGatewayHold => Machine.clearGatewayHold | .reconcile => Machine.reconcile
  | .readAuthorisations => Machine.readAuthorisations
  | .issueCredit => Machine.issueCredit | .voidVoucher => Machine.voidVoucher | .readVoucher => Machine.readVoucher
  | .readVoucherStatus => Machine.readVoucherStatus
  | .setPrintWaits => Machine.setPrintWaits | .redirectJob => Machine.redirectJob | .cancelJob => Machine.cancelJob
  | .dropOwed => Machine.dropOwed | .proofTemplate => Machine.proofTemplate | .readPrintStatus => Machine.readPrintStatus
  | .writeEnable => Machine.writeEnable | .writeDisable => Machine.writeDisable | .eraseSector => Machine.eraseSector
  | .eraseAll => Machine.eraseAll | .programPage => Machine.programPage | .setProtect => Machine.setProtect
  | .readStore => Machine.readStore | .readStoreStatus => Machine.readStoreStatus
  | .siteProgram => Machine.siteProgram | .siteLock => Machine.siteLock | .readSiteRecord => Machine.readSiteRecord
  | .configurePort => Machine.configurePort | .enablePort => Machine.enablePort | .disablePort => Machine.disablePort
  | .restorePort => Machine.restorePort | .clearErrorCode => Machine.clearErrorCode | .readPort => Machine.readPort
  | .openFoyer => Machine.openFoyer | .closeFoyer => Machine.closeFoyer | .night => Machine.night | .wake => Machine.wake
  | .restart => Machine.restart | .identify => Machine.identify | .readFoyerStatus => Machine.readFoyerStatus
  | .setClock => Machine.setClock | .dayRoll => Machine.dayRoll | .loadCounters => Machine.loadCounters
  | .setNoticeEnables => Machine.setNoticeEnables

theorem runCommand_eq (c : Command) (tag : Byte) (args : Bytes) (s : State) :
    runCommand c tag args s = .next (s.manage c tag (c.body args)) := by
  cases c <;> rfl

/-- The commands that only report. -/
def Command.reports : Command → Bool
  | .readSeats | .readLeaseTimes | .readPrices | .readAuthTimeout | .readAuthorisations | .readVoucher
  | .readVoucherStatus | .readPrintStatus | .readStore | .readStoreStatus | .readSiteRecord | .readPort | .identify
  | .readFoyerStatus => true
  | _ => false

theorem noArgs_fst {body : State → Answer} {s : State} (h : (body s).1 = s) (args : Bytes) : (noArgs args body s).1 = s := by
  unfold noArgs
  split
  · exact h
  · rfl

theorem readSeats_fst (args : Bytes) (s : State) : (readSeats args s).1 = s := by
  unfold readSeats
  split
  · rfl
  · refine withShow_fst_of_body (P := fun t => t = s) rfl (fun _ => ?_)
    dsimp only
    split <;> rfl

theorem readPrices_fst (args : Bytes) (s : State) : (readPrices args s).1 = s := by
  unfold readPrices
  split
  · rfl
  · split <;> rfl

theorem readAuthorisations_fst (args : Bytes) (s : State) : (readAuthorisations args s).1 = s := by
  unfold readAuthorisations
  split
  · rfl
  · split <;> rfl

theorem readVoucher_fst (args : Bytes) (s : State) : (readVoucher args s).1 = s := by
  unfold readVoucher
  split
  · rfl
  · split <;> rfl

theorem readPrintStatus_fst (args : Bytes) (s : State) : (readPrintStatus args s).1 = s := by
  unfold readPrintStatus
  split
  · rfl
  · rfl
  · split <;> rfl
  · split <;> rfl

theorem readStore_fst (args : Bytes) (s : State) : (readStore args s).1 = s := by
  unfold readStore
  split
  · rfl
  · split
    · rfl
    · dsimp only
      split
      · rfl
      · split <;> rfl

theorem readPort_fst (args : Bytes) (s : State) : (readPort args s).1 = s := by
  unfold readPort
  split <;> rfl

/-- A command that only reports leaves the state as it is, whatever it carries. -/
theorem Command.body_fst_of_reports {c : Command} (h : c.reports = true) (args : Bytes) (s : State) :
    (c.body args s).1 = s := by
  cases c
  case readSeats => exact readSeats_fst args s
  case readPrices => exact readPrices_fst args s
  case readAuthorisations => exact readAuthorisations_fst args s
  case readVoucher => exact readVoucher_fst args s
  case readPrintStatus => exact readPrintStatus_fst args s
  case readStore => exact readStore_fst args s
  case readPort => exact readPort_fst args s
  case readLeaseTimes | readAuthTimeout | readVoucherStatus | readStoreStatus | readSiteRecord | identify | readFoyerStatus =>
    exact noArgs_fst rfl args
  all_goals exact absurd h Bool.false_ne_true

/-- The commands that set prices, timers, counters, ports, jobs or Foyer Control alone. -/
def Command.settles : Command → Bool
  | .setLeaseTimes | .stageBand | .stageTicketType | .stageCombo | .stageTax | .stageCeiling | .reloadStaged | .commitPrices
  | .setAuthTimeout | .clearGatewayHold | .setPrintWaits | .redirectJob | .cancelJob | .dropOwed | .proofTemplate
  | .configurePort | .enablePort | .restorePort | .clearErrorCode | .openFoyer | .closeFoyer | .wake | .restart | .setClock
  | .loadCounters | .setNoticeEnables => true
  | _ => false

theorem setLeaseTimes_keeps (args : Bytes) (s : State) : s.HoldingsKept (setLeaseTimes args s).1 := by
  unfold setLeaseTimes
  split
  · exact .refl s
  · exact ⟨⟨rfl, rfl, rfl, rfl⟩, rfl, rfl, rfl⟩

theorem setAuthTimeout_keeps (args : Bytes) (s : State) : s.HoldingsKept (setAuthTimeout args s).1 := by
  unfold setAuthTimeout
  split
  · exact .refl s
  · exact ⟨⟨rfl, rfl, rfl, rfl⟩, rfl, rfl, rfl⟩

theorem loadCounters_keeps (args : Bytes) (s : State) : s.HoldingsKept (loadCounters args s).1 := by
  unfold loadCounters
  split
  · exact .refl s
  · split
    · exact .refl s
    · exact ⟨⟨rfl, rfl, rfl, rfl⟩, rfl, rfl, rfl⟩

theorem stageBand_keeps (args : Bytes) (s : State) : s.HoldingsKept (stageBand args s).1 := by
  unfold stageBand
  split
  · exact .refl s
  · exact s.stage_keeps _ _ _

theorem stageTicketType_keeps (args : Bytes) (s : State) : s.HoldingsKept (stageTicketType args s).1 := by
  unfold stageTicketType
  split
  · exact .refl s
  · exact s.stage_keeps _ _ _

theorem stageCombo_keeps (args : Bytes) (s : State) : s.HoldingsKept (stageCombo args s).1 := by
  unfold stageCombo
  split
  · exact .refl s
  · exact s.stage_keeps _ _ _

theorem stageTax_keeps (args : Bytes) (s : State) : s.HoldingsKept (stageTax args s).1 := by
  unfold stageTax
  split
  · exact .refl s
  · exact s.stage_keeps _ _ _

theorem stageCeiling_keeps (args : Bytes) (s : State) : s.HoldingsKept (stageCeiling args s).1 := by
  unfold stageCeiling
  split
  · exact .refl s
  · exact s.stage_keeps _ _ _

theorem setPrintWaits_keeps (args : Bytes) (s : State) : s.HoldingsKept (setPrintWaits args s).1 := by
  unfold setPrintWaits
  split
  · exact .refl s
  · exact s.holdingsKept_of_blocks _ _ _ _ _ _

theorem redirectJob_keeps (args : Bytes) (s : State) : s.HoldingsKept (redirectJob args s).1 := by
  unfold redirectJob
  split
  · exact .refl s
  · split
    · exact .refl s
    · split
      · exact .refl s
      · split
        · exact .refl s
        · exact ((s.setJobs_printStep _).trans (State.runArbiter_printStep _)).keeps

theorem cancelJob_keeps (args : Bytes) (s : State) : s.HoldingsKept (cancelJob args s).1 := by
  unfold cancelJob
  split
  · exact .refl s
  · split
    · exact .refl s
    · split
      · exact .refl s
      · split
        · exact .refl s
        · split
          · exact .refl s
          · exact ((s.setJobs_printStep _).trans (State.owe_printStep _ _)).keeps

theorem dropOwed_keeps (args : Bytes) (s : State) : s.HoldingsKept (dropOwed args s).1 := by
  unfold dropOwed
  split
  · exact .refl s
  · split
    · exact .refl s
    · exact s.holdingsKept_of_blocks _ _ _ _ _ _

theorem proofTemplate_keeps (args : Bytes) (s : State) : s.HoldingsKept (proofTemplate args s).1 := by
  unfold proofTemplate
  split
  · exact .refl s
  · split
    · exact .refl s
    · exact (s.addJob_keeps _).trans (State.runArbiter_keeps _)

theorem configurePort_keeps (args : Bytes) (s : State) : s.HoldingsKept (configurePort args s).1 := by
  unfold configurePort
  split
  · exact .refl s
  · split
    · exact .refl s
    · exact s.setPort_keeps _ _

theorem enablePort_keeps (args : Bytes) (s : State) : s.HoldingsKept (enablePort args s).1 := by
  unfold enablePort
  split
  · exact .refl s
  · split
    · exact .refl s
    · exact s.activate_keeps _ _

theorem restorePort_keeps (args : Bytes) (s : State) : s.HoldingsKept (restorePort args s).1 := by
  unfold restorePort
  split
  · exact .refl s
  · split
    · exact .refl s
    · exact s.activate_keeps _ _

theorem clearErrorCode_keeps (args : Bytes) (s : State) : s.HoldingsKept (clearErrorCode args s).1 := by
  unfold clearErrorCode
  split
  · exact .refl s
  · exact s.setPort_keeps _ _

theorem openFoyer_keeps (args : Bytes) (s : State) : s.HoldingsKept (openFoyer args s).1 := by
  refine noArgs_keeps ?_ args
  split
  · exact .refl s
  · split
    · exact .refl s
    · exact s.setControl_keeps _

theorem closeFoyer_keeps (args : Bytes) (s : State) : s.HoldingsKept (closeFoyer args s).1 := by
  refine noArgs_keeps ?_ args
  split
  · exact .refl s
  · exact s.setControl_keeps _

theorem wake_keeps (args : Bytes) (s : State) : s.HoldingsKept (wake args s).1 := by
  refine noArgs_keeps ?_ args
  split
  · exact .refl s
  · exact (s.holdingsKept_of_blocks _ _ _ _ _ _).trans (State.setControl_keeps _ _)

theorem setClock_keeps (args : Bytes) (s : State) : s.HoldingsKept (setClock args s).1 := by
  unfold setClock
  split
  · exact .refl s
  · split
    · exact .refl s
    · exact s.setControl_keeps _

theorem setNoticeEnables_keeps (args : Bytes) (s : State) : s.HoldingsKept (setNoticeEnables args s).1 := by
  unfold setNoticeEnables
  split
  · exact .refl s
  · exact s.setControl_keeps _

/-- A command that only sets prices, timers, counters, ports, jobs or Foyer Control keeps what is held. -/
theorem Command.body_keeps_of_settles {c : Command} (h : c.settles = true) (args : Bytes) (s : State) :
    s.HoldingsKept (c.body args s).1 := by
  cases c
  case setLeaseTimes => exact setLeaseTimes_keeps args s
  case stageBand => exact stageBand_keeps args s
  case stageTicketType => exact stageTicketType_keeps args s
  case stageCombo => exact stageCombo_keeps args s
  case stageTax => exact stageTax_keeps args s
  case stageCeiling => exact stageCeiling_keeps args s
  case reloadStaged | commitPrices | restart => exact noArgs_keeps (s.holdingsKept_of_blocks _ _ _ _ _ _) args
  case setAuthTimeout => exact setAuthTimeout_keeps args s
  case clearGatewayHold => exact noArgs_keeps ⟨⟨rfl, rfl, rfl, rfl⟩, rfl, rfl, rfl⟩ args
  case setPrintWaits => exact setPrintWaits_keeps args s
  case redirectJob => exact redirectJob_keeps args s
  case cancelJob => exact cancelJob_keeps args s
  case dropOwed => exact dropOwed_keeps args s
  case proofTemplate => exact proofTemplate_keeps args s
  case configurePort => exact configurePort_keeps args s
  case enablePort => exact enablePort_keeps args s
  case restorePort => exact restorePort_keeps args s
  case clearErrorCode => exact clearErrorCode_keeps args s
  case openFoyer => exact openFoyer_keeps args s
  case closeFoyer => exact closeFoyer_keeps args s
  case wake => exact wake_keeps args s
  case setClock => exact setClock_keeps args s
  case loadCounters => exact loadCounters_keeps args s
  case setNoticeEnables => exact setNoticeEnables_keeps args s
  all_goals exact absurd h Bool.false_ne_true

end Sys2Proof.Machine
end

section
/-! One dispatch for every invariant of what is held: what the bodies of the commands owe, and what every step then keeps. -/

namespace Sys2Proof.Machine

/-! ## Kiosk requests, reports and links that keep what is held -/

theorem seatQuery_fst (p : PortNo) (payload : Bytes) (s : State) : (seatQuery p payload s).1 = s := by
  unfold seatQuery
  split
  · rfl
  · split
    · rfl
    · dsimp only
      split
      · rfl
      · split
        · rfl
        · split <;> rfl

theorem reprint_keeps (p : PortNo) (payload : Bytes) (s : State) : s.HoldingsKept (reprint p payload s).1 := by
  unfold reprint
  split
  · exact .refl s
  · split
    · exact .refl s
    · split
      · exact .refl s
      · split
        · exact .refl s
        · split
          · exact .refl s
          · exact ((s.holdingsKept_of_blocks _ _ _ _ _ _).trans (State.addJob_keeps _ _)).trans (State.runArbiter_keeps _)

theorem State.documentDone_keeps (s : State) (c : ChannelNo) (j : Job) : s.HoldingsKept (s.documentDone c j) := by
  unfold State.documentDone
  split
  · exact ((s.setJobs_printStep _).trans (State.enterFetch_printStep _ _)).keeps
  · exact (s.endJob_printStep _ _).keeps

theorem State.resend_keeps (s : State) (c : ChannelNo) : s.HoldingsKept (s.resend c) := by
  unfold State.resend
  split
  · exact (s.enterSend_printStep _ _).keeps
  · exact (s.enterFetch_printStep _).keeps

theorem State.report_keeps (s : State) (c : ChannelNo) (p : PortNo) (j : Job) (r : PrinterReport) (index : Nat) :
    s.HoldingsKept (s.report c p j r index) := by
  unfold State.report
  split
  · split
    · exact (s.documentDone_keeps _ _).trans (State.runArbiter_keeps _)
    · exact .refl s
  · exact (s.setChannel_printStep _ _).keeps
  · exact (s.setChannel_printStep _ _).keeps
  · exact ((s.releaseOffer_printStep _).trans (State.setChannel_printStep _ _ _)).keeps
  · exact (s.setChannel_printStep _ _).keeps
  · exact (s.resend_keeps _).trans (State.runArbiter_keeps _)
  · exact .refl s
  · exact ((s.failJob_printStep _ _).trans (State.runArbiter_printStep _)).keeps
  · exact .refl s

theorem State.printerStatus_keeps (s : State) (p : PortNo) (payload : Bytes) : s.HoldingsKept (s.printerStatus p payload) := by
  unfold State.printerStatus
  split
  · split
    · exact s.report_keeps _ _ _ _ _
    · exact .refl s
  · exact .refl s

theorem State.passUp_keeps (s : State) (p : PortNo) (tag : Byte) (payload : Bytes) : s.HoldingsKept (s.passUp p tag payload) := by
  unfold State.passUp
  split
  · exact s.holdingsKept_of_blocks _ _ _ _ _ _
  · exact .refl s

theorem State.uplinkPass_keeps (s : State) (port tag : Byte) (payload : Bytes) :
    s.HoldingsKept (s.uplinkPass port tag payload) := by
  unfold State.uplinkPass State.passDown
  split
  · exact .refl s
  · split
    · dsimp only
      split
      · exact s.setPort_keeps _ _
      · exact .refl s
    · exact .refl s

theorem State.printFrameEnd_keeps (s : State) (p : PortNo) (o : PrintOffer) : s.HoldingsKept (s.printFrameEnd p o) := by
  unfold State.printFrameEnd State.printSent
  dsimp only
  split
  · exact s.setPort_keeps _ _
  · refine (s.setPort_keeps p { s.port p with printOffer := none }).trans ?_
    split
    · split
      · exact (State.setChannel_printStep _ _ _).keeps
      · exact ((State.setChannel_printStep _ _ _).trans (State.offer_printStep _ _)).keeps
    · exact (State.offer_printStep _ _).keeps

theorem State.kioskFrameEnd_keeps (s : State) (p : PortNo) : s.HoldingsKept (s.kioskFrameEnd p) := by
  unfold State.kioskFrameEnd
  split
  · exact .refl s
  · dsimp only
    refine (s.setPort_keeps p { s.port p with sending := none }).trans ?_
    split
    · exact State.setPort_keeps _ _ _
    · exact State.setPort_keeps _ _ _
    · split
      · exact State.printFrameEnd_keeps _ _ _
      · exact .refl _
    · exact .refl _

theorem State.uplinkStart_keeps (s : State) : s.HoldingsKept s.uplinkStart := by
  unfold State.uplinkStart State.startNotice
  split
  · exact s.holdingsKept_of_blocks _ _ _ _ _ _
  · split
    · exact s.holdingsKept_of_blocks _ _ _ _ _ _
    · split
      · exact s.holdingsKept_of_blocks _ _ _ _ _ _
      · split
        · exact s.holdingsKept_of_blocks _ _ _ _ _ _
        · exact .refl s

theorem State.expirePrinterWait_printStep (s : State) (c : ChannelNo) : s.PrintStep (s.expirePrinterWait c) := by
  unfold State.expirePrinterWait
  split
  · exact s.failJob_printStep _ _
  · exact .refl s

theorem State.expirePaperWait_printStep (s : State) (c : ChannelNo) : s.PrintStep (s.expirePaperWait c) := by
  unfold State.expirePaperWait
  split
  · exact s.failJob_printStep _ _
  · exact .refl s

theorem State.expireWaitsOf_printStep (cs : List ChannelNo) (s : State) :
    s.PrintStep (cs.foldl (fun s c => (s.expirePrinterWait c).expirePaperWait c) s) := by
  induction cs generalizing s with
  | nil => exact .refl s
  | cons c cs ih => exact ((s.expirePrinterWait_printStep c).trans (State.expirePaperWait_printStep _ c)).trans (ih _)

theorem State.tickWaits_keeps (s : State) : s.HoldingsKept s.tickWaits :=
  (s.holdingsKept_of_blocks _ _ _ _ _ _).trans
    ((State.expireWaitsOf_printStep _ _).trans (State.runArbiter_printStep _)).keeps

/-- An entry found by a tag is the one its own tag finds. -/
theorem State.entryTagged_self {s : State} {tag : Nat} {e : AuthEntry} (h : s.entryTagged tag = some e) :
    s.entryTagged e.tag = some e := by
  have ht : e.tag = tag := by simpa using List.find?_some h
  rw [ht]; exact h

/-! ## The dispatch -/

/-- What the bodies of the commands owe for `Q` to hold after every step from a state with `P`: the two rest on what is held alone,
and each command that changes what is held leads from `P` to `Q`. -/
structure Leads (P Q : State → Prop) : Prop where
  weaken : ∀ {s}, P s → Q s
  before : ∀ {s t}, s.HoldingsKept t → P s → P t
  after : ∀ {s t}, s.HoldingsKept t → Q s → Q t
  resetPart : ∀ s cause, Q s → Q (s.resetPart cause)
  command : ∀ (c : Command) args s, c.reports = false → c.settles = false → P s → Q (c.body args s).1
  hold : ∀ p payload s, P s → Q (Machine.hold p payload s).1
  release : ∀ p payload s, P s → Q (Machine.release p payload s).1
  setType : ∀ p a s, (s.basket p).state ≠ .authorising → P s → Q (setTypeBody p a s).1
  addCombo : ∀ p a s, (s.basket p).state ≠ .authorising → P s → Q (addComboBody p a s).1
  removeCombo : ∀ p a s, (s.basket p).state ≠ .authorising → P s → Q (removeComboBody p a s).1
  applyCredit : ∀ p a s, (s.basket p).state ≠ .authorising → P s → Q (applyCreditBody p a s).1
  removeCredit : ∀ p a s, (s.basket p).state ≠ .authorising → P s → Q (removeCreditBody p a s).1
  undo : ∀ p a s, (s.basket p).state ≠ .authorising → P s → Q (undoBody p a s).1
  cancel : ∀ p a s, (s.basket p).state ≠ .authorising → P s → Q (cancelBody p a s).1
  price : ∀ p payload s, P s → Q (Machine.price p payload s).1
  redeem : ∀ p payload s, P s → Q (Machine.redeem p payload s).1
  pay : ∀ p tag payload s, P s → Q (State.pay s p tag payload)
  resolve : ∀ e o code s, s.entryTagged e.tag = some e → P s → Q (State.resolve s e o code)
  leaveActive : ∀ p st s, P s → Q (State.leaveActive s p st)
  expireLeases : ∀ s, P s → Q (State.expireLeases s)
  expireAuths : ∀ s, P s → Q (State.expireAuths s)
  tick : ∀ s, P s → Q (State.tickAuths (State.tickLeases s))
  completeStore : ∀ s, P s → Q (State.completeStore s)

namespace Leads

variable {P Q : State → Prop} {s : State}

theorem restartNow (h : Leads P Q) (hq : Q s) : Q s.restartNow := h.after (State.start_keeps _) (h.resetPart s _ hq)

theorem settleRestart (h : Leads P Q) (hq : Q s) : Q s.settleRestart := by
  unfold State.settleRestart
  split
  · exact h.restartNow hq
  · exact hq

theorem beginStart (h : Leads P Q) (hq : Q s) : Q s.beginStart := by
  unfold State.beginStart
  split
  · exact hq
  · exact h.after s.start_keeps hq

/-- Every body of a management command leads from `P` to `Q`. -/
theorem body (h : Leads P Q) (c : Command) (args : Bytes) (hp : P s) : Q (c.body args s).1 := by
  cases hr : c.reports with
  | true => rw [Command.body_fst_of_reports hr]; exact h.weaken hp
  | false =>
    cases hc : c.settles with
    | true => exact h.after (Command.body_keeps_of_settles hc args s) (h.weaken hp)
    | false => exact h.command c args s hr hc hp

theorem manage (h : Leads P Q) (c : Command) (tag : Byte) (args : Bytes) (hp : P s) : Q (s.manage c tag (c.body args)) := by
  unfold State.manage
  split
  · exact h.weaken hp
  · exact h.settleRestart (h.after (State.mgmtAnswer_keeps _ _ _ _ _) (h.body c args hp))

theorem takeRequest (h : Leads P Q) (p : PortNo) {owner : State → State} (ho : ∀ t, P t → Q (owner t)) (hp : P s) :
    Q (s.takeRequest p owner) := by
  unfold State.takeRequest
  split
  · exact h.weaken hp
  · split
    · exact h.weaken hp
    · exact ho _ (h.before (s.goodFrame_keeps p) hp)

theorem request (h : Leads P Q) (c : KioskClass) (p : PortNo) (tag : Byte) {body : State → Answer}
    (hb : ∀ t, P t → Q (body t).1) (hp : P s) : Q (s.request c p tag body) :=
  h.takeRequest p (fun t ht => h.after (State.answer_keeps _ _ _ _ _ _) (hb t ht)) hp

/-- A basket request refused changes nothing; one that passes its checks finds its basket not AUTHORISING (R46). -/
theorem basketRequest (h : Leads P Q) {α : Type} (p : PortNo) (served : Bool) (arg : Option α) {body : α → State → Answer}
    (hb : ∀ a t, (t.basket p).state ≠ .authorising → P t → Q (body a t).1) (hp : P s) :
    Q (Machine.basketRequest p served arg body s).1 := by
  unfold Machine.basketRequest
  split
  · exact h.weaken hp
  · split
    · exact h.weaken hp
    · split
      · exact h.weaken hp
      · rename_i hc
        refine hb _ _ (fun ha => ?_) hp
        simp only [State.basketCheck, ha, if_true] at hc
        split at hc <;> exact Option.some_ne_none _ hc

theorem runCommand (h : Leads P Q) (c : Command) (tag : Byte) (args : Bytes) (hp : P s) :
    Reaches (Machine.runCommand c tag args s) Q :=
  ⟨_, runCommand_eq c tag args s, h.manage c tag args hp⟩

theorem runClass (h : Leads P Q) (c : KioskClass) (p : PortNo) (tag : Byte) (payload : Bytes) (hp : P s) :
    Reaches (Machine.runClass c p tag payload s) Q := by
  cases c
  case seatQuery =>
    exact ⟨_, rfl, h.request .seatQuery p tag (fun t ht => by rw [seatQuery_fst]; exact h.weaken ht) hp⟩
  case hold => exact ⟨_, rfl, h.request .hold p tag (h.hold p payload) hp⟩
  case release => exact ⟨_, rfl, h.request .release p tag (h.release p payload) hp⟩
  case setType => exact ⟨_, rfl, h.request .setType p tag (fun _ => h.basketRequest p _ _ (h.setType p)) hp⟩
  case addCombo => exact ⟨_, rfl, h.request .addCombo p tag (fun _ => h.basketRequest p _ _ (h.addCombo p)) hp⟩
  case removeCombo => exact ⟨_, rfl, h.request .removeCombo p tag (fun _ => h.basketRequest p _ _ (h.removeCombo p)) hp⟩
  case applyCredit => exact ⟨_, rfl, h.request .applyCredit p tag (fun _ => h.basketRequest p _ _ (h.applyCredit p)) hp⟩
  case removeCredit => exact ⟨_, rfl, h.request .removeCredit p tag (fun _ => h.basketRequest p _ _ (h.removeCredit p)) hp⟩
  case undo => exact ⟨_, rfl, h.request .undo p tag (fun _ => h.basketRequest p _ _ (h.undo p)) hp⟩
  case cancel => exact ⟨_, rfl, h.request .cancel p tag (fun _ => h.basketRequest p _ _ (h.cancel p)) hp⟩
  case price => exact ⟨_, rfl, h.request .price p tag (h.price p payload) hp⟩
  case pay => exact ⟨_, rfl, h.takeRequest p (h.pay p tag payload) hp⟩
  case redeem => exact ⟨_, rfl, h.request .redeem p tag (h.redeem p payload) hp⟩
  case reprint => exact ⟨_, rfl, h.request .reprint p tag (fun t ht => h.after (reprint_keeps p payload t) (h.weaken ht)) hp⟩
  case printerStatus =>
    refine ⟨_, rfl, ?_⟩
    split
    · exact h.weaken hp
    · exact h.after ((s.goodFrame_keeps p).trans (State.printerStatus_keeps _ _ _)) (h.weaken hp)
  case pass =>
    refine ⟨_, rfl, ?_⟩
    split
    · exact h.weaken hp
    · exact h.after ((s.goodFrame_keeps p).trans (State.passUp_keeps _ _ _ _)) (h.weaken hp)

theorem runFailed (h : Leads P Q) (p : PortNo) (e : FramingError) (hp : P s) : Q (s.runFailed p e) := by
  have h1 := h.before (s.setPort_keeps p { s.port p with errorCount := min 255 ((s.port p).errorCount + 8), lastError := e }) hp
  unfold State.runFailed
  dsimp only
  generalize s.setPort p _ = t at h1
  have h2 : ∀ c : Prop, [Decidable c] → ∀ content, P (if c then t.raise .portWarn content else t) := by
    intro c _ content
    split
    · exact h.before (t.raise_keeps _ _) h1
    · exact h1
  split
  · exact h.leaveActive _ _ _ (h.before (State.raise_keeps _ _ _) (h2 _ _))
  · exact h.weaken (h2 _ _)

theorem kioskRunFailed (h : Leads P Q) (p : PortNo) (run : Bytes) (hp : P s) : Reaches (execKioskRunFailed p run s) Q := by
  unfold execKioskRunFailed
  split
  · refine ⟨_, rfl, ?_⟩
    split
    · exact h.weaken hp
    · exact h.runFailed p _ hp
  · exact h.runClass _ _ _ _ hp

theorem authResponse (h : Leads P Q) (payload : Bytes) (hp : P s) : Q (s.authResponse payload) := by
  unfold State.authResponse
  split
  · exact h.weaken hp
  · split
    · exact h.after (s.raise_keeps _ _) (h.weaken hp)
    · split
      · exact h.after (s.raise_keeps _ _) (h.weaken hp)
      · rename_i e he
        exact h.resolve e _ _ s (State.entryTagged_self he) hp

theorem unknownCommand (h : Leads P Q) (tag : Byte) (payload : Bytes) (hp : P s) :
    Reaches (execUnknownCommand tag payload s) Q := by
  unfold execUnknownCommand
  split
  · refine ⟨_, rfl, ?_⟩
    unfold State.emptyCommand
    split
    · exact h.weaken hp
    · exact h.after (s.holdingsKept_of_blocks _ _ _ _ _ _) (h.weaken hp)
  · split
    · exact h.runCommand _ _ _ hp
    · refine ⟨_, rfl, ?_⟩
      unfold State.unknownCode
      split
      · exact h.weaken hp
      · exact h.after (s.mgmtAnswer_keeps _ _ _ _) (h.weaken hp)

theorem uplinkEnvelope (h : Leads P Q) (etherType : BitVec 16) (checkOk : Bool) (data : Bytes) (hp : P s) :
    Reaches (execUplinkEnvelopeDiscarded etherType checkOk data s) Q := by
  unfold execUplinkEnvelopeDiscarded
  split
  · exact ⟨_, rfl, h.weaken hp⟩
  · exact h.unknownCommand _ _ hp
  · exact ⟨_, rfl, h.authResponse _ hp⟩
  · exact ⟨_, rfl, h.after (s.uplinkPass_keeps _ _ _) (h.weaken hp)⟩

theorem uplinkFrameEnd (h : Leads P Q) (hp : P s) : Q s.uplinkFrameEnd := by
  unfold State.uplinkFrameEnd
  split
  · exact h.weaken hp
  · dsimp only
    split
    · exact h.after (s.holdingsKept_of_blocks _ _ _ _ _ _) (h.weaken hp)
    · have hq := h.after (s.holdingsKept_of_blocks s.ports
        { s.uplink with sending := none, replies := s.uplink.replies.drop 1 } s.control s.print s.prices s.freeCount)
        (h.weaken hp)
      unfold State.replySent
      split
      · exact h.restartNow hq
      · exact hq
    · exact h.after (s.holdingsKept_of_blocks _ _ _ _ _ _) (h.weaken hp)
    · exact h.after (s.holdingsKept_of_blocks _ _ _ _ _ _) (h.weaken hp)
    · exact h.after (s.holdingsKept_of_blocks _ _ _ _ _ _) (h.weaken hp)

/-- A command that keeps what is held, where it acts. -/
theorem next_of_keeps (h : Leads P Q) {c : Bool} {t : State} (hk : s.HoldingsKept t) (hp : P s) :
    Reaches (.next (if c then t else s)) Q := by
  refine ⟨_, rfl, ?_⟩
  split
  · exact h.after hk (h.weaken hp)
  · exact h.weaken hp

theorem next_ite (h : Leads P Q) {c : Bool} {t : State} (ht : Q t) (hp : P s) :
    Reaches (.next (if c then t else s)) Q := by
  refine ⟨_, rfl, ?_⟩
  split
  · exact ht
  · exact h.weaken hp

theorem waitExpiry (h : Leads P Q) {c : Bool} {t : State} (hk : s.PrintStep t) (hp : P s) :
    Reaches (.next (if c then t.runArbiter else s)) Q :=
  h.next_of_keeps (hk.trans (State.runArbiter_printStep _)).keeps hp

theorem resetInputAsserted (h : Leads P Q) (hp : P s) : Reaches (execResetInputAsserted s) Q := by
  refine ⟨_, rfl, ?_⟩
  split
  · exact h.weaken hp
  · exact h.after (State.setControl_keeps _ _) (h.resetPart s _ (h.weaken hp))

theorem resetInputReleased (h : Leads P Q) (hp : P s) : Reaches (execResetInputReleased s) Q := by
  refine ⟨_, rfl, ?_⟩
  split
  · exact h.beginStart (h.after (s.setControl_keeps _) (h.weaken hp))
  · exact h.weaken hp

/-- Every command leads from `P` to `Q`. -/
theorem exec (h : Leads P Q) (c : Instr) (hp : P s) : Reaches (Machine.exec c s) Q := by
  cases c
  case seatQuery p tag payload => exact h.runClass .seatQuery p tag payload hp
  case hold p tag payload => exact h.runClass .hold p tag payload hp
  case release p tag payload => exact h.runClass .release p tag payload hp
  case setType p tag payload => exact h.runClass .setType p tag payload hp
  case addCombo p tag payload => exact h.runClass .addCombo p tag payload hp
  case removeCombo p tag payload => exact h.runClass .removeCombo p tag payload hp
  case applyCredit p tag payload => exact h.runClass .applyCredit p tag payload hp
  case removeCredit p tag payload => exact h.runClass .removeCredit p tag payload hp
  case undo p tag payload => exact h.runClass .undo p tag payload hp
  case cancel p tag payload => exact h.runClass .cancel p tag payload hp
  case price p tag payload => exact h.runClass .price p tag payload hp
  case pay p tag payload => exact h.runClass .pay p tag payload hp
  case redeem p tag payload => exact h.runClass .redeem p tag payload hp
  case reprint p tag payload => exact h.runClass .reprint p tag payload hp
  case printerStatus p tag payload => exact h.runClass .printerStatus p tag payload hp
  case kioskPass p tag payload => exact h.runClass .pass p tag payload hp
  case kioskRunFailed p run => exact h.kioskRunFailed p run hp
  case kioskFrameStart p => exact h.next_of_keeps (s.setPort_keeps _ _) hp
  case kioskFrameEnd p => exact ⟨_, rfl, h.after (s.kioskFrameEnd_keeps p) (h.weaken hp)⟩
  case authResponse payload => exact ⟨_, rfl, h.authResponse payload hp⟩
  case uplinkPass port tag payload => exact ⟨_, rfl, h.after (s.uplinkPass_keeps port tag payload) (h.weaken hp)⟩
  case uplinkEnvelopeDiscarded etherType checkOk data => exact h.uplinkEnvelope etherType checkOk data hp
  case uplinkFrameStart => exact h.next_of_keeps s.uplinkStart_keeps hp
  case uplinkFrameEnd => exact ⟨_, rfl, h.uplinkFrameEnd hp⟩
  case uplinkLinkDown =>
    exact ⟨_, rfl, h.settleRestart (h.after (s.holdingsKept_of_blocks _ _ _ _ _ _) (h.weaken hp))⟩
  case uplinkLinkUp => exact h.next_of_keeps (s.holdingsKept_of_blocks _ _ _ _ _ _) hp
  case unknownCommand tag payload => exact h.unknownCommand tag payload hp
  case defineShow tag args => exact h.runCommand .defineShow tag args hp
  case loadSeats tag args => exact h.runCommand .loadSeats tag args hp
  case openShow tag args => exact h.runCommand .openShow tag args hp
  case closeShow tag args => exact h.runCommand .closeShow tag args hp
  case removeShow tag args => exact h.runCommand .removeShow tag args hp
  case setSeat tag args => exact h.runCommand .setSeat tag args hp
  case markSold tag args => exact h.runCommand .markSold tag args hp
  case releaseBlock tag args => exact h.runCommand .releaseBlock tag args hp
  case readSeats tag args => exact h.runCommand .readSeats tag args hp
  case setLeaseTimes tag args => exact h.runCommand .setLeaseTimes tag args hp
  case readLeaseTimes tag args => exact h.runCommand .readLeaseTimes tag args hp
  case stageBand tag args => exact h.runCommand .stageBand tag args hp
  case stageTicketType tag args => exact h.runCommand .stageTicketType tag args hp
  case stageCombo tag args => exact h.runCommand .stageCombo tag args hp
  case stageTax tag args => exact h.runCommand .stageTax tag args hp
  case stageCeiling tag args => exact h.runCommand .stageCeiling tag args hp
  case reloadStaged tag args => exact h.runCommand .reloadStaged tag args hp
  case readPrices tag args => exact h.runCommand .readPrices tag args hp
  case commitPrices tag args => exact h.runCommand .commitPrices tag args hp
  case setAuthTimeout tag args => exact h.runCommand .setAuthTimeout tag args hp
  case readAuthTimeout tag args => exact h.runCommand .readAuthTimeout tag args hp
  case clearGatewayHold tag args => exact h.runCommand .clearGatewayHold tag args hp
  case reconcile tag args => exact h.runCommand .reconcile tag args hp
  case readAuthorisations tag args => exact h.runCommand .readAuthorisations tag args hp
  case issueCredit tag args => exact h.runCommand .issueCredit tag args hp
  case voidVoucher tag args => exact h.runCommand .voidVoucher tag args hp
  case readVoucher tag args => exact h.runCommand .readVoucher tag args hp
  case readVoucherStatus tag args => exact h.runCommand .readVoucherStatus tag args hp
  case setPrintWaits tag args => exact h.runCommand .setPrintWaits tag args hp
  case redirectJob tag args => exact h.runCommand .redirectJob tag args hp
  case cancelJob tag args => exact h.runCommand .cancelJob tag args hp
  case dropOwed tag args => exact h.runCommand .dropOwed tag args hp
  case proofTemplate tag args => exact h.runCommand .proofTemplate tag args hp
  case readPrintStatus tag args => exact h.runCommand .readPrintStatus tag args hp
  case writeEnable tag args => exact h.runCommand .writeEnable tag args hp
  case writeDisable tag args => exact h.runCommand .writeDisable tag args hp
  case eraseSector tag args => exact h.runCommand .eraseSector tag args hp
  case eraseAll tag args => exact h.runCommand .eraseAll tag args hp
  case programPage tag args => exact h.runCommand .programPage tag args hp
  case setProtect tag args => exact h.runCommand .setProtect tag args hp
  case readStore tag args => exact h.runCommand .readStore tag args hp
  case readStoreStatus tag args => exact h.runCommand .readStoreStatus tag args hp
  case siteProgram tag args => exact h.runCommand .siteProgram tag args hp
  case siteLock tag args => exact h.runCommand .siteLock tag args hp
  case readSiteRecord tag args => exact h.runCommand .readSiteRecord tag args hp
  case configurePort tag args => exact h.runCommand .configurePort tag args hp
  case enablePort tag args => exact h.runCommand .enablePort tag args hp
  case disablePort tag args => exact h.runCommand .disablePort tag args hp
  case restorePort tag args => exact h.runCommand .restorePort tag args hp
  case clearErrorCode tag args => exact h.runCommand .clearErrorCode tag args hp
  case readPort tag args => exact h.runCommand .readPort tag args hp
  case openFoyer tag args => exact h.runCommand .openFoyer tag args hp
  case closeFoyer tag args => exact h.runCommand .closeFoyer tag args hp
  case night tag args => exact h.runCommand .night tag args hp
  case wake tag args => exact h.runCommand .wake tag args hp
  case restart tag args => exact h.runCommand .restart tag args hp
  case identify tag args => exact h.runCommand .identify tag args hp
  case readFoyerStatus tag args => exact h.runCommand .readFoyerStatus tag args hp
  case setClock tag args => exact h.runCommand .setClock tag args hp
  case dayRoll tag args => exact h.runCommand .dayRoll tag args hp
  case loadCounters tag args => exact h.runCommand .loadCounters tag args hp
  case setNoticeEnables tag args => exact h.runCommand .setNoticeEnables tag args hp
  case tick =>
    exact h.next_ite (h.after (State.tickWaits_keeps _) (h.tick _ (h.before (s.setControl_keeps _) hp))) hp
  case leaseExpiry => exact h.next_ite (h.expireLeases s hp) hp
  case authTimeout => exact h.next_ite (h.expireAuths s hp) hp
  case printerWaitExpiry channel => exact h.waitExpiry (s.expirePrinterWait_printStep channel) hp
  case paperWaitExpiry channel => exact h.waitExpiry (s.expirePaperWait_printStep channel) hp
  case storeOperationCompletion => exact h.next_ite (h.completeStore s hp) hp
  case powerOn => exact ⟨_, rfl, h.resetPart s _ (h.weaken hp)⟩
  case resetInputAsserted => exact h.resetInputAsserted hp
  case resetInputReleased => exact h.resetInputReleased hp
  case startUp => exact ⟨_, rfl, h.beginStart (h.weaken hp)⟩
  case keyInputChange active => exact ⟨_, rfl, h.after (s.setControl_keeps _) (h.weaken hp)⟩
  case lineIdle p => exact h.next_of_keeps (s.setPort_keeps _ _) hp

/-- Every step leads from `P` to `Q`: on an empty queue the part idles. -/
theorem step (h : Leads P Q) {s t : State} (hp : P s) (hs : Machine.step s = .next t) : Q t := by
  unfold Machine.step at hs
  split at hs
  · cases hs
    exact h.weaken hp
  · rename_i c rest _
    have hk : s.HoldingsKept { s with pending := rest } := ⟨⟨rfl, rfl, rfl, rfl⟩, rfl, rfl, rfl⟩
    obtain ⟨u, hu, hq⟩ := h.exec c (h.before hk hp)
    rw [hu] at hs
    cases hs
    exact hq

end Leads

end Sys2Proof.Machine
end

section
/-! Every step keeps every addressed store in its canonical form. -/

namespace Sys2Proof.Machine

/-! ## The pieces of a step -/

/-- The canonical form rests on the Seat Pool, the voucher slots, the Serial Index and the Template Store alone. -/
theorem State.Canonical.congr {s t : State} (h : s.Canonical) (hp : t.seats.pool = s.seats.pool)
    (hs : t.vouchers.slots = s.vouchers.slots) (hi : t.vouchers.index = s.vouchers.index) (hst : t.store = s.store) :
    t.Canonical where
  pool := by rw [hp]; exact h.pool
  slots := by rw [hs]; exact h.slots
  index := by rw [hi]; exact h.index
  cells := by rw [hst]; exact h.cells
  siteRecord := by rw [hst]; exact h.siteRecord

theorem State.Canonical.kept {s t : State} (hk : s.HoldingsKept t) (h : s.Canonical) : t.Canonical :=
  h.congr hk.pool hk.slots hk.index hk.store

theorem State.Canonical.setSeat {s : State} (h : s.Canonical) (i : ShowNo) (k : Nat) (x : Seat) :
    (s.setSeat i k x).Canonical :=
  ⟨s.setSeat_pool_wf h.pool i k x, h.slots, h.index, h.cells, h.siteRecord⟩

theorem State.Canonical.setSeatState {s : State} (h : s.Canonical) (i : ShowNo) (k : Nat) (x : SeatState) :
    (s.setSeatState i k x).Canonical := h.setSeat i k _

theorem State.Canonical.setBasket {s : State} (h : s.Canonical) (p : PortNo) (b : Basket) : (s.setBasket p b).Canonical :=
  h.congr rfl rfl rfl rfl

theorem State.Canonical.setShow {s : State} (h : s.Canonical) (i : ShowNo) (x : Show) : (s.setShow i x).Canonical :=
  h.congr rfl rfl rfl rfl

theorem State.Canonical.blankRange {s : State} (h : s.Canonical) (base count : Nat) : (s.blankRange base count).Canonical :=
  ⟨s.blankRange_pool_wf h.pool base count, h.slots, h.index, h.cells, h.siteRecord⟩

theorem State.Canonical.changeSlot {s : State} (h : s.Canonical) (n : Nat) (f : Slot → Slot) :
    (s.changeSlot n f).Canonical := by
  have hw := s.changeSlot_slots_wf h.slots n f
  rw [s.changeSlot_frame] at hw ⊢
  exact ⟨h.pool, hw, h.index, h.cells, h.siteRecord⟩

theorem State.Canonical.issue {s : State} (h : s.Canonical) (kind : VoucherKind) (sale expiry : Nat) :
    (s.issue kind sale expiry).1.Canonical :=
  ⟨h.pool, (s.issue_wf h.slots h.index kind sale expiry).1, (s.issue_wf h.slots h.index kind sale expiry).2, h.cells,
    h.siteRecord⟩

theorem State.Canonical.setRelay {s : State} (h : s.Canonical) (r : PaymentRelay) :
    State.Canonical { s with relay := r } := h.congr rfl rfl rfl rfl

theorem State.Canonical.setReservation {s : State} (h : s.Canonical) (n : Nat) :
    State.Canonical { s with vouchers := { s.vouchers with reservation := n } } := h.congr rfl rfl rfl rfl

theorem State.Canonical.setUplink {s : State} (h : s.Canonical) (u : UplinkUnit) :
    State.Canonical { s with uplink := u } := h.congr rfl rfl rfl rfl

/-- A new Template Store with its bytes and the Site Record in canonical form. -/
theorem State.Canonical.setStore {s : State} (h : s.Canonical) {st : TemplateStore}
    (hc : Sparse.wf st.unlisted st.cells = true) (hr : Sparse.wf erasedByte st.siteRecord = true) :
    (s.setStore st).Canonical :=
  ⟨h.pool, h.slots, h.index, hc, hr⟩

/-- What each step of a fold keeps, the fold keeps. -/
theorem foldl_keeps {α : Type} {P : State → Prop} {f : State → α → State} (hf : ∀ s a, P s → P (f s a)) (xs : List α)
    {s : State} (h : P s) : P (xs.foldl f s) :=
  List.foldlRecOn xs f h fun t ht a _ => hf t a ht

/-- What is kept at each seat is kept by a pass over every seat of every show. -/
theorem State.forSeats_keeps {P : State → Prop} {f : State → ShowNo → Nat → State} (hf : ∀ s i k, P s → P (f s i k))
    {s : State} (h : P s) : P (s.forSeats f) := by
  refine foldl_keeps (fun t i ht => ?_) _ h
  split
  · exact ht
  · exact foldl_keeps (fun u k hu => hf u i k hu) _ ht

theorem State.Canonical.returnSeats {s : State} (h : s.Canonical) (i : ShowNo) (ks : List Nat) :
    (s.returnSeats i ks).Canonical := foldl_keeps (fun _ k ht => ht.setSeatState i k _) ks h

theorem State.Canonical.takeSeats {s : State} (h : s.Canonical) (p : PortNo) (i : ShowNo) (ks : List Nat) :
    (s.takeSeats p i ks).Canonical := foldl_keeps (fun _ k ht => ht.setSeatState i k _) ks h

theorem State.Canonical.sellSeats {s : State} (h : s.Canonical) (i : ShowNo) (sale : Nat) (ls : List PricedLine) :
    (s.sellSeats i sale ls).Canonical := foldl_keeps (fun _ (l : PricedLine) ht => ht.setSeatState i l.seat _) ls h

theorem State.Canonical.changeSlots {s : State} (h : s.Canonical) (f : Slot → Slot) (ns : List Nat) :
    (ns.foldl (fun s n => s.changeSlot n f) s).Canonical := foldl_keeps (fun _ n ht => ht.changeSlot n f) ns h

theorem State.Canonical.writeSeats {s : State} (h : s.Canonical) (i : ShowNo) (k : Nat) (xs : List Seat) :
    (s.writeSeats i k xs).Canonical := by
  induction xs generalizing s k with
  | nil => exact h
  | cons x xs ih => exact ih (h.setSeat i k x) (k + 1)

theorem State.Canonical.loseHeld {s : State} (h : s.Canonical) (i : ShowNo) (k : Nat) : (s.loseHeld i k).Canonical := by
  unfold State.loseHeld
  split
  · exact (h.setSeatState i k _).setBasket _ _
  · exact h

theorem State.Canonical.voidBasket {s : State} (h : s.Canonical) (p : PortNo) : (s.voidBasket p).Canonical :=
  ((h.returnSeats _ _).changeSlots _ _).setBasket _ _

/-! ## Management commands -/

theorem State.Canonical.withShow {s : State} (h : s.Canonical) (hd : Handle) (legal : List ShowState) {body : State → Answer}
    (hb : (body s).1.Canonical) : (withShow hd legal body s).1.Canonical :=
  withShow_fst_of_body h fun _ => hb

theorem defineShow_canonical (args : Bytes) {s : State} (h : s.Canonical) : (defineShow args s).1.Canonical := by
  unfold defineShow
  split
  · exact h
  · split
    · exact h
    · split
      · exact h
      · split
        · split
          · exact h
          · split
            · exact h
            · split
              · exact h
              · exact (h.blankRange _ _).setShow _ _
        · exact h

theorem loadSeats_canonical (args : Bytes) {s : State} (h : s.Canonical) : (loadSeats args s).1.Canonical := by
  unfold loadSeats
  split
  · exact h
  · refine h.withShow _ _ ?_
    split
    · exact h
    · split
      · exact h
      · exact h.writeSeats _ _ _

theorem openShow_canonical (args : Bytes) {s : State} (h : s.Canonical) : (openShow args s).1.Canonical := by
  unfold openShow
  split
  · exact h
  · exact h.withShow _ _ (h.setShow _ _)

theorem closeShow_canonical (args : Bytes) {s : State} (h : s.Canonical) : (closeShow args s).1.Canonical := by
  unfold closeShow
  split
  · exact h
  · exact h.withShow _ _ (h.setShow _ _)

theorem removeShow_canonical (args : Bytes) {s : State} (h : s.Canonical) : (removeShow args s).1.Canonical := by
  unfold removeShow
  split
  · exact h
  · refine h.withShow _ _ ?_
    dsimp only
    split
    · exact h
    · exact (h.blankRange _ _).setShow _ _

theorem setSeatCommand_canonical (args : Bytes) {s : State} (h : s.Canonical) : (setSeatCommand args s).1.Canonical := by
  unfold setSeatCommand
  split
  · exact h
  · refine h.withShow _ _ ?_
    split
    · exact h
    · split
      · exact h.setSeatState _ _ _
      · exact h.setSeatState _ _ _
      · exact h

theorem markSold_canonical (args : Bytes) {s : State} (h : s.Canonical) : (markSold args s).1.Canonical := by
  unfold markSold
  split
  · exact h
  · refine h.withShow _ _ ?_
    split
    · exact h
    · split
      · exact h
      · dsimp only
        split
        · exact h
        · exact foldl_keeps (fun _ k ht => ht.setSeatState _ k _) _ h

theorem releaseBlock_canonical (args : Bytes) {s : State} (h : s.Canonical) : (releaseBlock args s).1.Canonical := by
  unfold releaseBlock
  split
  · exact h
  · refine h.withShow _ _ ?_
    dsimp only
    split
    · exact h
    · exact foldl_keeps (fun _ k ht => ht.loseHeld _ k) _ h

/-- R159: the latch and the operation are no part of what is stored. -/
theorem latched_canonical {ok : Bool} {body : State → Answer} {s : State} (h : s.Canonical)
    (hb : ∀ t : State, t.Canonical → (body t).1.Canonical) : (latched ok body s).1.Canonical := by
  have ht : (s.setStore { s.store with writeEnable := false }).Canonical := h.setStore h.cells h.siteRecord
  unfold latched
  split
  · exact h
  · dsimp only
    split
    · exact ht
    · split
      · exact ht
      · exact hb _ ht

theorem noArgs_canonical {body : State → Answer} {s : State} (h : s.Canonical) (hb : (body s).1.Canonical) (args : Bytes) :
    (noArgs args body s).1.Canonical := by
  unfold noArgs
  split
  · exact hb
  · exact h

theorem setLatch_canonical (v : Bool) (args : Bytes) {s : State} (h : s.Canonical) : (setLatch v args s).1.Canonical := by
  refine noArgs_canonical h ?_ args
  split
  · exact h
  · exact h.setStore h.cells h.siteRecord

theorem eraseSector_canonical (args : Bytes) {s : State} (h : s.Canonical) : (eraseSector args s).1.Canonical := by
  unfold eraseSector
  split
  · exact h
  · split
    · exact latched_canonical h fun _ ht => ht
    · refine latched_canonical h fun t ht => ?_
      unfold eraseSectorBody
      split
      · exact ht
      · split
        · exact ht
        · exact ht.setStore ht.cells ht.siteRecord

theorem eraseAll_canonical (args : Bytes) {s : State} (h : s.Canonical) : (eraseAll args s).1.Canonical := by
  refine noArgs_canonical h (latched_canonical h fun t ht => ?_) args
  unfold eraseAllBody
  split
  · exact ht
  · split
    · exact ht
    · exact ht.setStore ht.cells ht.siteRecord

theorem programPage_canonical (args : Bytes) {s : State} (h : s.Canonical) : (programPage args s).1.Canonical := by
  unfold programPage
  split
  · exact h
  · split
    · refine latched_canonical h fun t ht => ?_
      unfold programPageBody
      split
      · exact ht
      · split
        · exact ht
        · exact ht.setStore ht.cells ht.siteRecord
    · exact latched_canonical h fun _ ht => ht

theorem setProtect_canonical (args : Bytes) {s : State} (h : s.Canonical) : (setProtect args s).1.Canonical := by
  unfold setProtect
  split
  · exact h
  · split
    · refine latched_canonical h fun t ht => ?_
      unfold setProtectBody
      split
      · exact ht
      · exact ht.setStore ht.cells ht.siteRecord
    · exact latched_canonical h fun _ ht => ht

theorem siteProgram_canonical (args : Bytes) {s : State} (h : s.Canonical) : (siteProgram args s).1.Canonical := by
  unfold siteProgram
  split
  · exact h
  · refine latched_canonical h fun t ht => ?_
    unfold siteProgramBody
    split
    · exact ht
    · exact ht.setStore ht.cells (TemplateStore.programSite_wf ht.siteRecord _)

theorem siteLock_canonical (args : Bytes) {s : State} (h : s.Canonical) : (siteLock args s).1.Canonical := by
  refine noArgs_canonical h (latched_canonical h fun t ht => ?_) args
  unfold siteLockBody
  split
  · exact ht
  · split
    · exact ht
    · exact ht.setStore ht.cells ht.siteRecord

theorem issueCredit_canonical (args : Bytes) {s : State} (h : s.Canonical) : (issueCredit args s).1.Canonical := by
  unfold issueCredit
  split
  · exact h
  · split
    · exact h
    · split
      · exact h
      · split
        · exact h
        · exact (h.issue _ _ _).kept (State.checkLow_keeps _)

theorem voidVoucher_canonical (args : Bytes) {s : State} (h : s.Canonical) : (voidVoucher args s).1.Canonical := by
  unfold voidVoucher
  split
  · exact h
  · split
    · exact h
    · exact h
    · exact ⟨h.pool, s.setSlot_slots_wf h.slots _ _, h.index, h.cells, h.siteRecord⟩
    · exact h

theorem dayRoll_canonical (args : Bytes) {s : State} (h : s.Canonical) : (dayRoll args s).1.Canonical := by
  unfold dayRoll
  split
  · exact h
  · rename_i d _
    split
    · exact h
    · obtain ⟨hs, hi⟩ := VoucherTable.reclaim_wf h.slots h.index d
      have ht : State.Canonical { s with control := { s.control with day := d }, vouchers := s.vouchers.reclaim d } :=
        ⟨h.pool, hs, hi, h.cells, h.siteRecord⟩
      exact ht.kept (State.checkLow_keeps _)

/-! ## The end of a sale, a payment or a port -/

theorem State.Canonical.issueSnacks {s : State} (h : s.Canonical) (sale expiry : Nat) (cs : List (Fin 32)) :
    (s.issueSnacks sale expiry cs).1.Canonical := by
  induction cs generalizing s with
  | nil => exact h
  | cons c cs ih => exact ih (h.issue _ _ _)

theorem State.Canonical.redeemCredits {s : State} (h : s.Canonical) (p : PortNo) (ns : List Nat) :
    (s.redeemCredits p ns).Canonical := foldl_keeps (fun _ n ht => ht.changeSlot n _) ns h

theorem State.Canonical.completeSale {s : State} (h : s.Canonical) (x : Sale) (code : Bytes) :
    (s.completeSale x code).1.Canonical := by
  refine State.Canonical.kept (State.raise_keeps _ _ _) (State.Canonical.redeemCredits ?_ x.origin x.claims)
  exact State.Canonical.setReservation (State.Canonical.issueSnacks (State.Canonical.sellSeats (h.setRelay _) _ _ _) _ _ _) _

theorem State.Canonical.dropEntry {s : State} (h : s.Canonical) (tag : Nat) : (s.dropEntry tag).Canonical := h.setRelay _

theorem State.Canonical.approve {s : State} (h : s.Canonical) (e : AuthEntry) (code : Bytes) : (s.approve e code).Canonical := by
  have h1 := (((h.completeSale e.sale code).dropEntry e.tag).kept (State.withdrawRequest_keeps _ e.tag)).setBasket e.origin
    ((((s.completeSale e.sale code).1.dropEntry e.tag).withdrawRequest e.tag).basket e.origin).cleared
  exact ((h1.kept (State.printSale_keeps _ _ _ _)).kept (State.answerKept_keeps _ _ _ _ _)).kept (State.runArbiter_keeps _)

theorem State.Canonical.decline {s : State} (h : s.Canonical) (e : AuthEntry) (fault : Bool) : (s.decline e fault).Canonical := by
  have h1 : (((s.dropEntry e.tag).withdrawRequest e.tag).freeReservation e.reservation).Canonical := h.congr rfl rfl rfl rfl
  refine State.Canonical.kept (State.checkLow_keeps _) (State.Canonical.kept (State.answerKept_keeps _ _ _ _ _) ?_)
  split
  · exact State.Canonical.setBasket
      (State.Canonical.changeSlots (foldl_keeps (fun _ k ht => ht.setSeatState _ k _) _ h1) _ _) _ _
  · exact State.Canonical.setBasket (State.Canonical.changeSlots (h1.returnSeats _ _) _ _) _ _

theorem State.Canonical.approveLate {s : State} (h : s.Canonical) (e : AuthEntry) (code : Bytes) (source : Nat) :
    (s.approveLate e code source).1.Canonical :=
  (((h.completeSale e.sale code).dropEntry e.tag).kept (State.owe_printStep _ _).keeps).kept (State.raise_keeps _ _ _)

theorem State.Canonical.releaseLate {s : State} (h : s.Canonical) (e : AuthEntry) (source : Nat) :
    (s.releaseLate e source).Canonical := by
  have h1 := (h.returnSeats e.handle.index (e.seatLines.map (·.seat))).changeSlots Slot.unclaim e.claims
  exact State.Canonical.kept (State.checkLow_keeps _) (State.Canonical.kept (State.raise_keeps _ _ _)
    ((h1.setReservation _).dropEntry e.tag))

theorem State.Canonical.timeOut {s : State} (h : s.Canonical) (e : AuthEntry) : (s.timeOut e).Canonical := by
  have h1 : State.Canonical { s with relay := { s.relay with
      entries := s.relay.entries.map (fun (x : AuthEntry) => if x.tag = e.tag then { x with state := .lost } else x) } } :=
    h.congr rfl rfl rfl rfl
  exact (((h1.setBasket e.origin _).kept (State.answerKept_keeps _ _ _ _ _)).kept (State.withdrawRequest_keeps _ _)).kept
    (State.raise_keeps _ _ _)

theorem State.Canonical.resolve {s : State} (h : s.Canonical) (e : AuthEntry) (o : AuthOutcome) (code : Bytes) :
    (s.resolve e o code).Canonical := by
  have hg : s.holdGateway.Canonical := h.congr rfl rfl rfl rfl
  unfold State.resolve
  split
  · exact h.approve e code
  · exact h.decline e false
  · exact hg.decline e true
  · exact h.approveLate e code 1
  · exact h.releaseLate e 1
  · exact hg.releaseLate e 1

theorem reconcile_canonical (args : Bytes) {s : State} (h : s.Canonical) : (reconcile args s).1.Canonical := by
  unfold reconcile
  split
  · exact h
  · split
    · exact h
    · split
      · exact h
      · split
        · exact h.approveLate _ _ _
        · exact h.releaseLate _ _

theorem State.Canonical.voidUnlessAuthorising {s : State} (h : s.Canonical) (p : PortNo) :
    (s.voidUnlessAuthorising p).Canonical := by
  unfold State.voidUnlessAuthorising
  split
  · exact h
  · exact h.voidBasket p

/-- Seats given up wherever a test picks them. -/
theorem State.Canonical.giveUpWhere {s : State} (h : s.Canonical) (c : State → ShowNo → Nat → Bool) :
    (s.forSeats fun s i k => if c s i k then s.giveUpSeat i k else s).Canonical := by
  refine State.forSeats_keeps (fun t i k ht => ?_) h
  split
  · exact ht.setSeatState i k _
  · exact ht

theorem State.Canonical.leaveActive {s : State} (h : s.Canonical) (p : PortNo) (st : PortState) :
    (s.leaveActive p st).Canonical := by
  have h1 := State.Canonical.voidUnlessAuthorising (h.kept (s.setPort_keeps p ((s.port p).lose st))) p
  exact ((h1.giveUpWhere fun s i k => (s.seatAt i k).state.heldBy p).kept (State.stopJob_keeps _ p)).kept
    (State.runArbiter_keeps _)

theorem disablePort_canonical (args : Bytes) {s : State} (h : s.Canonical) : (disablePort args s).1.Canonical := by
  unfold disablePort State.disable
  split
  · exact h
  · dsimp only
    split
    · exact h.voidUnlessAuthorising _
    · exact h.leaveActive _ _
    · exact h.kept (s.setPort_keeps _ _)

theorem State.Canonical.nightfall {s : State} (h : s.Canonical) : s.nightfall.Canonical := by
  have h1 : (allPorts.foldl (fun s p => s.voidBasket p) s).Canonical := foldl_keeps (fun t p ht => ht.voidBasket p) _ h
  unfold State.nightfall
  generalize allPorts.foldl _ s = t at h1
  have h2 : t.freeAllHeld.Canonical := h1.giveUpWhere fun s i k => (s.seatAt i k).state.isHeld
  exact h2.kept (State.holdingsKept_of_blocks _ _ _ _ _ _ _)

theorem night_canonical (args : Bytes) {s : State} (h : s.Canonical) : (night args s).1.Canonical := by
  refine noArgs_canonical h ?_ args
  split
  · exact h
  · split
    · exact h
    · exact h.nightfall.kept (State.setControl_keeps _ _)

/-- Every management command that changes what is held keeps the canonical form. -/
theorem Command.body_canonical (c : Command) (args : Bytes) {s : State} (hr : c.reports = false) (hc : c.settles = false)
    (h : s.Canonical) : (c.body args s).1.Canonical := by
  cases c
  case defineShow => exact defineShow_canonical args h
  case loadSeats => exact loadSeats_canonical args h
  case openShow => exact openShow_canonical args h
  case closeShow => exact closeShow_canonical args h
  case removeShow => exact removeShow_canonical args h
  case setSeat => exact setSeatCommand_canonical args h
  case markSold => exact markSold_canonical args h
  case releaseBlock => exact releaseBlock_canonical args h
  case reconcile => exact reconcile_canonical args h
  case issueCredit => exact issueCredit_canonical args h
  case voidVoucher => exact voidVoucher_canonical args h
  case writeEnable => exact setLatch_canonical true args h
  case writeDisable => exact setLatch_canonical false args h
  case eraseSector => exact eraseSector_canonical args h
  case eraseAll => exact eraseAll_canonical args h
  case programPage => exact programPage_canonical args h
  case setProtect => exact setProtect_canonical args h
  case siteProgram => exact siteProgram_canonical args h
  case siteLock => exact siteLock_canonical args h
  case disablePort => exact disablePort_canonical args h
  case night => exact night_canonical args h
  case dayRoll => exact dayRoll_canonical args h
  all_goals simp [Command.reports, Command.settles] at hr hc

/-! ## Kiosk requests -/

theorem hold_canonical (p : PortNo) (payload : Bytes) {s : State} (h : s.Canonical) : (hold p payload s).1.Canonical := by
  unfold hold
  split
  · exact h
  · split
    · exact h
    · split
      · exact h
      · split
        · exact h
        · dsimp only
          split
          · exact h
          · exact (h.takeSeats _ _ _).setBasket _ _

theorem release_canonical (p : PortNo) (payload : Bytes) {s : State} (h : s.Canonical) : (release p payload s).1.Canonical := by
  unfold release
  split
  · exact h
  · split
    · exact h
    · dsimp only
      split
      · exact h
      · split
        · exact h
        · exact (h.returnSeats _ _).setBasket _ _

theorem setTypeBody_canonical (p : PortNo) (a : Nat × Fin 8) {s : State} (h : s.Canonical) :
    (setTypeBody p a s).1.Canonical := by
  unfold setTypeBody
  dsimp only
  split
  · exact h
  · split
    · exact h
    · split
      · exact h
      · split
        · exact h
        · exact h.setBasket _ _

theorem addComboBody_canonical (p : PortNo) (c : Fin 32) {s : State} (h : s.Canonical) : (addComboBody p c s).1.Canonical := by
  unfold addComboBody
  dsimp only
  split
  · exact h
  · split
    · exact h
    · exact h.setBasket _ _

theorem removeComboBody_canonical (p : PortNo) (n : Nat) {s : State} (h : s.Canonical) :
    (removeComboBody p n s).1.Canonical := by
  unfold removeComboBody
  dsimp only
  split
  · exact h
  · exact h.setBasket _ _

theorem applyCreditBody_canonical (p : PortNo) (n : Nat) {s : State} (h : s.Canonical) :
    (applyCreditBody p n s).1.Canonical := by
  unfold applyCreditBody
  dsimp only
  split
  · exact h
  · split
    · exact h
    · split
      · exact h
      · exact (h.changeSlot _ _).setBasket _ _

theorem removeCreditBody_canonical (p : PortNo) (n : Nat) {s : State} (h : s.Canonical) :
    (removeCreditBody p n s).1.Canonical := by
  unfold removeCreditBody
  dsimp only
  split
  · exact h
  · exact (h.changeSlot _ _).setBasket _ _

theorem State.Canonical.undoReleaseSeats {s : State} (h : s.Canonical) (p : PortNo) (hd : Handle) (ls : List SeatLine) :
    (s.undoReleaseSeats p hd ls).1.Canonical := by
  induction ls generalizing s with
  | nil => exact h
  | cons l ls ih =>
    refine ih ?_
    split
    · exact (h.takeSeats _ _ _).setBasket _ _
    · exact h

theorem State.Canonical.reverse {s : State} (h : s.Canonical) (p : PortNo) (e : UndoEntry) : (s.reverse p e).1.Canonical := by
  cases e with
  | hold hd seats => exact (h.returnSeats _ _).setBasket _ _
  | release hd lines =>
    unfold State.reverse State.undoRelease
    dsimp only
    split
    · exact h
    · exact h.undoReleaseSeats p hd lines
  | setType k t =>
    unfold State.reverse State.undoSetType
    dsimp only
    split
    · exact h.setBasket _ _
    · exact h
  | addCombo n =>
    unfold State.reverse State.undoAddCombo
    dsimp only
    split
    · exact h.setBasket _ _
    · exact h
  | removeCombo c n =>
    unfold State.reverse State.undoRemoveCombo
    dsimp only
    split
    · exact h
    · split
      · exact h
      · exact h.setBasket _ _
  | applyCredit n =>
    unfold State.reverse State.undoApplyCredit
    dsimp only
    split
    · exact (h.changeSlot _ _).setBasket _ _
    · exact h
  | removeCredit n =>
    unfold State.reverse State.undoRemoveCredit
    dsimp only
    split
    · exact h
    · split
      · exact h
      · exact (h.changeSlot _ _).setBasket _ _

theorem undoBody_canonical (p : PortNo) (u : Unit) {s : State} (h : s.Canonical) : (undoBody p u s).1.Canonical := by
  unfold undoBody
  split
  · exact h
  · exact ((h.setBasket p _).reverse p _).setBasket _ _

theorem price_canonical (p : PortNo) (payload : Bytes) {s : State} (h : s.Canonical) : (price p payload s).1.Canonical := by
  unfold price
  split
  · exact h
  · split
    · exact h
    · split
      · exact h
      · dsimp only
        split
        · exact h
        · exact h.setBasket _ _

theorem redeem_canonical (p : PortNo) (payload : Bytes) {s : State} (h : s.Canonical) : (redeem p payload s).1.Canonical := by
  unfold redeem
  split
  · exact h
  · split
    · exact h
    · split
      · exact h
      · exact h.changeSlot _ _

theorem State.Canonical.zeroTotal {s : State} (h : s.Canonical) (p : PortNo) (tag : Byte) (x : Snapshot) :
    (s.zeroTotal p tag x).Canonical := by
  have h1 := (h.completeSale ((s.basket p).zeroSale p x) []).setBasket p
    ((s.completeSale ((s.basket p).zeroSale p x) []).1.basket p).cleared
  exact (((h1.kept (State.printSale_keeps _ _ _ _)).kept (State.answer_keeps _ _ _ _ _ _)).kept
    (State.runArbiter_keeps _)).kept (State.checkLow_keeps _)

theorem State.Canonical.acceptPay {s : State} (h : s.Canonical) (p : PortNo) (tag : Byte) (token : Bytes) (x : Snapshot) :
    (s.acceptPay p tag token x).Canonical := by
  refine State.Canonical.kept (State.checkLow_keeps _) (State.Canonical.setUplink (State.Canonical.kept
    (State.setPort_keeps _ _ _) (State.Canonical.setBasket (State.Canonical.changeSlots (State.Canonical.setReservation ?_ _)
      _ _) _ _)) _)
  exact foldl_keeps (fun _ (l : PricedLine) ht => ht.setSeatState _ l.seat _) _ (h.setRelay _)

theorem State.Canonical.pay {s : State} (h : s.Canonical) (p : PortNo) (tag : Byte) (token : Bytes) :
    (s.pay p tag token).Canonical := by
  unfold State.pay
  split
  · exact h.kept (State.answer_keeps _ _ _ _ _ _)
  · split
    · split
      · refine State.Canonical.kept (State.answer_keeps _ _ _ _ _ _) ?_
        unfold State.payRefused
        split
        · exact h.setBasket _ _
        · exact h
      · split
        · exact h.zeroTotal p tag _
        · exact h.acceptPay p tag token _
    · exact h.kept (State.answer_keeps _ _ _ _ _ _)

/-! ## Time, the store and resets -/

theorem State.Canonical.expireLeases {s : State} (h : s.Canonical) : s.expireLeases.Canonical := by
  refine State.forSeats_keeps (fun t i k ht => ?_) h
  split
  · exact ht.loseHeld i k
  · exact ht

theorem State.Canonical.expireAuths {s : State} (h : s.Canonical) : s.expireAuths.Canonical :=
  foldl_keeps (fun _ e ht => ht.timeOut e) _ h

theorem State.Canonical.tickLeases {s : State} (h : s.Canonical) : s.tickLeases.Canonical :=
  State.Canonical.expireLeases ⟨s.countLeases_pool_wf h.pool, h.slots, h.index, h.cells, h.siteRecord⟩

theorem State.Canonical.tickAuths {s : State} (h : s.Canonical) : s.tickAuths.Canonical :=
  State.Canonical.expireAuths (h.congr rfl rfl rfl rfl)

theorem State.Canonical.completeStore {s : State} (h : s.Canonical) : s.completeStore.Canonical := by
  unfold State.completeStore
  split
  · exact h
  · rename_i op _
    have hr : Sparse.wf erasedByte (s.store.complete op).siteRecord = true := by
      cases op <;> exact h.siteRecord
    exact (((h.setStore (TemplateStore.complete_wf h.cells op) hr).kept (State.raise_keeps _ _ _)).kept
      (State.readSectors_printStep _ _).keeps).kept (State.runArbiter_keeps _)

/-- R168, R173: what a reset leaves of the store has the form. -/
theorem State.Canonical.resetPart {s : State} (h : s.Canonical) (cause : ResetCause) : (s.resetPart cause).Canonical := by
  refine ⟨rfl, rfl, rfl, ?_, ?_⟩
  · show Sparse.wf (s.store.afterReset cause s.freeCount).unlisted (s.store.afterReset cause s.freeCount).cells = true
    unfold TemplateStore.afterReset
    cases s.store.operation with
    | none => exact h.cells
    | some op => exact TemplateStore.scramble_wf h.cells s.freeCount op
  · show Sparse.wf erasedByte (s.store.afterReset cause s.freeCount).siteRecord = true
    unfold TemplateStore.afterReset
    cases s.store.operation with
    | none => exact h.siteRecord
    | some op => cases op <;> exact h.siteRecord

/-! ## Every step -/

theorem canonical_leads : Leads State.Canonical State.Canonical where
  weaken := id
  before := State.Canonical.kept
  after := State.Canonical.kept
  resetPart := fun _ cause h => h.resetPart cause
  command := fun c args _ hr hc h => c.body_canonical args hr hc h
  hold := fun p payload _ h => hold_canonical p payload h
  release := fun p payload _ h => release_canonical p payload h
  setType := fun p a _ _ h => setTypeBody_canonical p a h
  addCombo := fun p a _ _ h => addComboBody_canonical p a h
  removeCombo := fun p a _ _ h => removeComboBody_canonical p a h
  applyCredit := fun p a _ _ h => applyCreditBody_canonical p a h
  removeCredit := fun p a _ _ h => removeCreditBody_canonical p a h
  undo := fun p a _ _ h => undoBody_canonical p a h
  cancel := fun p _ _ _ h => h.voidBasket p
  price := fun p payload _ h => price_canonical p payload h
  redeem := fun p payload _ h => redeem_canonical p payload h
  pay := fun p tag payload _ h => h.pay p tag payload
  resolve := fun e o code _ _ h => h.resolve e o code
  leaveActive := fun p st _ h => h.leaveActive p st
  expireLeases := fun _ h => h.expireLeases
  expireAuths := fun _ h => h.expireAuths
  tick := fun _ h => h.tickLeases.tickAuths
  completeStore := fun _ h => h.completeStore

/-- Settles O59: every body of a command keeps the form, and the dispatch carries that to every step. -/
theorem storesStayCanonical : Obligations.StoresStayCanonical := by
  unfold Obligations.StoresStayCanonical
  intro s t h hs
  exact canonical_leads.step h hs

end Sys2Proof.Machine
end

section
/-! Seat writes and the directory: which seats a write can reach, and that the live counts follow every write (R1, R9, R13). -/

namespace Sys2Proof.Machine

/-! ## Maps -/

/-- A seat of a show that is not EMPTY (R1, R2). -/
def State.inMap (s : State) (i : ShowNo) (k : Nat) : Prop := (s.showAt i).state ≠ .empty ∧ k < (s.showAt i).seatCount

/-- Every show has the range and the Generation it had, is EMPTY where it was, and is LOADING at most where it was. -/
structure State.mapKept (s t : State) : Prop where
  seatBase : ∀ i, (t.showAt i).seatBase = (s.showAt i).seatBase
  seatCount : ∀ i, (t.showAt i).seatCount = (s.showAt i).seatCount
  generation : ∀ i, (t.showAt i).generation = (s.showAt i).generation
  empty : ∀ i, (t.showAt i).state = .empty ↔ (s.showAt i).state = .empty
  loading : ∀ i, (t.showAt i).state = .loading → (s.showAt i).state = .loading

theorem State.mapKept.refl (s : State) : s.mapKept s := ⟨fun _ => rfl, fun _ => rfl, fun _ => rfl, fun _ => .rfl, fun _ => id⟩

theorem State.mapKept.trans {s t u : State} (h : s.mapKept t) (h' : t.mapKept u) : s.mapKept u where
  seatBase := fun i => (h'.seatBase i).trans (h.seatBase i)
  seatCount := fun i => (h'.seatCount i).trans (h.seatCount i)
  generation := fun i => (h'.generation i).trans (h.generation i)
  empty := fun i => (h'.empty i).trans (h.empty i)
  loading := fun i hl => h.loading i (h'.loading i hl)

/-- A directory that changed in live counts alone has the same map. -/
theorem State.mapKept_of_counts {s t : State} (h : ∀ i, t.showAt i = { s.showAt i with counts := (t.showAt i).counts }) :
    s.mapKept t where
  seatBase := fun i => by rw [h i]
  seatCount := fun i => by rw [h i]
  generation := fun i => by rw [h i]
  empty := fun i => by rw [h i]
  loading := fun i hl => by rw [h i] at hl; exact hl

theorem State.showAt_of_shows {s t : State} (h : t.seats.shows = s.seats.shows) (i : ShowNo) : t.showAt i = s.showAt i := by
  simp only [State.showAt, h]

theorem State.mapKept_of_shows {s t : State} (h : t.seats.shows = s.seats.shows) : s.mapKept t :=
  State.mapKept_of_counts fun i => by rw [State.showAt_of_shows h i]

theorem State.showsKept.counts {s t : State} {i : ShowNo} (h : s.showsKept t i) (j : ShowNo) :
    t.showAt j = { s.showAt j with counts := (t.showAt j).counts } := by
  by_cases hj : j = i
  · rw [hj]; exact h.2
  · rw [h.1 j hj]

theorem State.showsKept.mapKept {s t : State} {i : ShowNo} (h : s.showsKept t i) : s.mapKept t :=
  State.mapKept_of_counts h.counts

section
variable {s t : State} (h : s.mapKept t)
include h

theorem State.mapKept.inMap (i : ShowNo) (k : Nat) : t.inMap i k ↔ s.inMap i k := by
  unfold State.inMap; rw [ne_eq, h.empty, h.seatCount]

theorem State.mapKept.handleOf (i : ShowNo) : t.handleOf i = s.handleOf i := by
  unfold State.handleOf; rw [h.generation]

theorem State.mapKept.current (hd : Handle) : t.current hd = s.current hd := by
  unfold State.current; simp only [ne_eq, h.empty, h.generation]

theorem State.mapKept.seatAddress (i : ShowNo) (k : Nat) : t.seatAddress i k = s.seatAddress i k := by
  unfold State.seatAddress; rw [h.seatBase]

end

/-- A current handle names a show that is not EMPTY, and is that show's own handle (R3). -/
theorem State.current_iff (s : State) (hd : Handle) :
    s.current hd = true ↔ (s.showAt hd.index).state ≠ .empty ∧ hd = s.handleOf hd.index := by
  obtain ⟨i, g⟩ := hd
  simp only [State.current, Bool.and_eq_true, decide_eq_true_eq, State.handleOf, Handle.mk.injEq, true_and]
  constructor
  · rintro ⟨h1, h2⟩; exact ⟨h1, h2.symm⟩
  · rintro ⟨h1, h2⟩; exact ⟨h1, h2.symm⟩

theorem State.inMap_of_current {s : State} {hd : Handle} {k : Nat} (h : s.current hd = true)
    (hk : k < (s.showAt hd.index).seatCount) : s.inMap hd.index k := ⟨((s.current_iff hd).1 h).1, hk⟩

/-! ## The directory tallies -/

/-- The part of State.SeatsAgree that speaks of shows and seats alone: ranges, their distance and the live counts. -/
structure State.Tallied (s : State) : Prop where
  ranges : ∀ i, (s.showAt i).state ≠ .empty →
    1 ≤ (s.showAt i).seatCount ∧ (s.showAt i).seatCount ≤ 1024 ∧ (s.showAt i).seatBase + (s.showAt i).seatCount ≤ 32768
  apart : s.disjointShows
  counts : ∀ i, (s.showAt i).state ≠ .empty → (s.showAt i).counts =
    { free := s.seatsIn i SeatState.isFree, held := s.seatsIn i SeatState.isHeld, pending := s.seatsIn i SeatState.isPending
      sold := s.seatsIn i SeatState.isSold, house := s.seatsIn i SeatState.isHouse }

/-- Two seats of two shows, or two seats of one, are two pool addresses. -/
theorem State.disjointShows.seatAddress_eq {s : State} (h : s.disjointShows) {i j : ShowNo} {k n : Nat} (hi : s.inMap i k)
    (hj : s.inMap j n) : s.seatAddress j n = s.seatAddress i k ↔ j = i ∧ n = k := by
  unfold State.seatAddress
  constructor
  · intro he
    by_cases hji : j = i
    · subst hji; exact ⟨rfl, by omega⟩
    · have := h j i hji hj.1 hi.1
      have := hi.2
      have := hj.2
      omega
  · rintro ⟨rfl, rfl⟩; rfl

theorem State.disjointShows.of_mapKept {s t : State} (h : s.disjointShows) (hm : s.mapKept t) : t.disjointShows := by
  intro i j hij hi hj
  rw [ne_eq, hm.empty] at hi hj
  rw [hm.seatBase, hm.seatBase, hm.seatCount, hm.seatCount]
  exact h i j hij hi hj

theorem State.seatsIn_congr {s t : State} (hm : s.mapKept t) {i : ShowNo} {st : SeatState → Bool}
    (h : ∀ k < (s.showAt i).seatCount, st (t.seatAt i k).state = st (s.seatAt i k).state) :
    t.seatsIn i st = s.seatsIn i st := by
  unfold State.seatsIn State.countSeats
  rw [hm.seatCount]
  exact congrArg List.length (List.filter_congr fun k hk => h k (List.mem_range.1 hk))

/-- The kind of a seat state is its code's. -/
theorem SeatState.kinds_of_code {x y : SeatState} (h : x.code = y.code) : x.isFree = y.isFree ∧ x.isHeld = y.isHeld
    ∧ x.isPending = y.isPending ∧ x.isSold = y.isSold ∧ x.isHouse = y.isHouse := by
  have hkind : ∀ z : SeatState, z.isFree = decide (z.code = 0) ∧ z.isHeld = decide (z.code = 2)
      ∧ z.isPending = decide (z.code = 3) ∧ z.isSold = decide (z.code = 4) ∧ z.isHouse = decide (z.code = 1) := fun z => by
    cases z <;> exact ⟨rfl, rfl, rfl, rfl, rfl⟩
  obtain ⟨h1, h2, h3, h4, h5⟩ := hkind x
  obtain ⟨k1, k2, k3, k4, k5⟩ := hkind y
  rw [h1, h2, h3, h4, h5, k1, k2, k3, k4, k5, h]
  exact ⟨rfl, rfl, rfl, rfl, rfl⟩

/-- The directory still tallies where the map stays, and every seat keeps its kind of state and every show its counts. -/
theorem State.Tallied.of_kinds {s t : State} (h : s.Tallied) (hm : s.mapKept t)
    (hc : ∀ i, (t.showAt i).counts = (s.showAt i).counts)
    (hk : ∀ i k, s.inMap i k → (t.seatAt i k).state.code = (s.seatAt i k).state.code) : t.Tallied := by
  refine ⟨fun i hi => ?_, h.apart.of_mapKept hm, fun i hi => ?_⟩
  · rw [ne_eq, hm.empty] at hi
    rw [hm.seatBase, hm.seatCount]
    exact h.ranges i hi
  · rw [ne_eq, hm.empty] at hi
    have hcode : ∀ {st : SeatState → Bool}, (∀ x y : SeatState, x.code = y.code → st x = st y) →
        t.seatsIn i st = s.seatsIn i st :=
      fun hst => State.seatsIn_congr hm fun k hk' => hst _ _ (hk i k ⟨hi, hk'⟩)
    rw [hc, h.counts i hi, hcode fun _ _ e => (SeatState.kinds_of_code e).1, hcode fun _ _ e => (SeatState.kinds_of_code e).2.1,
      hcode fun _ _ e => (SeatState.kinds_of_code e).2.2.1, hcode fun _ _ e => (SeatState.kinds_of_code e).2.2.2.1,
      hcode fun _ _ e => (SeatState.kinds_of_code e).2.2.2.2]

/-! ## The counts follow a write (R9) -/

theorem countP_change {l : List Nat} {k : Nat} {f g : Nat → Bool} (hl : l.Nodup) (hk : k ∈ l)
    (h : ∀ n ∈ l, n ≠ k → g n = f n) :
    l.countP g + (if f k then 1 else 0) = l.countP f + if g k then 1 else 0 := by
  have hp := List.perm_cons_erase hk
  have he : (l.erase k).countP g = (l.erase k).countP f :=
    List.countP_congr fun n hn => by
      obtain ⟨hne, hmem⟩ := (hl.mem_erase_iff).1 hn
      rw [h n hmem hne]
  rw [hp.countP_eq g, hp.countP_eq f, List.countP_cons, List.countP_cons, he]
  omega

/-- One seat of a map changes its state: the number of seats in a state moves by it alone. -/
theorem State.seatsIn_setSeat (s : State) {i : ShowNo} {k : Nat} (x : Seat) (st : SeatState → Bool)
    (hk : k < (s.showAt i).seatCount) :
    (s.setSeat i k x).seatsIn i st + (if st (s.seatAt i k).state then 1 else 0)
      = s.seatsIn i st + if st x.state then 1 else 0 := by
  have hcount : ((s.setSeat i k x).showAt i).seatCount = (s.showAt i).seatCount := by
    rw [State.showAt_setSeat, if_pos rfl]
  have hat : ∀ n, (s.setSeat i k x).seatAt i n = if n = k then x else s.seatAt i n := fun n => by
    rw [State.seatAt_setSeat]; simp only [State.seatAddress_inj]
  unfold State.seatsIn State.countSeats
  rw [hcount, ← List.countP_eq_length_filter, ← List.countP_eq_length_filter]
  have := countP_change (f := fun n => st (s.seatAt i n).state) (g := fun n => st ((s.setSeat i k x).seatAt i n).state)
    List.nodup_range (List.mem_range.2 hk) fun n _ hn => by rw [hat, if_neg hn]
  simpa [hat] using this

/-- R9: 1 from the count of the state left and 1 to that of the state taken keeps five true counts true. -/
theorem SeatCounts.move_eq (c : SeatCounts) (x y : SeatState) {free held pending sold house : Nat}
    (hf : free + (if x.isFree then 1 else 0) = c.free + if y.isFree then 1 else 0)
    (hh : held + (if x.isHeld then 1 else 0) = c.held + if y.isHeld then 1 else 0)
    (hp : pending + (if x.isPending then 1 else 0) = c.pending + if y.isPending then 1 else 0)
    (hs : sold + (if x.isSold then 1 else 0) = c.sold + if y.isSold then 1 else 0)
    (hu : house + (if x.isHouse then 1 else 0) = c.house + if y.isHouse then 1 else 0) :
    c.move x y = { free := free, held := held, pending := pending, sold := sold, house := house } := by
  obtain ⟨f, h, p, s, u⟩ := c
  cases x <;> cases y <;>
    simp [SeatState.isFree, SeatState.isHeld, SeatState.isPending, SeatState.isSold, SeatState.isHouse] at hf hh hp hs hu <;>
    simp [SeatCounts.move, SeatState.code, SeatCounts.less, SeatCounts.more] <;> omega

/-- R9: a write to a seat of a map keeps the directory's tally. -/
theorem State.Tallied.setSeat {s : State} (h : s.Tallied) {i : ShowNo} {k : Nat} (hi : s.inMap i k) (x : Seat) :
    (s.setSeat i k x).Tallied := by
  have hm : s.mapKept (s.setSeat i k x) := State.mapKept_of_counts fun j => by
    rw [State.showAt_setSeat]
    split
    · rename_i hj; rw [hj]
    · rfl
  refine ⟨fun j hj => ?_, h.apart.of_mapKept hm, fun j hj => ?_⟩
  · rw [ne_eq, hm.empty] at hj
    rw [hm.seatBase, hm.seatCount]
    exact h.ranges j hj
  · rw [ne_eq, hm.empty] at hj
    by_cases hji : j = i
    · subst hji
      rw [State.showAt_setSeat, if_pos rfl]
      have hc := h.counts j hj
      refine SeatCounts.move_eq _ _ _ ?_ ?_ ?_ ?_ ?_
      all_goals
        rw [hc]
        exact s.seatsIn_setSeat x _ hi.2
    · have hsame : ∀ st, (s.setSeat i k x).seatsIn j st = s.seatsIn j st := fun st =>
        State.seatsIn_congr hm fun n hn => by
          rw [State.seatAt_setSeat, if_neg fun he => hji ((h.apart.seatAddress_eq hi ⟨hj, hn⟩).1 he).1]
      rw [State.showAt_setSeat, if_neg hji, h.counts j hj]
      simp only [hsame]

/-! ## Writes of several seats of one show -/

/-- Seats of one show are written, and nothing besides: no other record, and the directory but for the show's counts. -/
structure State.SeatStep (s t : State) (i : ShowNo) (ks : List Nat) : Prop where
  frame : t = { s with seats := { s.seats with shows := t.seats.shows, pool := t.seats.pool } }
  pool : s.poolKept t (s.seatAddresses i ks)
  dir : s.showsKept t i
  tallied : (∀ k ∈ ks, s.inMap i k) → s.Tallied → t.Tallied

theorem State.SeatStep.refl (s : State) (i : ShowNo) : s.SeatStep s i [] :=
  ⟨rfl, fun _ _ => rfl, ⟨fun _ _ => rfl, rfl⟩, fun _ h => h⟩

theorem State.SeatStep.trans {s t u : State} {i : ShowNo} {ks ns : List Nat} (h : s.SeatStep t i ks) (h' : t.SeatStep u i ns) :
    s.SeatStep u i (ks ++ ns) := by
  have hm := h.dir.mapKept
  refine ⟨?_, fun a ha => ?_, ⟨fun j hj => ?_, ?_⟩, fun hin hs => ?_⟩
  · rw [h'.frame, h.frame]
  · have hk : a ∉ s.seatAddresses i ks ∧ a ∉ t.seatAddresses i ns := by
      simpa [State.seatAddresses, hm.seatAddress, not_or] using ha
    rw [h'.pool a hk.2, h.pool a hk.1]
  · rw [h'.dir.1 j hj, h.dir.1 j hj]
  · rw [h'.dir.2, h.dir.2]
  · exact h'.tallied (fun k hk => (hm.inMap i k).2 (hin k (by simp [hk]))) (h.tallied (fun k hk => hin k (by simp [hk])) hs)

theorem State.setSeat_seatStep (s : State) (i : ShowNo) (k : Nat) (x : Seat) : s.SeatStep (s.setSeat i k x) i [k] := by
  refine ⟨rfl, fun a ha => ?_, ⟨fun j hj => ?_, ?_⟩, fun hin hs => hs.setSeat (hin k (by simp)) x⟩
  · rw [State.poolSeat_setSeat, if_neg (by simpa [State.seatAddresses] using ha)]
  · rw [State.showAt_setSeat, if_neg hj]
  · rw [State.showAt_setSeat, if_pos rfl]

theorem State.setSeatState_seatStep (s : State) (i : ShowNo) (k : Nat) (x : SeatState) :
    s.SeatStep (s.setSeatState i k x) i [k] := s.setSeat_seatStep i k _

/-- A fold that writes one seat of a show for each item writes the seats of the items. -/
theorem foldl_seatStep {α : Type} {f : State → α → State} {i : ShowNo} {key : α → Nat}
    (hf : ∀ (s : State) a, s.SeatStep (f s a) i [key a]) (xs : List α) (s : State) : s.SeatStep (xs.foldl f s) i (xs.map key) := by
  induction xs generalizing s with
  | nil => exact .refl s i
  | cons a xs ih => exact (hf s a).trans (ih (f s a))

/-- What every write of such a fold brings about holds of every seat written. -/
theorem foldl_written {α : Type} {f : State → α → State} {i : ShowNo} {key : α → Nat} {Q : SeatState → Prop}
    (hf : ∀ (s : State) a, s.SeatStep (f s a) i [key a]) (hq : ∀ s a, Q ((f s a).seatAt i (key a)).state) (xs : List α) (s : State) :
    ∀ k ∈ xs.map key, Q ((xs.foldl f s).seatAt i k).state := by
  induction xs generalizing s with
  | nil => simp
  | cons a xs ih =>
    intro k hk
    by_cases hmem : k ∈ xs.map key
    · exact ih (f s a) k hmem
    · have hka : k = key a := (List.mem_cons.1 hk).resolve_right hmem
      have hstep := foldl_seatStep hf xs (f s a)
      have hnot : (f s a).seatAddress i k ∉ (f s a).seatAddresses i (xs.map key) := by
        unfold State.seatAddresses
        intro hin
        obtain ⟨n, hn, hne⟩ := List.mem_map.1 hin
        rw [State.seatAddress_inj] at hne
        exact hmem (hne ▸ hn)
      have hsame : (List.foldl f (f s a) xs).seatAt i k = (f s a).seatAt i k := by
        rw [State.seatAt_eq_poolSeat, State.seatAt_eq_poolSeat, hstep.dir.mapKept.seatAddress, hstep.pool _ hnot]
      show Q ((List.foldl f (f s a) xs).seatAt i k).state
      rw [hsame, hka]
      exact hq s a

theorem State.eachSeat_seatStep (s : State) (i : ShowNo) (g : SeatState → SeatState) (ks : List Nat) :
    s.SeatStep (s.eachSeat i g ks) i ks := by
  have h := foldl_seatStep (key := id) (fun s k => s.setSeatState_seatStep i k (g (s.seatAt i k).state)) ks s
  rwa [List.map_id] at h

theorem State.returnSeats_seatStep (s : State) (i : ShowNo) (ks : List Nat) : s.SeatStep (s.returnSeats i ks) i ks :=
  s.eachSeat_seatStep i SeatState.givenUp ks

/-! ## What a write of seats leaves to the rest -/

/-- Between two states only these seats of a show may differ, and the directory still tallies. -/
structure State.Reseats (s t : State) (i : ShowNo) (ks : List Nat) : Prop where
  map : s.mapKept t
  others : ∀ j n, s.inMap j n → ¬ (j = i ∧ n ∈ ks) → t.seatAt j n = s.seatAt j n
  tallied : t.Tallied

theorem State.SeatStep.reseats {s t : State} {i : ShowNo} {ks : List Nat} (h : s.SeatStep t i ks) (hs : s.Tallied)
    (hin : ∀ k ∈ ks, s.inMap i k) : s.Reseats t i ks := by
  refine ⟨h.dir.mapKept, fun j n hj hn => ?_, h.tallied hin hs⟩
  rw [State.seatAt_eq_poolSeat, State.seatAt_eq_poolSeat, h.dir.mapKept.seatAddress]
  refine h.pool _ fun ha => hn ?_
  obtain ⟨k, hk, he⟩ := List.mem_map.1 ha
  obtain ⟨rfl, rfl⟩ := (hs.apart.seatAddress_eq (hin k hk) hj).1 he.symm
  exact ⟨rfl, hk⟩

theorem State.Tallied.of_seats {s t : State} (h : s.Tallied) (hs : t.seats.shows = s.seats.shows)
    (hp : t.seats.pool = s.seats.pool) : t.Tallied :=
  h.of_kinds (State.mapKept_of_shows hs) (fun i => by rw [State.showAt_of_shows hs])
    fun i k _ => by simp only [State.seatAt, State.showAt, hs, hp]

theorem State.Reseats.refl {s : State} (h : s.Tallied) (i : ShowNo) : s.Reseats s i [] := ⟨.refl s, fun _ _ _ _ => rfl, h⟩

/-- The seats are read from the directory and the pool alone. -/
theorem State.seatAt_of_pool {s t : State} (hs : t.seats.shows = s.seats.shows) (hp : t.seats.pool = s.seats.pool)
    (i : ShowNo) (k : Nat) : t.seatAt i k = s.seatAt i k := by
  simp only [State.seatAt, State.showAt, hs, hp]

theorem State.Reseats.congr_left {s s' t : State} {i : ShowNo} {ks : List Nat} (h : s'.Reseats t i ks)
    (hs : s'.seats.shows = s.seats.shows) (hp : s'.seats.pool = s.seats.pool) : s.Reseats t i ks := by
  have hm : s.mapKept s' := State.mapKept_of_shows hs
  refine ⟨hm.trans h.map, fun j n hj hn => ?_, h.tallied⟩
  rw [h.others j n ((hm.inMap j n).2 hj) hn, State.seatAt_of_pool hs hp]

theorem State.Reseats.congr_right {s t t' : State} {i : ShowNo} {ks : List Nat} (h : s.Reseats t i ks)
    (hs : t'.seats.shows = t.seats.shows) (hp : t'.seats.pool = t.seats.pool) : s.Reseats t' i ks :=
  ⟨h.map.trans (State.mapKept_of_shows hs), fun j n hj hn => by rw [State.seatAt_of_pool hs hp, h.others j n hj hn],
    h.tallied.of_seats hs hp⟩

end Sys2Proof.Machine
end

section
/-! Seats, baskets and entries in agreement, in three parts: the directory's tally, the links between seats and their lines, and
the pairing of baskets with entries. A step that touches one port and one tag owes the links of these alone. -/

namespace Sys2Proof.Machine

/-! ## The three parts of State.SeatsAgree -/

/-- Seats and lines: a HELD seat has its line in its port's basket and a PENDING seat in an entry of its Tag, and every line names
such a seat (R14, R43, R92). -/
structure State.Linked (s : State) : Prop where
  loading : ∀ i k, s.inMap i k → (s.showAt i).state = .loading →
    (s.seatAt i k).state.isHeld = false ∧ (s.seatAt i k).state.isPending = false
  held : ∀ i k p, s.inMap i k → (s.seatAt i k).state.heldBy p = true →
    (s.basket p).state ≠ .authorising ∧ (s.basket p).handle = s.handleOf i ∧ k ∈ (s.basket p).seats
  lines : ∀ p, (s.basket p).state ≠ .authorising → s.seatsAre (s.basket p).handle (s.basket p).seats (SeatState.heldBy p)
  pending : ∀ i k tag, s.inMap i k → (s.seatAt i k).state.pendingUnder tag = true →
    ∃ e ∈ s.relay.entries, e.tag = tag ∧ e.handle = s.handleOf i ∧ k ∈ e.seats
  entries : ∀ e ∈ s.relay.entries, s.seatsAre e.handle e.seats (SeatState.pendingUnder e.tag)

/-- The basket of an ACTIVE entry's origin port is AUTHORISING with its seats, and no port has two ACTIVE entries (R43, R93). -/
structure State.Paired (s : State) : Prop where
  authorising : ∀ e ∈ s.relay.entries, e.state ≠ .lost → (s.basket e.origin).state = .authorising
    ∧ (s.basket e.origin).handle = e.handle ∧ (s.basket e.origin).seats = e.seats
  origins : ((s.relay.entries.filter AuthEntry.isActive).map (·.origin)).Nodup

/-- A basket's State, Lapsed and snapshot stand to its contents as R43's table gives, AUTHORISING apart. -/
def Basket.consistent (b : Basket) : Prop :=
  (b.state = .empty → b.holds = false ∧ b.snapshot = none ∧ b.lapsed = false)
    ∧ (b.state = .building → b.holds = true ∧ b.snapshot = none)
    ∧ (b.state = .priced ∨ b.state = .authorising → b.seatLines ≠ [] ∧ b.lapsed = false
        ∧ ∃ x, b.snapshot = some x ∧ x.seats.map (·.seat) = b.seats)

/-- The port has an ACTIVE entry. -/
def State.authorises (s : State) (p : PortNo) : Prop := ∃ e ∈ s.relay.entries, e.state ≠ .lost ∧ e.origin = p

theorem State.seatsAgree_iff (s : State) : s.SeatsAgree ↔ s.Tallied ∧ s.Linked ∧ s.Paired
    ∧ ∀ p, (s.basket p).consistent ∧ ((s.basket p).state = .authorising → s.authorises p) := by
  constructor
  · intro h
    refine ⟨⟨h.ranges, h.apart, h.counts⟩, ⟨fun i k hk hl => h.loading i k hl hk.2, fun i k p hk => h.held i k p hk.1 hk.2,
      h.lines, fun i k tag hk => h.pending i k tag hk.1 hk.2, h.entries⟩, ⟨h.authorising, h.origins⟩, fun p => ?_⟩
    obtain ⟨he, hb, hp, ha⟩ := h.contents p
    refine ⟨⟨he, hb, fun hpa => ?_⟩, fun hs => (ha hs).2.2⟩
    rcases hpa with hs | hs
    · exact ⟨(hp hs).1, (hp hs).2, h.snapshots p (.inl hs)⟩
    · exact ⟨(ha hs).1, (ha hs).2.1, h.snapshots p (.inr hs)⟩
  · rintro ⟨ht, hl, hp, hb⟩
    refine ⟨ht.ranges, ht.apart, ht.counts, fun i k hs hk => hl.loading i k ⟨by rw [hs]; simp, hk⟩ hs,
      fun i k p hs hk => hl.held i k p ⟨hs, hk⟩, hl.lines, fun i k tag hs hk => hl.pending i k tag ⟨hs, hk⟩, hl.entries,
      hp.authorising, hp.origins, fun p => ?_, fun p hs => ((hb p).1.2.2 hs).2.2⟩
    obtain ⟨⟨h1, h2, h3⟩, h4⟩ := hb p
    exact ⟨h1, h2, fun hs => ⟨(h3 (.inl hs)).1, (h3 (.inl hs)).2.1⟩,
      fun hs => ⟨(h3 (.inr hs)).1, (h3 (.inr hs)).2.1, h4 hs⟩⟩

theorem State.SeatsAgree.tallied {s : State} (h : s.SeatsAgree) : s.Tallied := (s.seatsAgree_iff.1 h).1
theorem State.SeatsAgree.linked {s : State} (h : s.SeatsAgree) : s.Linked := (s.seatsAgree_iff.1 h).2.1
theorem State.SeatsAgree.paired {s : State} (h : s.SeatsAgree) : s.Paired := (s.seatsAgree_iff.1 h).2.2.1
theorem State.SeatsAgree.consistent {s : State} (h : s.SeatsAgree) (p : PortNo) : (s.basket p).consistent :=
  ((s.seatsAgree_iff.1 h).2.2.2 p).1
theorem State.SeatsAgree.authorises {s : State} (h : s.SeatsAgree) {p : PortNo} (hp : (s.basket p).state = .authorising) :
    s.authorises p := ((s.seatsAgree_iff.1 h).2.2.2 p).2 hp

/-! ## Links under a step that touches some ports and some tags -/

/-- A seat state that no port but these holds and that is PENDING under no tag but these. -/
def SeatState.ownedWithin (P : Set PortNo) (T : Set Nat) : SeatState → Prop
  | .held p _ _ => p ∈ P
  | .pending t _ => t ∈ T
  | _ => True

theorem SeatState.heldBy_iff {p : PortNo} {x : SeatState} : x.heldBy p = true ↔ ∃ l ho, x = .held p l ho := by
  cases x <;> simp [SeatState.heldBy]

theorem SeatState.pendingUnder_iff {t : Nat} {x : SeatState} : x.pendingUnder t = true ↔ ∃ ho, x = .pending t ho := by
  cases x <;> simp [SeatState.pendingUnder]

theorem SeatState.not_heldBy_of_ownedWithin {P : Set PortNo} {T : Set Nat} {p : PortNo} {x : SeatState}
    (h : x.ownedWithin P T) (hp : p ∉ P) : ¬ x.heldBy p = true := by
  rw [SeatState.heldBy_iff]
  rintro ⟨l, ho, rfl⟩
  exact hp h

theorem SeatState.not_pendingUnder_of_ownedWithin {P : Set PortNo} {T : Set Nat} {t : Nat} {x : SeatState}
    (h : x.ownedWithin P T) (ht : t ∉ T) : ¬ x.pendingUnder t = true := by
  rw [SeatState.pendingUnder_iff]
  rintro ⟨ho, rfl⟩
  exact ht h

/-- Neither HELD nor PENDING. -/
def SeatState.unowned (x : SeatState) : Prop := x.isHeld = false ∧ x.isPending = false

theorem SeatState.unowned.ownedWithin {x : SeatState} (h : x.unowned) (P : Set PortNo) (T : Set Nat) : x.ownedWithin P T := by
  obtain ⟨hh, hp⟩ := h
  cases x with
  | held => exact absurd hh (by simp [SeatState.isHeld])
  | pending => exact absurd hp (by simp [SeatState.isPending])
  | free | house | sold => trivial

theorem SeatState.ownedWithin_of_heldBy {p : PortNo} {x : SeatState} (h : x.heldBy p = true) {P : Set PortNo} (hp : p ∈ P)
    (T : Set Nat) : x.ownedWithin P T := by
  obtain ⟨l, ho, rfl⟩ := SeatState.heldBy_iff.1 h
  exact hp

theorem SeatState.ownedWithin_of_pendingUnder {t : Nat} {x : SeatState} (h : x.pendingUnder t = true) (P : Set PortNo)
    {T : Set Nat} (ht : t ∈ T) : x.ownedWithin P T := by
  obtain ⟨ho, rfl⟩ := SeatState.pendingUnder_iff.1 h
  exact ht

theorem SeatState.givenUp_unowned (x : SeatState) : x.givenUp.unowned := by
  rcases x with _ | _ | ⟨_, _, h⟩ | ⟨_, h⟩ | _
  case held => cases h <;> exact ⟨rfl, rfl⟩
  case pending => cases h <;> exact ⟨rfl, rfl⟩
  all_goals exact ⟨rfl, rfl⟩

theorem SeatState.not_heldBy_of_unowned {x : SeatState} (h : x.unowned) (p : PortNo) : ¬ x.heldBy p = true :=
  SeatState.not_heldBy_of_ownedWithin (h.ownedWithin ∅ ∅) (Set.notMem_empty p)

/-- Lines keep naming seats in their state where these seats keep it. -/
theorem State.seatsAre.of_mapKept {s t : State} {h : Handle} {ks : List Nat} {st : SeatState → Bool} (hs : s.seatsAre h ks st)
    (hm : s.mapKept t)
    (hst : ∀ k ∈ ks, s.inMap h.index k → st (s.seatAt h.index k).state = true → st (t.seatAt h.index k).state = true) :
    t.seatsAre h ks st := by
  refine ⟨hs.1, fun k hk => ?_⟩
  obtain ⟨hc, hn, hx⟩ := hs.2 k hk
  exact ⟨by rw [hm.current]; exact hc, by rw [hm.seatCount]; exact hn, hst k hk (State.inMap_of_current hc hn) hx⟩

/-- Lines that name no seat agree with everything. -/
theorem State.seatsAre_nil (s : State) (h : Handle) (st : SeatState → Bool) : s.seatsAre h [] st :=
  ⟨List.nodup_nil, fun _ hk => absurd hk List.not_mem_nil⟩

/-- A step that changes seats of the ports `P` and the tags `T` alone, and their baskets and entries, owes their links only. -/
theorem State.Linked.of_touch {s t : State} (hs : s.Linked) (P : Set PortNo) (T : Set Nat) (hm : s.mapKept t)
    (hseat : ∀ i k, s.inMap i k → t.seatAt i k = s.seatAt i k ∨ (s.seatAt i k).state.ownedWithin P T
      ∧ (t.seatAt i k).state.ownedWithin P T ∧ ((s.showAt i).state = .loading → (t.seatAt i k).state.unowned))
    (hb : ∀ p, p ∉ P → t.basket p = s.basket p)
    (he : ∀ e : AuthEntry, e.tag ∉ T → (e ∈ t.relay.entries ↔ e ∈ s.relay.entries))
    (held : ∀ i k p, p ∈ P → s.inMap i k → (t.seatAt i k).state.heldBy p = true →
      (t.basket p).state ≠ .authorising ∧ (t.basket p).handle = s.handleOf i ∧ k ∈ (t.basket p).seats)
    (lines : ∀ p, p ∈ P → (t.basket p).state ≠ .authorising →
      t.seatsAre (t.basket p).handle (t.basket p).seats (SeatState.heldBy p))
    (pending : ∀ i k tag, tag ∈ T → s.inMap i k → (t.seatAt i k).state.pendingUnder tag = true →
      ∃ e ∈ t.relay.entries, e.tag = tag ∧ e.handle = s.handleOf i ∧ k ∈ e.seats)
    (entries : ∀ e ∈ t.relay.entries, e.tag ∈ T → t.seatsAre e.handle e.seats (SeatState.pendingUnder e.tag)) :
    t.Linked where
  loading := fun i k hk hl => by
    rw [hm.inMap] at hk
    replace hl := hm.loading i hl
    rcases hseat i k hk with h | ⟨-, -, h⟩
    · rw [h]; exact hs.loading i k hk hl
    · exact h hl
  held := fun i k p hk hx => by
    rw [hm.inMap] at hk
    rw [hm.handleOf]
    by_cases hp : p ∈ P
    · exact held i k p hp hk hx
    · rw [hb p hp]
      rcases hseat i k hk with h | ⟨-, h, -⟩
      · exact hs.held i k p hk (h ▸ hx)
      · exact absurd hx (SeatState.not_heldBy_of_ownedWithin h hp)
  lines := fun p ha => by
    by_cases hp : p ∈ P
    · exact lines p hp ha
    · rw [hb p hp] at ha ⊢
      refine (hs.lines p ha).of_mapKept hm fun k _ hk hx => ?_
      rcases hseat _ k hk with h | ⟨h, -, -⟩
      · rw [h]; exact hx
      · exact absurd hx (SeatState.not_heldBy_of_ownedWithin h hp)
  pending := fun i k tag hk hx => by
    rw [hm.inMap] at hk
    rw [hm.handleOf]
    by_cases ht : tag ∈ T
    · exact pending i k tag ht hk hx
    · rcases hseat i k hk with h | ⟨-, h, -⟩
      · obtain ⟨e, hmem, rfl, hrest⟩ := hs.pending i k tag hk (h ▸ hx)
        exact ⟨e, (he e ht).2 hmem, rfl, hrest⟩
      · exact absurd hx (SeatState.not_pendingUnder_of_ownedWithin h ht)
  entries := fun e hmem => by
    by_cases ht : e.tag ∈ T
    · exact entries e hmem ht
    · refine (hs.entries e ((he e ht).1 hmem)).of_mapKept hm fun k _ hk hx => ?_
      rcases hseat _ k hk with h | ⟨h, -, -⟩
      · rw [h]; exact hx
      · exact absurd hx (SeatState.not_pendingUnder_of_ownedWithin h ht)

/-- The agreement rests on the directory, the pool, the baskets and the entries alone. -/
theorem State.SeatsAgree.kept {s t : State} (hk : s.SeatingKept t) (h : s.SeatsAgree) : t.SeatsAgree := by
  have hb : ∀ p, t.basket p = s.basket p := State.basket_of_baskets hk.baskets
  have hseat := State.seatAt_of_pool hk.shows hk.pool
  rw [State.seatsAgree_iff] at h ⊢
  obtain ⟨ht, hl, hp, hc⟩ := h
  refine ⟨ht.of_seats hk.shows hk.pool, ?_, ⟨?_, ?_⟩, fun p => ?_⟩
  · exact hl.of_touch ∅ ∅ (State.mapKept_of_shows hk.shows) (fun i k _ => .inl (hseat i k)) (fun p _ => hb p)
      (fun e _ => by rw [hk.entries]) (fun _ _ _ h => absurd h (Set.notMem_empty _)) (fun _ h => absurd h (Set.notMem_empty _))
      (fun _ _ _ h => absurd h (Set.notMem_empty _)) (fun _ _ h => absurd h (Set.notMem_empty _))
  · rw [hk.entries]
    intro e he ha
    rw [hb]
    exact hp.authorising e he ha
  · rw [hk.entries]; exact hp.origins
  · unfold State.authorises
    rw [hb, hk.entries]
    exact hc p

/-! ## One port's requests -/

/-- The agreement while a request of a port that is not AUTHORISING is being carried out: its own basket's State may not yet stand
to its contents. -/
structure State.Serving (s : State) (p : PortNo) : Prop where
  tallied : s.Tallied
  linked : s.Linked
  paired : s.Paired
  others : ∀ q, q ≠ p → (s.basket q).consistent ∧ ((s.basket q).state = .authorising → s.authorises q)
  serves : (s.basket p).state ≠ .authorising

theorem State.SeatsAgree.serving {s : State} (h : s.SeatsAgree) {p : PortNo} (hp : (s.basket p).state ≠ .authorising) :
    s.Serving p :=
  ⟨h.tallied, h.linked, h.paired, fun q _ => ⟨h.consistent q, h.authorises⟩, hp⟩

theorem State.Serving.seatsAgree {s : State} {p : PortNo} (h : s.Serving p) (hc : (s.basket p).consistent) : s.SeatsAgree := by
  rw [State.seatsAgree_iff]
  refine ⟨h.tallied, h.linked, h.paired, fun q => ?_⟩
  by_cases hq : q = p
  · subst hq; exact ⟨hc, fun ha => absurd ha h.serves⟩
  · exact h.others q hq

/-- A request that moves seats between its port and no owner, and its port's lines with them, keeps the agreement. -/
theorem State.Serving.transact {s t : State} {p : PortNo} {i : ShowNo} {ks : List Nat} (h : s.Serving p)
    (hr : s.Reseats t i ks) (he : t.relay.entries = s.relay.entries) (hb : ∀ q, q ≠ p → t.basket q = s.basket q)
    (hstate : (t.basket p).state ≠ .authorising)
    (hold : ∀ k ∈ ks, (s.seatAt i k).state.ownedWithin {p} ∅) (hnew : ∀ k ∈ ks, (t.seatAt i k).state.ownedWithin {p} ∅)
    (hload : (s.showAt i).state ≠ .loading ∨ ∀ k ∈ ks, (t.seatAt i k).state.unowned)
    (held : ∀ j n, s.inMap j n → (t.seatAt j n).state.heldBy p = true →
      (t.basket p).handle = s.handleOf j ∧ n ∈ (t.basket p).seats)
    (lines : t.seatsAre (t.basket p).handle (t.basket p).seats (SeatState.heldBy p)) : t.Serving p := by
  have horigin : ∀ e ∈ s.relay.entries, e.state ≠ .lost → e.origin ≠ p := fun e hmem ha ho =>
    h.serves (ho ▸ (h.paired.authorising e hmem ha).1)
  refine ⟨hr.tallied, ?_, ⟨?_, ?_⟩, fun q hq => ?_, hstate⟩
  · refine h.linked.of_touch {p} ∅ hr.map (fun j n hj => ?_) (fun q hq => hb q hq) (fun e _ => by rw [he])
      (fun j n q hq hj hx => ?_) (fun q hq _ => ?_) (fun _ _ _ ht => absurd ht (Set.notMem_empty _))
      (fun _ _ ht => absurd ht (Set.notMem_empty _))
    · by_cases hjn : j = i ∧ n ∈ ks
      · obtain ⟨rfl, hn⟩ := hjn
        exact .inr ⟨hold n hn, hnew n hn, fun hl => hload.elim (fun hnl => absurd hl hnl) fun hu => hu n hn⟩
      · exact .inl (hr.others j n hj hjn)
    · obtain rfl : q = p := hq
      exact ⟨hstate, held j n hj hx⟩
    · obtain rfl : q = p := hq
      exact lines
  · rw [he]
    intro e hmem ha
    rw [hb _ (horigin e hmem ha)]
    exact h.paired.authorising e hmem ha
  · rw [he]; exact h.paired.origins
  · unfold State.authorises
    rw [hb q hq, he]
    exact h.others q hq

/-- A change of the port's basket alone, its State, handle and seats as they were. -/
theorem State.Serving.rebasket {s t : State} {p : PortNo} (h : s.Serving p) (hs : t.seats.shows = s.seats.shows)
    (hp : t.seats.pool = s.seats.pool) (he : t.relay.entries = s.relay.entries) (hb : ∀ q, q ≠ p → t.basket q = s.basket q)
    (hstate : (t.basket p).state ≠ .authorising)
    (hlines : (t.basket p).seats = (s.basket p).seats) (hhandle : (t.basket p).handle = (s.basket p).handle) :
    t.Serving p := by
  have hr : s.Reseats t 0 [] := (State.Reseats.refl h.tallied 0).congr_right hs hp
  refine h.transact hr he hb hstate (by simp) (by simp) (.inr (by simp)) (fun j n hj hx => ?_) ?_
  · rw [hlines, hhandle]
    exact (h.linked.held j n p hj (by rwa [State.seatAt_of_pool hs hp] at hx)).2
  · rw [hlines, hhandle]
    exact (h.linked.lines p h.serves).of_mapKept hr.map fun k _ _ hx => by rwa [State.seatAt_of_pool hs hp]

/-- The seats that a port's basket names are the seats it holds. -/
theorem State.Serving.mem_seats_iff {s : State} {p : PortNo} (h : s.Serving p) {i : ShowNo} {k : Nat} (hk : s.inMap i k) :
    (s.seatAt i k).state.heldBy p = true ↔ (s.basket p).handle = s.handleOf i ∧ k ∈ (s.basket p).seats := by
  constructor
  · exact fun hx => (h.linked.held i k p hk hx).2
  · rintro ⟨hh, hmem⟩
    have := ((h.linked.lines p h.serves).2 k hmem).2.2
    rwa [hh] at this

/-! ## What requests make of a basket -/

theorem Basket.settled_consistent {b : Basket} (hs : b.snapshot = none) (hl : b.holds = false → b.lapsed = false) :
    b.settled.consistent := by
  unfold Basket.settled
  cases hh : b.holds with
  | true => exact ⟨fun h => by simp at h, fun _ => ⟨hh, hs⟩, fun h => by simp at h⟩
  | false => exact ⟨fun _ => ⟨hh, hs, hl hh⟩, fun h => by simp at h, fun h => by simp at h⟩

theorem Basket.settled_state (b : Basket) : b.settled.state ≠ .authorising := by
  unfold Basket.settled; dsimp only; split <;> simp

theorem Basket.reopened_consistent (b : Basket) : b.reopened.consistent := Basket.settled_consistent rfl fun _ => rfl
theorem Basket.reopened_state (b : Basket) : b.reopened.state ≠ .authorising := Basket.settled_state _
@[simp] theorem Basket.reopened_handle (b : Basket) : b.reopened.handle = b.handle := rfl
@[simp] theorem Basket.reopened_seats (b : Basket) : b.reopened.seats = b.seats := rfl

theorem Basket.edited_consistent (b : Basket) (e : UndoEntry) : (b.edited e).consistent := Basket.reopened_consistent _
theorem Basket.edited_state (b : Basket) (e : UndoEntry) : (b.edited e).state ≠ .authorising := Basket.settled_state _
@[simp] theorem Basket.edited_handle (b : Basket) (e : UndoEntry) : (b.edited e).handle = b.handle := rfl
@[simp] theorem Basket.edited_seats (b : Basket) (e : UndoEntry) : (b.edited e).seats = b.seats := rfl

theorem Basket.cleared_consistent (b : Basket) : b.cleared.consistent :=
  ⟨fun _ => ⟨rfl, rfl, rfl⟩, fun h => by simp [Basket.cleared, Basket.reset] at h,
    fun h => by simp [Basket.cleared, Basket.reset] at h⟩

theorem Basket.cleared_state (b : Basket) : b.cleared.state ≠ .authorising := by simp [Basket.cleared, Basket.reset]
@[simp] theorem Basket.cleared_seats (b : Basket) : b.cleared.seats = [] := rfl

theorem Basket.hasSeat_iff (b : Basket) (k : Nat) : b.hasSeat k = true ↔ k ∈ b.seats := by
  simp [Basket.hasSeat, Basket.seats]

/-- The seats left when some lines are taken out. -/
theorem Basket.seats_filter (ls : List SeatLine) (f : Nat → Bool) :
    (ls.filter (fun l => f l.seat)).map (·.seat) = (ls.map (·.seat)).filter f := by
  rw [List.filter_map]; rfl

@[simp] theorem retype_seats (ls : List SeatLine) (k : Nat) (t : Fin 8) : (retype ls k t).map (·.seat) = ls.map (·.seat) := by
  unfold retype
  rw [List.map_map]
  refine List.map_congr_left fun l _ => ?_
  dsimp only [Function.comp]
  split <;> rfl

end Sys2Proof.Machine
end

section
/-! The agreement of seats, baskets and entries under the commands of chapters 1 to 3: shows, holds and baskets. -/

namespace Sys2Proof.Machine

/-! ## Management of seats: no owner before, none after -/

/-- Seats that nobody holds change among FREE, HOUSE and SOLD. -/
theorem State.SeatsAgree.reseat {s t : State} {i : ShowNo} {ks : List Nat} (h : s.SeatsAgree) (hr : s.Reseats t i ks)
    (hb : t.baskets = s.baskets) (he : t.relay.entries = s.relay.entries) (hold : ∀ k ∈ ks, (s.seatAt i k).state.unowned)
    (hnew : ∀ k ∈ ks, (t.seatAt i k).state.unowned) : t.SeatsAgree := by
  have hbas : ∀ p, t.basket p = s.basket p := State.basket_of_baskets hb
  rw [State.seatsAgree_iff] at h ⊢
  obtain ⟨-, hl, hp, hc⟩ := h
  refine ⟨hr.tallied, ?_, ⟨?_, ?_⟩, fun p => ?_⟩
  · refine hl.of_touch ∅ ∅ hr.map (fun j n hj => ?_) (fun p _ => hbas p)
      (fun e _ => by rw [he]) (fun _ _ _ h => absurd h (Set.notMem_empty _)) (fun _ h => absurd h (Set.notMem_empty _))
      (fun _ _ _ h => absurd h (Set.notMem_empty _)) (fun _ _ h => absurd h (Set.notMem_empty _))
    by_cases hjn : j = i ∧ n ∈ ks
    · obtain ⟨rfl, hn⟩ := hjn
      exact .inr ⟨(hold n hn).ownedWithin _ _, (hnew n hn).ownedWithin _ _, fun _ => hnew n hn⟩
    · exact .inl (hr.others j n hj hjn)
  · rw [he]
    intro e hmem ha
    rw [hbas]
    exact hp.authorising e hmem ha
  · rw [he]; exact hp.origins
  · unfold State.authorises
    rw [hbas, he]
    exact hc p

/-- As `reseat`, for writes of seats that nothing follows. -/
theorem State.SeatsAgree.write {s t : State} {i : ShowNo} {ks : List Nat} (h : s.SeatsAgree) (hw : s.SeatStep t i ks)
    (hin : ∀ k ∈ ks, s.inMap i k) (hold : ∀ k ∈ ks, (s.seatAt i k).state.unowned)
    (hnew : ∀ k ∈ ks, (t.seatAt i k).state.unowned) : t.SeatsAgree :=
  h.reseat (hw.reseats h.tallied hin) (by rw [hw.frame]) (by rw [hw.frame]) hold hnew

theorem SeatState.unowned_of_not_isTaken {x : SeatState} (h : x.isTaken = false) : x.unowned := by
  cases x with
  | free | house => exact ⟨rfl, rfl⟩
  | held | pending | sold => exact absurd h (by simp [SeatState.isTaken])

/-! ### Load Seats (R14) -/

theorem State.writeSeats_seatStep (s : State) (i : ShowNo) (k : Nat) (xs : List Seat) :
    s.SeatStep (s.writeSeats i k xs) i (List.range' k xs.length) := by
  induction xs generalizing s k with
  | nil => exact .refl s i
  | cons x xs ih => exact (s.setSeat_seatStep i k x).trans (ih (s.setSeat i k x) (k + 1))

/-- Seat `first + j` is the record at place `j`, and a seat outside the run is as it was. -/
theorem State.seatAt_writeSeats (s : State) (i : ShowNo) (first n : Nat) (xs : List Seat) :
    (s.writeSeats i first xs).seatAt i n = if first ≤ n then xs.getD (n - first) (s.seatAt i n) else s.seatAt i n := by
  induction xs generalizing s first with
  | nil => simp [State.writeSeats]
  | cons x xs ih =>
    rw [State.writeSeats, ih, State.seatAt_setSeat]
    simp only [State.seatAddress_inj]
    by_cases he : n = first
    · subst he; simp
    · by_cases hlt : first ≤ n
      · have h1 : first + 1 ≤ n := by omega
        have h2 : n - first = (n - (first + 1)) + 1 := by omega
        simp [he, hlt, h1, h2]
      · have h1 : ¬ first + 1 ≤ n := by omega
        simp [he, hlt, h1]

theorem LoadRecord.seat_unowned {r : LoadRecord} {x : Seat} (h : r.seat = some x) : x.state.unowned := by
  unfold LoadRecord.seat at h
  split at h
  · cases h
  · split at h
    · cases h
    · split at h <;> cases h <;> exact ⟨rfl, rfl⟩

/-- The seats a Load Seats carries: as many as its records, and none of them HELD or PENDING. -/
theorem loadSeatsOf_some {rs : List LoadRecord} {xs : List Seat} (h : loadSeatsOf rs = some xs) :
    xs.length = rs.length ∧ ∀ x ∈ xs, x.state.unowned := by
  induction rs generalizing xs with
  | nil => cases h; simp
  | cons r rs ih =>
    unfold loadSeatsOf at h
    split at h
    · rename_i x ys hx hys
      cases h
      obtain ⟨hl, hu⟩ := ih hys
      exact ⟨by simp [hl], fun y hy => (List.mem_cons.1 hy).elim (fun e => e ▸ LoadRecord.seat_unowned hx) (hu y)⟩
    · cases h

theorem State.showCheck_none {s : State} {h : Handle} {legal : List ShowState} (hc : s.showCheck h legal = none) :
    (s.showAt h.index).generation = h.generation ∧ (s.showAt h.index).state ∈ legal := by
  unfold State.showCheck at hc
  split at hc
  · cases hc
  · rename_i hg
    split at hc
    · rename_i hl
      exact ⟨not_not.1 hg, by simpa using hl⟩
    · cases hc

theorem State.SeatsAgree.writeSeats {s : State} (h : s.SeatsAgree) {i : ShowNo} (hl : (s.showAt i).state = .loading) {first : Nat}
    {xs : List Seat} (hx : ∀ x ∈ xs, x.state.unowned) (hn : first + xs.length ≤ (s.showAt i).seatCount) :
    (s.writeSeats i first xs).SeatsAgree := by
  have hin : ∀ k ∈ List.range' first xs.length, s.inMap i k := fun k hk => by
    rw [List.mem_range'_1] at hk
    exact ⟨by rw [hl]; simp, by omega⟩
  refine h.write (s.writeSeats_seatStep i first xs) hin (fun k hk => h.linked.loading i k (hin k hk) hl) fun k hk => ?_
  rw [List.mem_range'_1] at hk
  have hlt : k - first < xs.length := by omega
  rw [State.seatAt_writeSeats, if_pos hk.1, List.getD_eq_getElem _ _ hlt]
  exact hx _ (List.getElem_mem hlt)

theorem State.SeatsAgree.loadSeats {s : State} (h : s.SeatsAgree) (args : Bytes) : (loadSeats args s).1.SeatsAgree := by
  unfold Machine.loadSeats
  split
  · exact h
  · refine withShow_fst_of_body h fun hc => ?_
    split
    · exact h
    · rename_i xs hxs
      split
      · exact h
      · rename_i hn
        obtain ⟨hlen, hu⟩ := loadSeatsOf_some hxs
        exact h.writeSeats (by simpa using (State.showCheck_none hc).2) hu (by omega)

/-! ### Set Seat and Mark Sold (R18, R19) -/

theorem notEmpty_of_legal {s : State} {h : Handle} {legal : List ShowState} (hc : s.showCheck h legal = none)
    (hl : .empty ∉ legal) : (s.showAt h.index).state ≠ .empty := fun he => hl (he ▸ (State.showCheck_none hc).2)

theorem State.SeatsAgree.setSeatState {s : State} (h : s.SeatsAgree) {i : ShowNo} {k : Nat} (hk : s.inMap i k) {x : SeatState}
    (hold : (s.seatAt i k).state.unowned) (hx : x.unowned) : (s.setSeatState i k x).SeatsAgree := by
  refine h.write (s.setSeatState_seatStep i k x) (by simpa using hk) (by simpa using hold) fun n hn => ?_
  rw [State.seatAt_setSeatState, if_pos (by simpa using hn)]
  exact hx

theorem State.SeatsAgree.setSeatCommand {s : State} (h : s.SeatsAgree) (args : Bytes) : (setSeatCommand args s).1.SeatsAgree := by
  unfold Machine.setSeatCommand
  split
  · exact h
  · rename_i hd k _
    refine withShow_fst_of_body h fun hc => ?_
    split
    · exact h
    · rename_i hk
      have hin : s.inMap hd.index k := ⟨notEmpty_of_legal hc (by simp [notEmptyStates]), by omega⟩
      split
      · rename_i hf
        exact h.setSeatState hin (by rw [hf]; exact ⟨rfl, rfl⟩) ⟨rfl, rfl⟩
      · rename_i hf
        exact h.setSeatState hin (by rw [hf]; exact ⟨rfl, rfl⟩) ⟨rfl, rfl⟩
      · exact h

theorem State.SeatsAgree.markSold {s : State} (h : s.SeatsAgree) (args : Bytes) : (markSold args s).1.SeatsAgree := by
  unfold Machine.markSold
  split
  · exact h
  · rename_i hd sale _ ks _
    refine withShow_fst_of_body h fun hc => ?_
    split
    · exact h
    · rename_i ty _
      split
      · exact h
      · rename_i hks
        dsimp only
        split
        · exact h
        · rename_i hbad
          have hlt : ∀ k ∈ ks, k < (s.showAt hd.index).seatCount := fun k hk => by
            by_contra hge
            exact hks (.inr (.inr (.inr (List.any_eq_true.2 ⟨k, hk, decide_eq_true (Nat.le_of_not_lt hge)⟩))))
          have hfree : ∀ k ∈ ks, (s.seatAt hd.index k).state.unowned := fun k hk =>
            SeatState.unowned_of_not_isTaken (by simpa using List.filter_eq_nil_iff.1 (not_not.1 hbad) k hk)
          have hstep : ∀ (t : State) (k : Nat), t.SeatStep (t.setSeatState hd.index k (.sold sale ty)) hd.index [id k] :=
            fun t k => t.setSeatState_seatStep hd.index k _
          have hw := foldl_seatStep hstep ks s
          have hsold := foldl_written (Q := SeatState.unowned) hstep
            (fun t k => by rw [id, State.seatAt_setSeatState, if_pos rfl]; exact ⟨rfl, rfl⟩) ks s
          rw [List.map_id] at hw hsold
          exact h.write hw (fun k hk => ⟨notEmpty_of_legal hc (by simp), hlt k hk⟩) hfree hsold

/-! ## The states of a show (R13, R15 to R17) -/

/-- A show opens or closes: no seat, no line and no count moves. -/
theorem State.SeatsAgree.setShowState {s : State} (h : s.SeatsAgree) {i : ShowNo} {st : ShowState}
    (hi : (s.showAt i).state ≠ .empty) (hne : st ≠ .empty) (hnl : st ≠ .loading) : (s.setShowState i st).SeatsAgree := by
  have hshow : ∀ j, (s.setShowState i st).showAt j = if j = i then { s.showAt i with state := st } else s.showAt j :=
    fun j => s.showAt_setShow i j _
  have hm : s.mapKept (s.setShowState i st) := by
    have hfields : ∀ j, ((s.setShowState i st).showAt j).seatBase = (s.showAt j).seatBase
        ∧ ((s.setShowState i st).showAt j).seatCount = (s.showAt j).seatCount
        ∧ ((s.setShowState i st).showAt j).generation = (s.showAt j).generation
        ∧ (((s.setShowState i st).showAt j).state = .empty ↔ (s.showAt j).state = .empty)
        ∧ (((s.setShowState i st).showAt j).state = .loading → (s.showAt j).state = .loading) := fun j => by
      rw [hshow]
      by_cases hj : j = i
      · subst hj
        rw [if_pos rfl]
        exact ⟨rfl, rfl, rfl, ⟨fun e => absurd e hne, fun e => absurd e hi⟩, fun e => absurd e hnl⟩
      · rw [if_neg hj]
        exact ⟨rfl, rfl, rfl, .rfl, id⟩
    exact ⟨fun j => (hfields j).1, fun j => (hfields j).2.1, fun j => (hfields j).2.2.1, fun j => (hfields j).2.2.2.1,
      fun j => (hfields j).2.2.2.2⟩
  have hseat : ∀ j n, (s.setShowState i st).seatAt j n = s.seatAt j n := fun j n => by
    unfold State.seatAt; rw [hm.seatBase]; rfl
  rw [State.seatsAgree_iff] at h ⊢
  obtain ⟨ht, hl, hp, hc⟩ := h
  refine ⟨ht.of_kinds hm (fun j => ?_) (fun j n _ => by rw [hseat]), ?_, ⟨hp.authorising, hp.origins⟩, hc⟩
  · rw [hshow]
    split
    · rename_i hj; rw [hj]
    · rfl
  · exact hl.of_touch ∅ ∅ hm (fun j n _ => .inl (hseat j n)) (fun _ _ => rfl) (fun _ _ => .rfl)
      (fun _ _ _ h => absurd h (Set.notMem_empty _)) (fun _ h => absurd h (Set.notMem_empty _))
      (fun _ _ _ h => absurd h (Set.notMem_empty _)) (fun _ _ h => absurd h (Set.notMem_empty _))

theorem State.SeatsAgree.openShow {s : State} (h : s.SeatsAgree) (args : Bytes) : (openShow args s).1.SeatsAgree := by
  unfold Machine.openShow
  split
  · exact h
  · exact withShow_fst_of_body h fun hc => h.setShowState (notEmpty_of_legal hc (by simp)) (by simp) (by simp)

theorem State.SeatsAgree.closeShow {s : State} (h : s.SeatsAgree) (args : Bytes) : (closeShow args s).1.SeatsAgree := by
  unfold Machine.closeShow
  split
  · exact h
  · exact withShow_fst_of_body h fun hc => h.setShowState (notEmpty_of_legal hc (by simp)) (by simp) (by simp)

/-- A show without an owned seat gives way to another with none, and the rest of the map stays. -/
theorem State.SeatsAgree.replaceShow {s t : State} {i : ShowNo} (h : s.SeatsAgree) (ht : t.Tallied)
    (hshow : ∀ j, j ≠ i → t.showAt j = s.showAt j) (hseat : ∀ j n, j ≠ i → s.inMap j n → t.seatAt j n = s.seatAt j n)
    (hold : ∀ n, s.inMap i n → (s.seatAt i n).state.unowned) (hnew : ∀ n, t.inMap i n → (t.seatAt i n).state.unowned)
    (hb : t.baskets = s.baskets) (he : t.relay.entries = s.relay.entries) : t.SeatsAgree := by
  have hbas : ∀ p, t.basket p = s.basket p := State.basket_of_baskets hb
  have hin : ∀ {j n}, j ≠ i → (t.inMap j n ↔ s.inMap j n) := fun hj => by unfold State.inMap; rw [hshow _ hj]
  have hof : ∀ {j}, j ≠ i → t.handleOf j = s.handleOf j := fun hj => by unfold State.handleOf; rw [hshow _ hj]
  have hlines : ∀ {hd ks st}, (∀ x : SeatState, x.unowned → st x = false) → s.seatsAre hd ks st → t.seatsAre hd ks st := by
    intro hd ks st hst ⟨hnd, hall⟩
    refine ⟨hnd, fun k hk => ?_⟩
    obtain ⟨hc, hn, hx⟩ := hall k hk
    have hmap := State.inMap_of_current hc hn
    have hne : hd.index ≠ i := fun hi => by
      rw [hi] at hx hmap
      rw [hst _ (hold k hmap)] at hx
      exact absurd hx Bool.false_ne_true
    exact ⟨by rw [State.current, hshow _ hne]; exact hc, by rw [hshow _ hne]; exact hn, by rw [hseat _ _ hne hmap]; exact hx⟩
  have hheld : ∀ p (x : SeatState), x.unowned → x.heldBy p = false := fun p x hx =>
    Bool.eq_false_iff.2 (SeatState.not_heldBy_of_unowned hx p)
  have hpend : ∀ n (x : SeatState), x.unowned → x.pendingUnder n = false := fun n x hx =>
    Bool.eq_false_iff.2 (SeatState.not_pendingUnder_of_ownedWithin (hx.ownedWithin ∅ ∅) (Set.notMem_empty n))
  rw [State.seatsAgree_iff] at h ⊢
  obtain ⟨-, hl, hp, hc⟩ := h
  refine ⟨ht, ⟨fun j n hj hload => ?_, fun j n p hj hx => ?_, fun p ha => ?_, fun j n tag hj hx => ?_, fun e hmem => ?_⟩,
    ⟨?_, ?_⟩, fun p => ?_⟩
  · by_cases hji : j = i
    · subst hji; exact hnew n hj
    · rw [hshow j hji] at hload
      rw [hin hji] at hj
      rw [hseat j n hji hj]
      exact hl.loading j n hj hload
  · by_cases hji : j = i
    · subst hji; exact absurd hx (SeatState.not_heldBy_of_unowned (hnew n hj) p)
    · rw [hin hji] at hj
      rw [hseat j n hji hj] at hx
      rw [hbas, hof hji]
      exact hl.held j n p hj hx
  · rw [hbas] at ha ⊢
    exact hlines (hheld p) (hl.lines p ha)
  · by_cases hji : j = i
    · subst hji; rw [hpend tag _ (hnew n hj)] at hx; exact absurd hx Bool.false_ne_true
    · rw [hin hji] at hj
      rw [hseat j n hji hj] at hx
      rw [he, hof hji]
      exact hl.pending j n tag hj hx
  · rw [he] at hmem
    exact hlines (hpend e.tag) (hl.entries e hmem)
  · rw [he]
    intro e hmem ha
    rw [hbas]
    exact hp.authorising e hmem ha
  · rw [he]; exact hp.origins
  · unfold State.authorises
    rw [hbas, he]
    exact hc p

/-! ### Reading a show that was written over its range -/

theorem State.showAt_blankRange (s : State) (base n : Nat) (i : ShowNo) : (s.blankRange base n).showAt i = s.showAt i := rfl

/-- R13, R17: the records of the range are as Define Show writes them, and every other record is as it was. -/
theorem State.poolSeat_blankRange (s : State) (base n a : Nat) :
    (s.blankRange base n).poolSeat a = if base ≤ a ∧ a < base + n then Seat.blank else s.poolSeat a :=
  Sparse.get_update _ _ _ _ _ _

theorem State.poolSeat_setShow (s : State) (i : ShowNo) (x : Show) (a : Nat) : (s.setShow i x).poolSeat a = s.poolSeat a := rfl

/-- A seat of another show keeps its record where the ranges do not meet. -/
theorem State.seatAt_blankRange_of_ne (s : State) {i j : ShowNo} (x : Show) {base n k : Nat} (hj : j ≠ i)
    (hk : ¬ (base ≤ s.seatAddress j k ∧ s.seatAddress j k < base + n)) :
    ((s.blankRange base n).setShow i x).seatAt j k = s.seatAt j k := by
  have ha : ((s.blankRange base n).setShow i x).seatAddress j k = s.seatAddress j k := by
    unfold State.seatAddress; rw [State.showAt_setShow, if_neg hj]; rfl
  rw [State.seatAt_eq_poolSeat, ha, State.poolSeat_setShow, State.poolSeat_blankRange, if_neg hk]
  rfl

/-- A seat of the show written in the range is blank. -/
theorem State.seatAt_blankRange_self (s : State) (i : ShowNo) {x : Show} {base n k : Nat} (hb : x.seatBase = base) (hk : k < n) :
    ((s.blankRange base n).setShow i x).seatAt i k = Seat.blank := by
  have ha : ((s.blankRange base n).setShow i x).seatAddress i k = base + k := by
    unfold State.seatAddress; rw [State.showAt_setShow, if_pos rfl, hb]
  rw [State.seatAt_eq_poolSeat, ha, State.poolSeat_setShow, State.poolSeat_blankRange, if_pos ⟨by omega, by omega⟩]

/-- The rest of the directory tallies as it did beside a show written over its range. -/
theorem State.Tallied.replaceShow {s t : State} {i : ShowNo} (h : s.Tallied) (hshow : ∀ j, j ≠ i → t.showAt j = s.showAt j)
    (hseat : ∀ j n, j ≠ i → s.inMap j n → t.seatAt j n = s.seatAt j n)
    (hrange : (t.showAt i).state ≠ .empty → 1 ≤ (t.showAt i).seatCount ∧ (t.showAt i).seatCount ≤ 1024
      ∧ (t.showAt i).seatBase + (t.showAt i).seatCount ≤ 32768)
    (happart : (t.showAt i).state ≠ .empty → ∀ j, j ≠ i → (s.showAt j).state ≠ .empty →
      (t.showAt i).seatBase + (t.showAt i).seatCount ≤ (s.showAt j).seatBase
        ∨ (s.showAt j).seatBase + (s.showAt j).seatCount ≤ (t.showAt i).seatBase)
    (hcounts : (t.showAt i).state ≠ .empty → (t.showAt i).counts =
      { free := t.seatsIn i SeatState.isFree, held := t.seatsIn i SeatState.isHeld, pending := t.seatsIn i SeatState.isPending
        sold := t.seatsIn i SeatState.isSold, house := t.seatsIn i SeatState.isHouse }) : t.Tallied := by
  refine ⟨fun j hj => ?_, fun j k hjk hj hk => ?_, fun j hj => ?_⟩
  · by_cases hji : j = i
    · subst hji; exact hrange hj
    · rw [hshow j hji] at hj ⊢
      exact h.ranges j hj
  · by_cases hji : j = i
    · subst hji
      rw [hshow k (Ne.symm hjk)] at hk ⊢
      exact happart hj k (Ne.symm hjk) hk
    · by_cases hki : k = i
      · subst hki
        rw [hshow j hji] at hj ⊢
        exact (happart hk j hji hj).symm
      · rw [hshow j hji, hshow k hki] at *
        exact h.apart j k hjk hj hk
  · by_cases hji : j = i
    · subst hji; exact hcounts hj
    · have hin : ∀ st, t.seatsIn j st = s.seatsIn j st := fun st => by
        unfold State.seatsIn State.countSeats
        rw [hshow j hji] at hj ⊢
        exact congrArg List.length (List.filter_congr fun k hk => by
          rw [hseat j k hji ⟨hj, List.mem_range.1 hk⟩])
      rw [hshow j hji] at hj ⊢
      rw [h.counts j hj]
      simp only [hin]

theorem State.overlaps_eq_false {s : State} {base n : Nat} (h : ¬ s.overlaps base n = true) (j : ShowNo)
    (hj : (s.showAt j).state ≠ .empty) :
    base + n ≤ (s.showAt j).seatBase ∨ (s.showAt j).seatBase + (s.showAt j).seatCount ≤ base := by
  by_contra hc
  rw [not_or, Nat.not_le, Nat.not_le] at hc
  refine h (List.any_eq_true.2 ⟨j, List.mem_finRange j, ?_⟩)
  simp [rangesMeet, hj, hc.1, hc.2]

/-- R13: a show defined over a range that meets no other. -/
theorem State.SeatsAgree.define {s : State} (h : s.SeatsAgree) {i : ShowNo} (hi : (s.showAt i).state = .empty) {x : Show}
    {base n : Nat} (hxb : x.seatBase = base) (hxn : x.seatCount = n) (hn : 1 ≤ n ∧ n ≤ 1024) (hb : base + n ≤ 32768)
    (ho : ¬ s.overlaps base n = true) (hc : x.counts = { free := 0, held := 0, pending := 0, sold := 0, house := n }) :
    ((s.blankRange base n).setShow i x).SeatsAgree := by
  subst hxb hxn
  have hself : ((s.blankRange x.seatBase x.seatCount).setShow i x).showAt i = x := by rw [State.showAt_setShow, if_pos rfl]
  have hshow : ∀ j, j ≠ i → ((s.blankRange x.seatBase x.seatCount).setShow i x).showAt j = s.showAt j := fun j hj => by
    rw [State.showAt_setShow, if_neg hj]; rfl
  have hseat : ∀ j n, j ≠ i → s.inMap j n →
      ((s.blankRange x.seatBase x.seatCount).setShow i x).seatAt j n = s.seatAt j n := fun j n hj hin =>
    s.seatAt_blankRange_of_ne x hj (by
      have := State.overlaps_eq_false ho j hin.1
      have := hin.2
      unfold State.seatAddress
      omega)
  have hblank : ∀ n, n < x.seatCount → ((s.blankRange x.seatBase x.seatCount).setShow i x).seatAt i n = Seat.blank :=
    fun n hlt => s.seatAt_blankRange_self i rfl hlt
  refine h.replaceShow (h.tallied.replaceShow hshow hseat (fun _ => ?_) (fun _ j _ hj => ?_) fun _ => ?_) hshow hseat
    (fun n hin => absurd hi hin.1) (fun n hin => ?_) rfl rfl
  · rw [hself]; exact ⟨hn.1, hn.2, hb⟩
  · rw [hself]; exact State.overlaps_eq_false ho j hj
  · have hcount : ∀ st : SeatState → Bool, ((s.blankRange x.seatBase x.seatCount).setShow i x).seatsIn i st =
        if st .house then x.seatCount else 0 := fun st => by
      unfold State.seatsIn State.countSeats
      rw [hself, List.filter_congr (q := fun _ => st .house) fun k hk => by rw [hblank k (List.mem_range.1 hk)]; rfl]
      cases st .house <;> simp
    rw [hself, hc]
    simp only [hcount]
    rfl
  · rw [hblank n (by simpa [hself] using hin.2)]
    exact ⟨rfl, rfl⟩

theorem State.SeatsAgree.defineShow {s : State} (h : s.SeatsAgree) (args : Bytes) : (defineShow args s).1.SeatsAgree := by
  unfold Machine.defineShow
  split
  · exact h
  · split
    · exact h
    · split
      · exact h
      · rename_i hi
        split
        · split
          · exact h
          · rename_i hargs
            split
            · exact h
            · rename_i hb
              split
              · exact h
              · rename_i ho
                exact h.define (not_not.1 hi) rfl rfl ⟨by omega, by omega⟩ (by omega) ho rfl
        · exact h

/-- A show with true counts and no seat HELD or PENDING in them has none on its map. -/
theorem State.Tallied.unowned_of_counts {s : State} (h : s.Tallied) {i : ShowNo}
    (hc : (s.showAt i).counts.held = 0 ∧ (s.showAt i).counts.pending = 0) {n : Nat} (hn : s.inMap i n) :
    (s.seatAt i n).state.unowned := by
  have hcount := h.counts i hn.1
  rw [hcount] at hc
  have hnone : ∀ st, s.seatsIn i st = 0 → st (s.seatAt i n).state = false := fun st h0 => by
    have := List.filter_eq_nil_iff.1 (List.length_eq_zero_iff.1 h0) n (List.mem_range.2 hn.2)
    simpa using this
  exact ⟨hnone _ hc.1, hnone _ hc.2⟩

theorem State.SeatsAgree.removeShow {s : State} (h : s.SeatsAgree) (args : Bytes) : (removeShow args s).1.SeatsAgree := by
  unfold Machine.removeShow
  split
  · exact h
  · rename_i hd _
    refine withShow_fst_of_body h fun hc => ?_
    dsimp only
    split
    · exact h
    · rename_i hzero
      generalize hx : ({ Show.reset with generation := ((s.showAt hd.index).generation + 1) % 16 } : Show) = x
      have hempty : x.state = .empty := by rw [← hx]; rfl
      have hne := notEmpty_of_legal hc (by simp)
      have hself : ((s.blankRange (s.showAt hd.index).seatBase (s.showAt hd.index).seatCount).setShow hd.index x).showAt hd.index
          = x := by rw [State.showAt_setShow, if_pos rfl]
      have hshow : ∀ j, j ≠ hd.index →
          ((s.blankRange (s.showAt hd.index).seatBase (s.showAt hd.index).seatCount).setShow hd.index x).showAt j = s.showAt j :=
        fun j hj => by rw [State.showAt_setShow, if_neg hj]; rfl
      have hseat : ∀ j n, j ≠ hd.index → s.inMap j n →
          ((s.blankRange (s.showAt hd.index).seatBase (s.showAt hd.index).seatCount).setShow hd.index x).seatAt j n
            = s.seatAt j n := fun j n hj hin => s.seatAt_blankRange_of_ne x hj (by
        have := h.apart j hd.index hj hin.1 hne
        have := hin.2
        unfold State.seatAddress
        omega)
      have hgone : ∀ {P : Prop}, (((s.blankRange (s.showAt hd.index).seatBase (s.showAt hd.index).seatCount).setShow
          hd.index x).showAt hd.index).state ≠ .empty → P := fun hs => by rw [hself] at hs; exact absurd hempty hs
      exact h.replaceShow (h.tallied.replaceShow hshow hseat hgone hgone hgone) hshow hseat
        (fun n hin => h.tallied.unowned_of_counts (by omega) hin) (fun n hin => hgone hin.1) rfl rfl

end Sys2Proof.Machine
end

section
/-! The agreement of seats, baskets and entries under holds, releases, edits, UNDO and the loss of seats (chapters 2, 3 and 9). -/

namespace Sys2Proof.Machine

/-! ## Seats that a port's basket lets go -/

/-- Seats of a port's lines leave it for no owner, and their lines with them. -/
theorem State.Serving.letGo {s t : State} {p : PortNo} {ks : List Nat} (h : s.Serving p)
    (hr : s.Reseats t (s.basket p).handle.index ks) (hks : ∀ k ∈ ks, k ∈ (s.basket p).seats)
    (hnew : ∀ k ∈ ks, (t.seatAt (s.basket p).handle.index k).state.unowned)
    (he : t.relay.entries = s.relay.entries) (hb : ∀ q, q ≠ p → t.basket q = s.basket q)
    (hstate : (t.basket p).state ≠ .authorising) (hhandle : (t.basket p).handle = (s.basket p).handle)
    (hseats : (t.basket p).seats = (s.basket p).seats.filter (fun k => !ks.contains k)) : t.Serving p := by
  have hlines := h.linked.lines p h.serves
  refine h.transact hr he hb hstate (fun k hk => ?_) (fun k hk => (hnew k hk).ownedWithin _ _) (.inr hnew) (fun j n hj hx => ?_)
    ⟨by rw [hseats]; exact hlines.1.filter _, fun k hk => ?_⟩
  · exact SeatState.ownedWithin_of_heldBy (hlines.2 k (hks k hk)).2.2 (Set.mem_singleton p) _
  · by_cases hjn : j = (s.basket p).handle.index ∧ n ∈ ks
    · obtain ⟨rfl, hn⟩ := hjn
      exact absurd hx (SeatState.not_heldBy_of_unowned (hnew n hn) p)
    · rw [hr.others j n hj hjn] at hx
      obtain ⟨hh, hn⟩ := (h.mem_seats_iff hj).1 hx
      have hji : j = (s.basket p).handle.index := by rw [hh]; rfl
      refine ⟨hhandle.trans hh, ?_⟩
      rw [hseats, List.mem_filter]
      exact ⟨hn, by simpa using fun hmem => hjn ⟨hji, hmem⟩⟩
  · rw [hseats, List.mem_filter] at hk
    obtain ⟨hmem, hnot⟩ := hk
    obtain ⟨hc, hn, hx⟩ := hlines.2 k hmem
    rw [hhandle, hr.map.current, hr.map.seatCount, hr.others _ k (State.inMap_of_current hc hn) fun hin => by simp [hin.2] at hnot]
    exact ⟨hc, hn, hx⟩

theorem State.Serving.lines_inMap {s : State} {p : PortNo} (h : s.Serving p) {k : Nat} (hk : k ∈ (s.basket p).seats) :
    s.inMap (s.basket p).handle.index k :=
  State.inMap_of_current ((h.linked.lines p h.serves).2 k hk).1 ((h.linked.lines p h.serves).2 k hk).2.1

/-- R7: the seats return to FREE or to HOUSE. -/
theorem State.Serving.giveBack {s t : State} {p : PortNo} {ks : List Nat} (h : s.Serving p)
    (hks : ∀ k ∈ ks, k ∈ (s.basket p).seats) (hts : t.seats = (s.returnSeats (s.basket p).handle.index ks).seats)
    (he : t.relay.entries = s.relay.entries) (hb : ∀ q, q ≠ p → t.basket q = s.basket q)
    (hstate : (t.basket p).state ≠ .authorising) (hhandle : (t.basket p).handle = (s.basket p).handle)
    (hseats : (t.basket p).seats = (s.basket p).seats.filter (fun k => !ks.contains k)) : t.Serving p := by
  refine h.letGo (((s.returnSeats_seatStep _ ks).reseats h.tallied fun k hk => h.lines_inMap (hks k hk)).congr_right
    (by rw [hts]) (by rw [hts])) hks (fun k hk => ?_) he hb hstate hhandle hseats
  rw [State.seatAt_of_seats hts, State.returnSeats_eq, State.seatAt_eachSeat s _ SeatState.givenUp_givenUp, if_pos hk]
  exact SeatState.givenUp_unowned _

/-! ## Seats that a port takes -/

theorem SeatState.taken_heldBy (p : PortNo) (lease : Nat) (x : SeatState) : (x.taken p lease).heldBy p = true := by
  cases x <;> simp [SeatState.taken, SeatState.heldBy]

theorem State.takeSeats_step (p : PortNo) (i : ShowNo) (s : State) (k : Nat) :
    s.SeatStep (s.setSeatState i k ((s.seatAt i k).state.taken p s.seats.leaseTime)) i [id k] := s.setSeatState_seatStep i k _

theorem State.takeSeats_seatStep (s : State) (p : PortNo) (i : ShowNo) (ks : List Nat) :
    s.SeatStep (s.takeSeats p i ks) i ks := by
  have h := foldl_seatStep (State.takeSeats_step p i) ks s
  rwa [List.map_id] at h

theorem State.takeSeats_heldBy (s : State) (p : PortNo) (i : ShowNo) (ks : List Nat) :
    ∀ k ∈ ks, ((s.takeSeats p i ks).seatAt i k).state.heldBy p = true := by
  have h := foldl_written (Q := fun x => x.heldBy p = true) (State.takeSeats_step p i)
    (fun t k => by rw [id, State.seatAt_setSeatState, if_pos rfl]; exact SeatState.taken_heldBy _ _ _) ks s
  rwa [List.map_id] at h

/-- R28, R56: free seats of a show on sale become HELD by the port, with a line for each after those it has. -/
theorem State.Serving.take {s t : State} {p : PortNo} {hd : Handle} {ks : List Nat} (h : s.Serving p) (hnd : ks.Nodup)
    (hcur : s.current hd = true) (hsale : (s.showAt hd.index).state ≠ .loading)
    (hin : ∀ k ∈ ks, k < (s.showAt hd.index).seatCount) (hfree : ∀ k ∈ ks, (s.seatAt hd.index k).state.unowned)
    (hhd : (s.basket p).seats = [] ∨ (s.basket p).handle = hd) (hts : t.seats = (s.takeSeats p hd.index ks).seats)
    (he : t.relay.entries = s.relay.entries) (hb : ∀ q, q ≠ p → t.basket q = s.basket q)
    (hstate : (t.basket p).state ≠ .authorising) (hhandle : (t.basket p).handle = hd)
    (hseats : (t.basket p).seats = (s.basket p).seats ++ ks) : t.Serving p := by
  have hof := ((s.current_iff hd).1 hcur).2
  have hmap : ∀ k ∈ ks, s.inMap hd.index k := fun k hk => State.inMap_of_current hcur (hin k hk)
  have hr := ((s.takeSeats_seatStep p hd.index ks).reseats h.tallied hmap).congr_right (t' := t) (by rw [hts]) (by rw [hts])
  have hheld : ∀ k ∈ ks, (t.seatAt hd.index k).state.heldBy p = true := fun k hk => by
    rw [State.seatAt_of_seats hts]; exact s.takeSeats_heldBy p hd.index ks k hk
  have hlines := h.linked.lines p h.serves
  have hold : ∀ k ∈ (s.basket p).seats, (s.basket p).handle = hd := fun k hk =>
    hhd.resolve_left (List.ne_nil_of_mem hk)
  have hnew : ∀ k ∈ (s.basket p).seats, k ∉ ks := fun k hk hmem => by
    have := (hlines.2 k hk).2.2
    rw [hold k hk] at this
    exact SeatState.not_heldBy_of_unowned (hfree k hmem) p this
  refine h.transact hr he hb hstate (fun k hk => (hfree k hk).ownedWithin _ _)
    (fun k hk => SeatState.ownedWithin_of_heldBy (hheld k hk) (Set.mem_singleton p) _) (.inl hsale) (fun j n hj hx => ?_) ?_
  · rw [hhandle, hseats, List.mem_append]
    by_cases hjn : j = hd.index ∧ n ∈ ks
    · obtain ⟨rfl, hn⟩ := hjn
      exact ⟨hof, .inr hn⟩
    · rw [hr.others j n hj hjn] at hx
      obtain ⟨hh, hn⟩ := (h.mem_seats_iff hj).1 hx
      exact ⟨(hold n hn).symm.trans hh, .inl hn⟩
  · rw [hhandle, hseats]
    refine ⟨List.nodup_append'.2 ⟨hlines.1, hnd, fun k hk hmem => hnew k hk hmem⟩, fun k hk => ?_⟩
    rw [hr.map.current, hr.map.seatCount]
    rcases List.mem_append.1 hk with hk | hk
    · obtain ⟨-, hn, hx⟩ := hlines.2 k hk
      rw [hold k hk] at hn hx
      rw [hr.others _ k (State.inMap_of_current hcur hn) fun hkin => hnew k hk hkin.2]
      exact ⟨hcur, hn, hx⟩
    · exact ⟨hcur, hin k hk, hheld k hk⟩

/-! ## HOLD and RELEASE (R26 to R31) -/

theorem readSeatList_nodup {b : Bytes} {ks : List Nat} (h : readSeatList b = some ks) : ks.Nodup := by
  unfold readSeatList at h
  simp only [Option.bind_eq_bind, Option.bind_eq_some_iff] at h
  obtain ⟨⟨n, r⟩, -, ⟨xs, r'⟩, -, h⟩ := h
  dsimp only at h
  split at h
  · rename_i hc
    unfold done at h
    split at h
    · cases h; exact (noRepeat_iff _).1 hc.2.2
    · cases h
  · cases h

theorem readHold_nodup {b : Bytes} {hd : Handle} {ks : List Nat} (h : readHold b = some (hd, ks)) : ks.Nodup := by
  unfold readHold at h
  simp only [Option.bind_eq_bind, Option.bind_eq_some_iff] at h
  obtain ⟨⟨hd', r⟩, -, xs, hxs, h⟩ := h
  cases h
  exact readSeatList_nodup hxs

/-- R26: what a HOLD that passes the checks on the whole request finds. -/
theorem State.holdCheck_none {s : State} {p : PortNo} {hd : Handle} {ks : List Nat} (h : s.holdCheck p hd ks = none) :
    (s.showAt hd.index).state = .onSale ∧ s.current hd = true ∧ (∀ k ∈ ks, k < (s.showAt hd.index).seatCount)
      ∧ (s.basket p).state ≠ .authorising ∧ ((s.basket p).seatLines = [] ∨ (s.basket p).handle = hd) := by
  unfold State.holdCheck at h
  dsimp only at h
  split at h
  · cases h
  · split at h
    · cases h
    · rename_i hsale
      split at h
      · cases h
      · rename_i hcur
        split at h
        · cases h
        · rename_i hbeyond
          split at h
          · cases h
          · rename_i ha
            split at h
            · cases h
            · rename_i hmix
              refine ⟨not_not.1 hsale, by simpa using hcur, fun k hk => ?_, ha, ?_⟩
              · simpa using List.filter_eq_nil_iff.1 (not_not.1 hbeyond) k hk
              · by_contra hc
                rw [not_or] at hc
                exact hmix hc

/-- R27: a listed seat that fails no check and is not yet the port's is FREE or HOUSE. -/
theorem State.unowned_of_holdReason {s : State} {p : PortNo} {i : ShowNo} {k : Nat} (h : s.holdReason p i k = none)
    (hn : s.isNew p i k = true) : (s.seatAt i k).state.unowned := by
  unfold State.holdReason at h
  split at h
  · cases h
  · unfold State.isNew at hn
    split at h
    · rename_i hst; rw [hst]; exact ⟨rfl, rfl⟩
    · rename_i hst; rw [hst]; exact ⟨rfl, rfl⟩
    · rename_i o _ _ hst
      split at h
      · rename_i ho; rw [hst] at hn; simp [SeatState.heldBy, ho] at hn
      · cases h
    · cases h
    · cases h

theorem State.SeatsAgree.hold {s : State} (h : s.SeatsAgree) (p : PortNo) (payload : Bytes) :
    (hold p payload s).1.SeatsAgree := by
  unfold Machine.hold
  split
  · exact h
  · split
    · exact h
    · rename_i hd ks hread
      split
      · exact h
      · rename_i hcheck
        split
        · exact h
        · rename_i hfail
          dsimp only
          split
          · exact h
          · obtain ⟨hsale, hcur, hin, ha, hhd⟩ := State.holdCheck_none hcheck
            have hfree : ∀ k ∈ ks.filter (s.isNew p hd.index), (s.seatAt hd.index k).state.unowned := fun k hk => by
              obtain ⟨hmem, hnew⟩ := List.mem_filter.1 hk
              have := List.filterMap_eq_nil_iff.1 hfail k hmem
              exact State.unowned_of_holdReason (Option.map_eq_none_iff.1 this) hnew
            refine (State.Serving.take (h.serving ha) ((readHold_nodup hread).filter _) hcur (by rw [hsale]; simp)
              (fun k hk => hin k (List.mem_filter.1 hk).1) hfree (hhd.imp_left fun e => by rw [Basket.seats, e]; rfl)
              (t := s.holdSeats p hd (ks.filter (s.isNew p hd.index))) rfl ?_ (fun q hq => ?_) ?_ ?_ ?_).seatsAgree ?_
            · show (s.takeSeats p hd.index _).relay.entries = _
              rw [(s.takeSeats_seatStep _ _ _).frame]
            · rw [State.holdSeats, State.basket_setBasket, if_neg hq]
              exact State.basket_of_baskets (by rw [(s.takeSeats_seatStep _ _ _).frame]) q
            · rw [State.holdSeats, State.basket_setBasket, if_pos rfl]
              exact Basket.edited_state _ _
            · rw [State.holdSeats, State.basket_setBasket, if_pos rfl, Basket.edited_handle]
              rcases hhd with hnil | hh
              · simp [hnil]
              · simp [hh]
            · rw [State.holdSeats, State.basket_setBasket, if_pos rfl, Basket.edited_seats]
              simp [Basket.seats, Function.comp_def]
            · rw [State.holdSeats, State.basket_setBasket, if_pos rfl]
              exact Basket.edited_consistent _ _

theorem State.basket_releaseSeats (s : State) (p : PortNo) (ks : List Nat) : (s.releaseSeats p ks).basket p =
    ({ s.basket p with seatLines := (s.basket p).seatLines.filter fun l => !ks.contains l.seat } : Basket).edited
      (.release (s.basket p).handle (ks.filterMap (s.basket p).lineOf)) := by
  rw [State.releaseSeats, State.basket_setBasket, if_pos rfl]

theorem State.SeatsAgree.release {s : State} (h : s.SeatsAgree) (p : PortNo) (payload : Bytes) :
    (release p payload s).1.SeatsAgree := by
  unfold Machine.release
  split
  · exact h
  · split
    · exact h
    · rename_i ks _
      dsimp only
      split
      · exact h
      · rename_i ha
        split
        · exact h
        · have hb := s.basket_releaseSeats p (ks.filter (s.basket p).hasSeat)
          refine (State.Serving.giveBack (h.serving ha) (ks := ks.filter (s.basket p).hasSeat)
            (t := s.releaseSeats p (ks.filter (s.basket p).hasSeat)) (fun k hk => ?_) rfl ?_ (fun q hq => ?_) ?_ ?_ ?_).seatsAgree ?_
          · exact ((s.basket p).hasSeat_iff k).1 (List.mem_filter.1 hk).2
          · show (s.returnSeats _ _).relay.entries = _
            rw [(s.returnSeats_seatStep _ _).frame]
          · rw [State.releaseSeats, State.basket_setBasket, if_neg hq]
            exact State.basket_of_baskets (by rw [(s.returnSeats_seatStep _ _).frame]) q
          · rw [hb]; exact Basket.edited_state _ _
          · rw [hb]; rfl
          · rw [hb, Basket.edited_seats]
            exact Basket.seats_filter _ fun k => !(ks.filter (s.basket p).hasSeat).contains k
          · rw [hb]; exact Basket.edited_consistent _ _

/-! ## Edits (R47 to R52, R61) -/

/-- A change of one port's basket that leaves its handle and its seats, into a basket that stands to its contents. -/
theorem State.SeatsAgree.rebasket {s t : State} {p : PortNo} {b : Basket} (h : s.SeatsAgree)
    (hp : (s.basket p).state ≠ .authorising) (hs : t.seats = s.seats) (hr : t.relay = s.relay)
    (hb : t.baskets = s.baskets.set p b) (hstate : b.state ≠ .authorising) (hc : b.consistent)
    (hseats : b.seats = (s.basket p).seats) (hhandle : b.handle = (s.basket p).handle) : t.SeatsAgree := by
  have hbas : ∀ q, t.basket q = if q = p then b else s.basket q := fun q => by
    rw [← State.basket_setBasket, State.basket_of_baskets (s := s.setBasket p b) hb]
  have hself : t.basket p = b := by rw [hbas, if_pos rfl]
  refine ((h.serving hp).rebasket (by rw [hs]) (by rw [hs]) (by rw [hr]) (fun q hq => by rw [hbas, if_neg hq]) ?_ ?_ ?_).seatsAgree ?_
  all_goals rw [hself]; assumption

theorem State.changeSlot_seats (s : State) (n : Nat) (f : Slot → Slot) : (s.changeSlot n f).seats = s.seats := by
  rw [s.changeSlot_frame]
theorem State.changeSlot_relay (s : State) (n : Nat) (f : Slot → Slot) : (s.changeSlot n f).relay = s.relay := by
  rw [s.changeSlot_frame]
theorem State.changeSlot_baskets (s : State) (n : Nat) (f : Slot → Slot) : (s.changeSlot n f).baskets = s.baskets := by
  rw [s.changeSlot_frame]

section
variable {s : State} (h : s.SeatsAgree) {p : PortNo} (hp : (s.basket p).state ≠ .authorising)
include h hp

/-- R47: an edit that leaves the handle and the seats of the lines. -/
theorem State.SeatsAgree.edit {t : State} {b : Basket} {e : UndoEntry} (hs : t.seats = s.seats) (hr : t.relay = s.relay)
    (hb : t.baskets = s.baskets) (hseats : b.seats = (s.basket p).seats) (hhandle : b.handle = (s.basket p).handle) :
    (t.setBasket p (b.edited e)).SeatsAgree :=
  h.rebasket hp hs hr (by rw [State.setBasket, hb]) (b.edited_state e) (b.edited_consistent e) hseats hhandle

theorem State.SeatsAgree.setTypeBody (a : Nat × Fin 8) : (setTypeBody p a s).1.SeatsAgree := by
  unfold Machine.setTypeBody
  dsimp only
  split
  · exact h
  · split
    · exact h
    · split
      · exact h
      · split
        · exact h
        · exact h.edit hp rfl rfl rfl (retype_seats _ _ _) rfl

theorem State.SeatsAgree.addComboBody (c : Fin 32) : (addComboBody p c s).1.SeatsAgree := by
  unfold Machine.addComboBody
  dsimp only
  split
  · exact h
  · split
    · exact h
    · exact h.edit hp rfl rfl rfl rfl rfl

theorem State.SeatsAgree.removeComboBody (n : Nat) : (removeComboBody p n s).1.SeatsAgree := by
  unfold Machine.removeComboBody
  dsimp only
  split
  · exact h
  · exact h.edit hp rfl rfl rfl rfl rfl

theorem State.SeatsAgree.applyCreditBody (n : Nat) : (applyCreditBody p n s).1.SeatsAgree := by
  unfold Machine.applyCreditBody
  dsimp only
  split
  · exact h
  · split
    · exact h
    · split
      · exact h
      · exact h.edit hp (s.changeSlot_seats _ _) (s.changeSlot_relay _ _) (s.changeSlot_baskets _ _) rfl rfl

theorem State.SeatsAgree.removeCreditBody (n : Nat) : (removeCreditBody p n s).1.SeatsAgree := by
  unfold Machine.removeCreditBody
  dsimp only
  split
  · exact h
  · exact h.edit hp (s.changeSlot_seats _ _) (s.changeSlot_relay _ _) (s.changeSlot_baskets _ _) rfl rfl

end

/-! ## PRICE (R80) -/

theorem State.SeatsAgree.price {s : State} (h : s.SeatsAgree) (p : PortNo) (payload : Bytes) :
    (price p payload s).1.SeatsAgree := by
  unfold Machine.price
  split
  · exact h
  · split
    · exact h
    · split
      · exact h
      · rename_i hc
        dsimp only
        split
        · exact h
        · have hcheck : (s.basket p).state ≠ .authorising ∧ (s.basket p).seatLines ≠ [] := by
            unfold State.priceCheck at hc
            split at hc
            · cases hc
            · split at hc
              · cases hc
              · rename_i ha
                split at hc
                · cases hc
                · rename_i hl
                  exact ⟨ha, hl⟩
          refine h.rebasket (t := s.priceBasket p) hcheck.1 rfl rfl rfl (by simp) ⟨by simp, by simp, fun _ => ?_⟩ rfl rfl
          refine ⟨hcheck.2, rfl, _, rfl, ?_⟩
          simp [State.snapshotOf, PriceUnit.amounts, State.pricedSeats, Basket.seats, Function.comp_def]

/-! ## UNDO (R54 to R58) -/

theorem State.Serving.undoHold {s : State} {p : PortNo} (h : s.Serving p) (hd : Handle) (seats : List Nat) :
    (s.undoHold p hd seats).1.Serving p := by
  unfold State.undoHold
  dsimp only
  generalize hback : seats.filter (fun k => (s.basket p).hasSeat k && decide ((s.basket p).handle = hd)) = back
  have hmem : ∀ k ∈ back, k ∈ (s.basket p).seats ∧ (s.basket p).handle = hd := fun k hk => by
    rw [← hback, List.mem_filter, Bool.and_eq_true, Basket.hasSeat_iff, decide_eq_true_eq] at hk
    exact hk.2
  have hindex : s.returnSeats hd.index back = s.returnSeats (s.basket p).handle.index back := by
    cases back with
    | nil => rfl
    | cons k ks => rw [(hmem k (by simp)).2]
  have hw := s.returnSeats_seatStep hd.index back
  refine h.giveBack (fun k hk => (hmem k hk).1) (by rw [State.setBasket_seats, hindex]) ?_ (fun q hq => ?_) ?_ ?_ ?_
  · rw [State.setBasket_relay, hw.frame]
  · rw [State.basket_setBasket, if_neg hq]
    exact State.basket_of_baskets (by rw [hw.frame]) q
  all_goals rw [State.basket_setBasket, if_pos rfl]
  · exact h.serves
  · exact Basket.seats_filter _ fun k => !back.contains k

theorem State.undoReleaseSeat_reversed {s : State} {p : PortNo} {hd : Handle} {k : Nat}
    (h : s.undoReleaseSeat p hd k = .reversed) :
    k < (s.showAt hd.index).seatCount ∧ (s.seatAt hd.index k).state.unowned := by
  unfold State.undoReleaseSeat at h
  split at h
  · cases h
  · rename_i hk
    refine ⟨Nat.not_le.1 hk, ?_⟩
    split at h
    · rename_i hst; rw [hst]; exact ⟨rfl, rfl⟩
    · rename_i hst; rw [hst]; exact ⟨rfl, rfl⟩
    · split at h <;> cases h
    · cases h
    · cases h

/-- R56: what undoing a RELEASE asks of its show stays as its seats are held again. -/
theorem State.Serving.rehold {s : State} {p : PortNo} (h : s.Serving p) {hd : Handle} {l : SeatLine}
    (hcur : s.current hd = true) (hsale : (s.showAt hd.index).state ≠ .loading)
    (hhd : (s.basket p).seats = [] ∨ (s.basket p).handle = hd) (hr : s.undoReleaseSeat p hd l.seat = .reversed) :
    (s.rehold p hd l).Serving p ∧ s.mapKept (s.rehold p hd l) ∧ ((s.rehold p hd l).basket p).handle = hd := by
  obtain ⟨hk, hfree⟩ := State.undoReleaseSeat_reversed hr
  have hw := s.takeSeats_seatStep p hd.index [l.seat]
  have hself : (s.rehold p hd l).basket p = { s.basket p with
      handle := if (s.basket p).seatLines.isEmpty then hd else (s.basket p).handle
      seatLines := (s.basket p).seatLines ++ [l] } := by rw [State.rehold, State.basket_setBasket, if_pos rfl]
  have hhandle : ((s.rehold p hd l).basket p).handle = hd := by
    rw [hself]
    rcases hhd with hnil | hh
    · simp [List.map_eq_nil_iff.1 hnil]
    · simp [hh]
  refine ⟨h.take (ks := [l.seat]) (by simp) hcur hsale (by simpa using hk) (by simpa using hfree) hhd rfl ?_ (fun q hq => ?_) ?_
    hhandle ?_, hw.dir.mapKept.trans (State.mapKept_of_shows rfl), hhandle⟩
  · rw [State.rehold, State.setBasket_relay, hw.frame]
  · rw [State.rehold, State.basket_setBasket, if_neg hq]
    exact State.basket_of_baskets (by rw [hw.frame]) q
  · rw [hself]; exact h.serves
  · rw [hself]; simp [Basket.seats]

theorem State.Serving.undoReleaseSeats {s : State} {p : PortNo} (h : s.Serving p) {hd : Handle}
    (hcur : s.current hd = true) (hsale : (s.showAt hd.index).state ≠ .loading)
    (hhd : (s.basket p).seats = [] ∨ (s.basket p).handle = hd) (ls : List SeatLine) :
    (s.undoReleaseSeats p hd ls).1.Serving p := by
  induction ls generalizing s with
  | nil => exact h
  | cons l ls ih =>
    unfold State.undoReleaseSeats
    dsimp only
    split
    · rename_i hr
      obtain ⟨hs, hm, hh⟩ := h.rehold hcur hsale hhd hr
      exact ih hs (by rw [hm.current]; exact hcur) (fun hl => hsale (hm.loading _ hl)) (.inr hh)
    · exact ih h hcur hsale hhd

theorem State.Serving.undoRelease {s : State} {p : PortNo} (h : s.Serving p) (hd : Handle) (ls : List SeatLine) :
    (s.undoRelease p hd ls).1.Serving p := by
  unfold State.undoRelease
  split
  · exact h
  · rename_i hc
    unfold State.undoReleaseCheck at hc
    dsimp only at hc
    split at hc
    · cases hc
    · split at hc
      · cases hc
      · rename_i hsale
        split at hc
        · cases hc
        · rename_i hcur
          split at hc
          · cases hc
          · rename_i hmix
            refine h.undoReleaseSeats (by simpa using hcur) (by rw [not_not.1 hsale]; simp) ?_ ls
            by_contra hn
            rw [not_or] at hn
            exact hmix ⟨fun e => hn.1 (by rw [Basket.seats, e]; rfl), hn.2⟩

/-- A change of the port's basket in a request being carried out that leaves its State, handle and seats. -/
theorem State.Serving.setBasket {s t : State} {p : PortNo} {b : Basket} (h : s.Serving p) (hs : t.seats = s.seats)
    (hr : t.relay = s.relay) (hb : t.baskets = s.baskets) (hstate : b.state ≠ .authorising)
    (hseats : b.seats = (s.basket p).seats) (hhandle : b.handle = (s.basket p).handle) : (t.setBasket p b).Serving p := by
  refine h.rebasket (by rw [State.setBasket_seats, hs]) (by rw [State.setBasket_seats, hs]) (by rw [State.setBasket_relay, hr])
    (fun q hq => ?_) ?_ ?_ ?_
  · rw [State.basket_setBasket, if_neg hq, State.basket_of_baskets hb]
  all_goals rw [State.basket_setBasket, if_pos rfl]; assumption

theorem State.Serving.reverse {s : State} {p : PortNo} (h : s.Serving p) (e : UndoEntry) : (s.reverse p e).1.Serving p := by
  cases e with
  | hold hd seats => exact h.undoHold hd seats
  | release hd lines => exact h.undoRelease hd lines
  | setType k t =>
    unfold State.reverse State.undoSetType
    dsimp only
    split
    · exact h.setBasket rfl rfl rfl h.serves (retype_seats _ _ _) rfl
    · exact h
  | addCombo n =>
    unfold State.reverse State.undoAddCombo
    dsimp only
    split
    · exact h.setBasket rfl rfl rfl h.serves rfl rfl
    · exact h
  | removeCombo c n =>
    unfold State.reverse State.undoRemoveCombo
    dsimp only
    split
    · exact h
    · split
      · exact h
      · exact h.setBasket rfl rfl rfl h.serves rfl rfl
  | applyCredit n =>
    unfold State.reverse State.undoApplyCredit
    dsimp only
    split
    · exact h.setBasket (s.changeSlot_seats _ _) (s.changeSlot_relay _ _) (s.changeSlot_baskets _ _) h.serves rfl rfl
    · exact h
  | removeCredit n =>
    unfold State.reverse State.undoRemoveCredit
    dsimp only
    split
    · exact h
    · split
      · exact h
      · exact h.setBasket (s.changeSlot_seats _ _) (s.changeSlot_relay _ _) (s.changeSlot_baskets _ _) h.serves rfl rfl

theorem State.SeatsAgree.undoBody {s : State} (h : s.SeatsAgree) {p : PortNo} (hp : (s.basket p).state ≠ .authorising)
    (u : Unit) : (undoBody p u s).1.SeatsAgree := by
  unfold Machine.undoBody
  split
  · exact h
  · rename_i e rest _
    have h1 : (s.setBasket p { s.basket p with undo := rest }).Serving p :=
      (h.serving hp).setBasket rfl rfl rfl hp rfl rfl
    have h2 := h1.reverse e
    refine (h2.setBasket rfl rfl rfl (Basket.reopened_state _) (Basket.reopened_seats _) (Basket.reopened_handle _)).seatsAgree ?_
    rw [State.basket_setBasket, if_pos rfl]
    exact Basket.reopened_consistent _

/-! ## Seats lost other than by a request of the port's own (R20, R21, R35, R60, R62, R194) -/

/-- A void of a basket gives back its seats and its claims (R60). -/
theorem State.SeatsAgree.voidBasket {s : State} (h : s.SeatsAgree) {p : PortNo} (hp : (s.basket p).state ≠ .authorising) :
    (s.voidBasket p).SeatsAgree := by
  have hw := s.returnSeats_seatStep (s.basket p).handle.index (s.basket p).seats
  have hc : (s.voidBasket p) = ((s.returnSeats (s.basket p).handle.index (s.basket p).seats).eachSlot Slot.unclaim
      (s.basket p).claims).setBasket p (s.basket p).cleared := rfl
  have hself : (s.voidBasket p).basket p = (s.basket p).cleared := by rw [hc, State.basket_setBasket, if_pos rfl]
  refine (State.Serving.giveBack (h.serving hp) (t := s.voidBasket p) (fun k hk => hk) ?_ ?_ (fun q hq => ?_) ?_ ?_ ?_).seatsAgree ?_
  · rw [hc, State.setBasket_seats, State.eachSlot_frame]
  · rw [hc, State.setBasket_relay, State.eachSlot_frame, hw.frame]
  · rw [hc, State.basket_setBasket, if_neg hq]
    exact State.basket_of_baskets (by rw [State.eachSlot_frame, hw.frame]) q
  · rw [hself]; exact Basket.cleared_state _
  · rw [hself]; rfl
  · rw [hself]; exact (List.filter_eq_nil_iff.2 fun k hk => by simpa using hk).symm
  · rw [hself]; exact Basket.cleared_consistent _

theorem State.SeatsAgree.voidUnlessAuthorising {s : State} (h : s.SeatsAgree) (p : PortNo) :
    (s.voidUnlessAuthorising p).SeatsAgree := by
  unfold State.voidUnlessAuthorising
  split
  · exact h
  · rename_i hp
    exact h.voidBasket hp

theorem Basket.dropSeat_seats (b : Basket) (k : Nat) : (b.dropSeat k).seats = b.seats.filter (fun n => !([k] : List Nat).contains n) := by
  have h := Basket.seats_filter b.seatLines (fun n => decide (n ≠ k))
  refine h.trans (List.filter_congr fun n _ => ?_)
  simp

/-- R21, R59: a basket that loses a seat keeps its handle and its other lines, and stands to its contents. -/
theorem Basket.loseSeat_spec (b : Basket) (k : Nat) (hs : b.state ≠ .authorising) (hc : b.consistent) :
    (b.loseSeat k).consistent ∧ (b.loseSeat k).state ≠ .authorising ∧ (b.loseSeat k).handle = b.handle
      ∧ (b.loseSeat k).seats = b.seats.filter (fun n => !([k] : List Nat).contains n) := by
  have hseats := b.dropSeat_seats k
  unfold Basket.loseSeat
  dsimp only
  split
  · rename_i hh
    exact ⟨⟨fun _ => ⟨hh, rfl, rfl⟩, by simp, by simp⟩, by simp, rfl, hseats⟩
  · rename_i hh
    have hholds : (b.dropSeat k).holds = true := Bool.eq_true_of_not_eq_false hh
    split
    · exact ⟨⟨by simp, fun _ => ⟨hholds, rfl⟩, by simp⟩, by simp, rfl, hseats⟩
    · rename_i hpr
      have hb : b.state = .building := by
        cases hst : b.state with
        | empty =>
          have hempty : b.holds = false := (hc.1 hst).1
          simp only [Basket.holds, Bool.not_eq_false', Bool.and_eq_true, List.isEmpty_iff] at hempty
          simp [Basket.holds, Basket.dropSeat, hempty] at hholds
        | building => rfl
        | priced => exact absurd hst hpr
        | authorising => exact absurd hst hs
      have hsb : (b.dropSeat k).state = .building := hb
      refine ⟨⟨fun he => absurd (hsb.symm.trans he) (by simp), fun _ => ⟨hholds, (hc.2.1 hb).2⟩, fun he => ?_⟩, hs, rfl, hseats⟩
      rw [hsb] at he
      simp at he

/-- R20, R35: a HELD seat lost leaves its basket in the same step. -/
theorem State.SeatsAgree.loseHeld {s : State} (h : s.SeatsAgree) {i : ShowNo} {k : Nat} (hk : s.inMap i k) :
    (s.loseHeld i k).SeatsAgree ∧ s.mapKept (s.loseHeld i k) := by
  unfold State.loseHeld
  split
  · rename_i p lease ho hst
    obtain ⟨ha, hhd, hmem⟩ := h.linked.held i k p hk (by rw [hst]; simp [SeatState.heldBy])
    have hi : (s.basket p).handle.index = i := by rw [hhd]; rfl
    obtain ⟨hc, hs, hhandle, hseats⟩ := (s.basket p).loseSeat_spec k ha (h.consistent p)
    have hw := s.returnSeats_seatStep i [k]
    have hgive : s.giveUpSeat i k = s.returnSeats i [k] := rfl
    have hbas : ∀ q, (s.giveUpSeat i k).basket q = s.basket q := State.basket_of_baskets rfl
    dsimp only
    rw [hbas]
    refine ⟨(State.Serving.giveBack (h.serving ha) (t := (s.giveUpSeat i k).setBasket p ((s.basket p).loseSeat k)) (ks := [k])
      (by simpa using hmem) (by rw [State.setBasket_seats, hgive, hi]) rfl (fun q hq => ?_) ?_ ?_ ?_).seatsAgree ?_,
      hw.dir.mapKept.trans (State.mapKept_of_shows rfl)⟩
    · rw [State.basket_setBasket, if_neg hq, hbas]
    all_goals rw [State.basket_setBasket, if_pos rfl]; assumption
  · exact ⟨h, .refl s⟩

/-- A pass over every seat of every show meets only seats of the map, where it keeps the map. -/
theorem State.forSeats_inMap {P : State → Prop} {f : State → ShowNo → Nat → State} {s : State} (h : P s)
    (hf : ∀ t i k, P t → s.mapKept t → t.inMap i k → P (f t i k) ∧ t.mapKept (f t i k)) : P (s.forSeats f) := by
  have hinner : ∀ (t : State) (i : ShowNo), P t ∧ s.mapKept t → (t.showAt i).state ≠ .empty → ∀ ks : List Nat,
      (∀ k ∈ ks, t.inMap i k) → P (ks.foldl (fun s k => f s i k) t) ∧ s.mapKept (ks.foldl (fun s k => f s i k) t) := by
    intro t i ht hne ks
    induction ks generalizing t with
    | nil => exact fun _ => ht
    | cons k ks ih =>
      intro hks
      obtain ⟨hp, hm⟩ := hf t i k ht.1 ht.2 (hks k (by simp))
      exact ih (f t i k) ⟨hp, ht.2.trans hm⟩ (by rw [ne_eq, hm.empty]; exact hne)
        fun n hn => (hm.inMap i n).2 (hks n (by simp [hn]))
  refine (foldl_keeps (P := fun t => P t ∧ s.mapKept t) (fun t i ht => ?_) allShows ⟨h, .refl s⟩).1
  split
  · exact ht
  · rename_i hne
    exact hinner t i ht hne _ fun k hk => ⟨hne, List.mem_range.1 hk⟩

theorem State.SeatsAgree.expireLeases {s : State} (h : s.SeatsAgree) : s.expireLeases.SeatsAgree := by
  refine State.forSeats_inMap (P := State.SeatsAgree) h fun t i k ht _ hk => ?_
  split
  · exact ht.loseHeld hk
  · exact ⟨ht, .refl t⟩

theorem mem_blockSeats {n block k : Nat} (h : k ∈ blockSeats n block) : k < n := by
  unfold blockSeats at h
  obtain ⟨j, -, hj⟩ := List.mem_filterMap.1 h
  split at hj
  · cases hj; assumption
  · cases hj

theorem State.SeatsAgree.loseSeats {s : State} (h : s.SeatsAgree) {i : ShowNo} {ks : List Nat} (hks : ∀ k ∈ ks, s.inMap i k) :
    (ks.foldl (fun s k => s.loseHeld i k) s).SeatsAgree := by
  induction ks generalizing s with
  | nil => exact h
  | cons k ks ih =>
    obtain ⟨hk, hm⟩ := h.loseHeld (hks k (by simp))
    exact ih hk fun n hn => (hm.inMap i n).2 (hks n (by simp [hn]))

theorem State.SeatsAgree.releaseBlock {s : State} (h : s.SeatsAgree) (args : Bytes) : (releaseBlock args s).1.SeatsAgree := by
  unfold Machine.releaseBlock
  split
  · exact h
  · refine withShow_fst_of_body h fun hc => ?_
    dsimp only
    split
    · exact h
    · exact h.loseSeats fun k hk =>
        ⟨notEmpty_of_legal hc (by simp [notEmptyStates]), mem_blockSeats (List.mem_filter.1 hk).1⟩

/-- Where no seat of the map is picked, a pass that gives up the picked seats changes nothing. -/
theorem State.forSeats_none {s : State} {c : SeatState → Bool} (h : ∀ i k, s.inMap i k → c (s.seatAt i k).state = false) :
    (s.forSeats fun s i k => if c (s.seatAt i k).state then s.giveUpSeat i k else s) = s := by
  refine State.forSeats_inMap (P := fun t => t = s) rfl fun t i k ht _ hk => ?_
  subst ht
  rw [if_neg (by rw [h i k hk]; exact Bool.false_ne_true)]
  exact ⟨rfl, .refl t⟩

/-- R41: after the void of a port's basket no seat is left HELD by the port. -/
theorem State.SeatsAgree.freeHeldBy {s : State} (h : s.SeatsAgree) {p : PortNo}
    (hp : (s.basket p).state = .authorising ∨ (s.basket p).seats = []) : s.freeHeldBy p = s := by
  refine State.forSeats_none (c := SeatState.heldBy p) fun i k hk => ?_
  by_contra hx
  obtain ⟨ha, -, hmem⟩ := h.linked.held i k p hk (Bool.eq_true_of_not_eq_false hx)
  rcases hp with hp | hp
  · exact ha hp
  · rw [hp] at hmem; cases hmem

theorem State.basket_voidBasket (s : State) (p q : PortNo) :
    (s.voidBasket p).basket q = if q = p then (s.basket p).cleared else s.basket q := by
  unfold State.voidBasket
  dsimp only
  rw [State.basket_setBasket]
  split
  · rfl
  · exact State.basket_of_baskets (by
      rw [State.returnClaims_eq, State.eachSlot_frame, (s.returnSeats_seatStep _ _).frame]) q

theorem State.SeatsAgree.leaveActive {s : State} (h : s.SeatsAgree) (p : PortNo) (st : PortState) :
    (s.leaveActive p st).SeatsAgree := by
  have h1 := (h.kept (s.setPort_keeps p ((s.port p).lose st)).toSeatingKept).voidUnlessAuthorising p
  unfold State.leaveActive
  dsimp only
  rw [h1.freeHeldBy]
  · exact h1.kept ((State.stopJob_keeps _ p).trans (State.runArbiter_keeps _)).toSeatingKept
  · unfold State.voidUnlessAuthorising
    split
    · left; assumption
    · right; rw [State.basket_voidBasket, if_pos rfl]; rfl

theorem State.SeatsAgree.disablePort {s : State} (h : s.SeatsAgree) (args : Bytes) : (disablePort args s).1.SeatsAgree := by
  unfold Machine.disablePort State.disable
  split
  · exact h
  · dsimp only
    split
    · exact h.voidUnlessAuthorising _
    · exact h.leaveActive _ _
    · exact h.kept (s.setPort_keeps _ _).toSeatingKept

/-- R63: the voids of Night, on ports of which none is AUTHORISING. -/
theorem State.SeatsAgree.voidAll {s : State} (h : s.SeatsAgree) (ha : ∀ p, (s.basket p).state ≠ .authorising) (ps : List PortNo) :
    (ps.foldl (fun s p => s.voidBasket p) s).SeatsAgree
      ∧ ∀ p, ((ps.foldl (fun s p => s.voidBasket p) s).basket p).seats = if p ∈ ps then [] else (s.basket p).seats := by
  induction ps generalizing s with
  | nil => exact ⟨h, fun p => by simp⟩
  | cons p ps ih =>
    have ha' : ∀ q, ((s.voidBasket p).basket q).state ≠ .authorising := fun q => by
      rw [State.basket_voidBasket]
      split
      · exact Basket.cleared_state _
      · exact ha q
    obtain ⟨h1, h2⟩ := ih (h.voidBasket (ha p)) ha'
    refine ⟨h1, fun q => ?_⟩
    rw [List.foldl_cons, h2, State.basket_voidBasket]
    by_cases hq : q = p
    · subst hq; simp
    · simp [hq]

theorem State.SeatsAgree.nightfall {s : State} (h : s.SeatsAgree) (hb : s.nightBusy = false) : s.nightfall.SeatsAgree := by
  have ha : ∀ p, (s.basket p).state ≠ .authorising := fun p hp => by
    obtain ⟨e, he, hact, -⟩ := h.authorises hp
    unfold State.nightBusy at hb
    rw [Bool.or_eq_false_iff] at hb
    have := List.any_eq_false.1 hb.1 e he
    simp [AuthEntry.isActive, hact] at this
  obtain ⟨h1, h2⟩ := h.voidAll ha allPorts
  unfold State.nightfall
  generalize allPorts.foldl (fun s p => s.voidBasket p) s = t at h1 h2
  have hfree : t.freeAllHeld = t := State.forSeats_none (c := SeatState.isHeld) fun i k hk => by
    cases hst : (t.seatAt i k).state with
    | held p lease ho =>
      have hmem := (h1.linked.held i k p hk (by rw [hst]; simp [SeatState.heldBy])).2.2
      rw [h2, if_pos (show p ∈ allPorts from List.mem_finRange p)] at hmem
      cases hmem
    | free | house | pending | sold => rfl
  dsimp only
  rw [hfree]
  exact h1.kept (t.holdingsKept_of_blocks _ _ _ _ _ _).toSeatingKept

theorem State.SeatsAgree.night {s : State} (h : s.SeatsAgree) (args : Bytes) : (night args s).1.SeatsAgree := by
  unfold Machine.night noArgs
  split
  · dsimp only
    split
    · exact h
    · split
      · exact h
      · rename_i hb
        exact (h.nightfall (Bool.eq_false_iff.2 hb)).kept (State.setControl_keeps _ _).toSeatingKept
  · exact h

end Sys2Proof.Machine
end

section
/-! The agreement of seats, baskets and entries under sales and the end of authorisations (chapter 5). -/

namespace Sys2Proof.Machine

/-- The state a seat of the list takes, where taking it twice is taking it once. -/
theorem State.state_eachSeat (s : State) (i : ShowNo) {g : SeatState → SeatState} (hg : ∀ x, g (g x) = g x) {ks : List Nat}
    {k : Nat} (hk : k ∈ ks) : ((s.eachSeat i g ks).seatAt i k).state = g (s.seatAt i k).state := by
  rw [s.seatAt_eachSeat i hg, if_pos hk]

/-! ## Sales (R100) -/

theorem State.SeatStep.seatingKept {s t : State} {i : ShowNo} {ks : List Nat} (h : s.SeatStep t i ks) :
    t.baskets = s.baskets ∧ t.relay = s.relay := by
  rw [h.frame]; exact ⟨rfl, rfl⟩

theorem State.sellSeats_seatStep (s : State) (i : ShowNo) (n : Nat) (ls : List PricedLine) :
    s.SeatStep (s.sellSeats i n ls) i (ls.map (·.seat)) :=
  foldl_seatStep (key := PricedLine.seat) (fun s l => s.setSeatState_seatStep i l.seat (.sold n l.ticketType)) ls s

theorem State.sellSeats_unowned (s : State) (i : ShowNo) (n : Nat) (ls : List PricedLine) :
    ∀ k ∈ ls.map (·.seat), ((s.sellSeats i n ls).seatAt i k).state.unowned :=
  foldl_written (Q := SeatState.unowned) (key := PricedLine.seat)
    (fun s l => s.setSeatState_seatStep i l.seat (.sold n l.ticketType))
    (fun s l => by rw [State.seatAt_setSeatState, if_pos rfl]; exact ⟨rfl, rfl⟩) ls s

theorem State.issueSnacks_keeps (s : State) (sale expiry : Nat) (cs : List (Fin 32)) :
    s.SeatingKept (s.issueSnacks sale expiry cs).1 := by
  induction cs generalizing s with
  | nil => exact .refl s
  | cons c cs ih =>
    have hissue : s.SeatingKept (s.issue (.snack c) sale expiry).1 := ⟨rfl, rfl, rfl, rfl⟩
    exact hissue.trans (ih _)

theorem State.changeSlot_keeps (s : State) (n : Nat) (f : Slot → Slot) : s.SeatingKept (s.changeSlot n f) := by
  rw [s.changeSlot_frame]; exact ⟨rfl, rfl, rfl, rfl⟩

theorem State.changeSlots_keeps (s : State) (f : State → Slot → Slot) (ns : List Nat) :
    s.SeatingKept (ns.foldl (fun s n => s.changeSlot n (f s)) s) := by
  induction ns generalizing s with
  | nil => exact .refl s
  | cons n ns ih => exact (s.changeSlot_keeps n (f s)).trans (ih _)

/-- R100: of the seats, baskets and entries, the completion of a sale changes the seats of its lines alone. -/
theorem State.completeSale_sells (s : State) (x : Sale) (code : Bytes) :
    ∃ t n, s.SeatingKept t ∧ (t.sellSeats x.handle.index n x.seatLines).SeatingKept (s.completeSale x code).1 := by
  refine ⟨{ s with relay := { s.relay with saleCounter := nextSale s.relay.saleNumber } }, s.relay.saleNumber,
    ⟨rfl, rfl, rfl, rfl⟩, ?_⟩
  unfold State.completeSale
  dsimp only
  generalize State.sellSeats _ _ _ _ = u
  refine (u.issueSnacks_keeps s.relay.saleNumber (u.showAt x.handle.index).expiryDay x.combos).trans ?_
  generalize u.issueSnacks _ _ _ = r
  refine State.SeatingKept.trans ?_ (State.raise_keeps _ _ _).toSeatingKept
  refine State.SeatingKept.trans ?_
    (State.changeSlots_keeps _ (fun s => Slot.redeem x.origin s.control.day s.control.seconds) x.claims)
  exact ⟨rfl, rfl, rfl, rfl⟩

/-- The seats of a sale's lines are no port's and no entry's when it is complete. -/
theorem State.completeSale_reseats {s : State} (h : s.Tallied) {x : Sale} (code : Bytes)
    (hin : ∀ k ∈ x.seatLines.map (·.seat), s.inMap x.handle.index k) :
    s.Reseats (s.completeSale x code).1 x.handle.index (x.seatLines.map (·.seat))
      ∧ (∀ k ∈ x.seatLines.map (·.seat), ((s.completeSale x code).1.seatAt x.handle.index k).state.unowned)
      ∧ (s.completeSale x code).1.baskets = s.baskets ∧ (s.completeSale x code).1.relay.entries = s.relay.entries := by
  obtain ⟨t, n, ht, hk⟩ := s.completeSale_sells x code
  have hw := t.sellSeats_seatStep x.handle.index n x.seatLines
  have hm : s.mapKept t := State.mapKept_of_shows ht.shows
  refine ⟨State.Reseats.congr_left ((hw.reseats (h.of_seats ht.shows ht.pool) fun k hk => (hm.inMap _ k).2 (hin k hk)).congr_right
    hk.shows hk.pool) ht.shows ht.pool, fun k hmem => ?_, hk.baskets.trans (hw.seatingKept.1.trans ht.baskets), ?_⟩
  · rw [State.seatAt_of_pool hk.shows hk.pool]
    exact t.sellSeats_unowned _ n x.seatLines k hmem
  · rw [hk.entries, hw.seatingKept.2, ht.entries]

/-! ## PAY (R88 to R94, R106) -/

/-- R106: the lines of a basket whose sale is complete are gone with it. -/
theorem State.SeatsAgree.zeroTotal {s : State} (h : s.SeatsAgree) {p : PortNo} {x : Snapshot}
    (hp : (s.basket p).state ≠ .authorising) (hx : x.seats.map (·.seat) = (s.basket p).seats) (tag : Byte) :
    (s.zeroTotal p tag x).SeatsAgree := by
  have hs := h.serving hp
  have hlines : ((s.basket p).zeroSale p x).seatLines.map (·.seat) = (s.basket p).seats := hx
  obtain ⟨hr, hu, hb, he⟩ := State.completeSale_reseats h.tallied (x := (s.basket p).zeroSale p x) []
    (fun k hk => hs.lines_inMap (hlines ▸ hk))
  have hbas : ∀ q, ((s.completeSale ((s.basket p).zeroSale p x) []).1).basket q = s.basket q := State.basket_of_baskets hb
  have key : State.SeatsAgree ((s.completeSale ((s.basket p).zeroSale p x) []).1.setBasket p
      ((s.completeSale ((s.basket p).zeroSale p x) []).1.basket p).cleared) := by
    rw [hlines] at hr hu
    refine (hs.letGo (t := (s.completeSale ((s.basket p).zeroSale p x) []).1.setBasket p
      ((s.completeSale ((s.basket p).zeroSale p x) []).1.basket p).cleared) (hr.congr_right rfl rfl) (fun _ hk => hk) hu he
      (fun q hq => by rw [State.basket_setBasket, if_neg hq, hbas]) ?_ ?_ ?_).seatsAgree ?_
    all_goals rw [State.basket_setBasket, if_pos rfl, hbas]
    · exact Basket.cleared_state _
    · rfl
    · exact (List.filter_eq_nil_iff.2 fun k hk => by simpa using hk).symm
    · exact Basket.cleared_consistent _
  exact key.kept ((((State.printSale_keeps _ _ _ _).trans (State.answer_keeps _ _ _ _ _ _)).trans
    (State.runArbiter_keeps _)).trans (State.checkLow_keeps _)).toSeatingKept

theorem SeatState.pend_pend (tag : Nat) (x : SeatState) : (x.pend tag).pend tag = x.pend tag := by cases x <;> rfl

theorem SeatState.pend_of_heldBy {p : PortNo} {x : SeatState} (h : x.heldBy p = true) (tag : Nat) :
    (x.pend tag).pendingUnder tag = true := by
  obtain ⟨l, ho, rfl⟩ := SeatState.heldBy_iff.1 h
  simp [SeatState.pend, SeatState.pendingUnder]

theorem SeatState.ne_unowned_of_heldBy {p : PortNo} {x : SeatState} (h : x.heldBy p = true) : ¬ x.unowned := by
  intro hu
  exact SeatState.not_heldBy_of_unowned hu p h

/-- R93: the seats of a basket's lines become its new entry's. -/
theorem State.SeatsAgree.accept {s t : State} (h : s.SeatsAgree) {p : PortNo} {b : Basket} {e : AuthEntry}
    (hp : (s.basket p).state ≠ .authorising) (hhandle : e.handle = (s.basket p).handle) (hseats : e.seats = (s.basket p).seats)
    (ho : e.origin = p) (ha : e.state ≠ .lost) (hent : t.relay.entries = s.relay.entries ++ [e])
    (hr : s.Reseats t e.handle.index e.seats)
    (hnew : ∀ k ∈ e.seats, (t.seatAt e.handle.index k).state.pendingUnder e.tag = true)
    (hself : t.basket p = b) (hother : ∀ q, q ≠ p → t.basket q = s.basket q) (hb : b.state = .authorising)
    (hbh : b.handle = (s.basket p).handle) (hbs : b.seats = (s.basket p).seats) (hc : b.consistent) : t.SeatsAgree := by
  have hlines := h.linked.lines p hp
  rw [← hhandle, ← hseats] at hlines
  have hmem : ∀ x, x ∈ t.relay.entries ↔ x ∈ s.relay.entries ∨ x = e := fun x => by rw [hent]; simp
  have horigin : ∀ x ∈ s.relay.entries, x.state ≠ .lost → x.origin ≠ p := fun x hx hxa he =>
    hp (he ▸ (h.paired.authorising x hx hxa).1)
  rw [State.seatsAgree_iff]
  refine ⟨hr.tallied, ?_, ⟨fun x hx hxa => ?_, ?_⟩, fun q => ?_⟩
  · refine h.linked.of_touch {p} {e.tag} hr.map (fun i k hk => ?_) hother (fun x hx => ?_) (fun i k q hq hk hx => ?_)
      (fun q hq hqa => ?_) (fun i k tag ht hk hx => ?_) (fun x hx ht => ?_)
    · by_cases hik : i = e.handle.index ∧ k ∈ e.seats
      · obtain ⟨rfl, hke⟩ := hik
        have hheld := (hlines.2 k hke).2.2
        refine .inr ⟨SeatState.ownedWithin_of_heldBy hheld (Set.mem_singleton p) _,
          SeatState.ownedWithin_of_pendingUnder (hnew k hke) _ (Set.mem_singleton _), fun hl => ?_⟩
        have hnot := (h.linked.loading _ k hk hl)
        exact absurd hnot (SeatState.ne_unowned_of_heldBy hheld)
      · exact .inl (hr.others i k hk hik)
    · rw [hmem]
      constructor
      · rintro (hx' | rfl)
        · exact hx'
        · exact absurd (Set.mem_singleton _) hx
      · exact .inl
    · obtain rfl : q = p := hq
      by_cases hik : i = e.handle.index ∧ k ∈ e.seats
      · obtain ⟨rfl, hke⟩ := hik
        obtain ⟨ho', hpe⟩ := SeatState.pendingUnder_iff.1 (hnew k hke)
        rw [hpe] at hx
        cases hx
      · rw [hr.others i k hk hik] at hx
        obtain ⟨-, hh, hks⟩ := h.linked.held i k q hk hx
        exact absurd ⟨by rw [hhandle, hh]; rfl, by rw [hseats]; exact hks⟩ hik
    · obtain rfl : q = p := hq
      rw [hself, hb] at hqa
      exact absurd rfl hqa
    · obtain rfl : tag = e.tag := ht
      by_cases hik : i = e.handle.index ∧ k ∈ e.seats
      · obtain ⟨rfl, hke⟩ := hik
        exact ⟨e, (hmem e).2 (.inr rfl), rfl, ((s.current_iff _).1 (hlines.2 k hke).1).2, hke⟩
      · rw [hr.others i k hk hik] at hx
        obtain ⟨x, hx', hrest⟩ := h.linked.pending i k _ hk hx
        exact ⟨x, (hmem x).2 (.inl hx'), hrest⟩
    · rcases (hmem x).1 hx with hx | rfl
      · refine (h.linked.entries x hx).of_mapKept hr.map fun k _ hk hpend => ?_
        by_cases hik : x.handle.index = e.handle.index ∧ k ∈ e.seats
        · have hheld := (hlines.2 k hik.2).2.2
          rw [← hik.1] at hheld
          obtain ⟨l, ho', hst⟩ := SeatState.heldBy_iff.1 hheld
          rw [hst] at hpend
          cases hpend
        · rwa [hr.others _ k hk hik]
      · refine ⟨hlines.1, fun k hk => ?_⟩
        rw [hr.map.current, hr.map.seatCount]
        exact ⟨(hlines.2 k hk).1, (hlines.2 k hk).2.1, hnew k hk⟩
  · rcases (hmem x).1 hx with hx | rfl
    · rw [hother _ (horigin x hx hxa)]
      exact h.paired.authorising x hx hxa
    · rw [ho, hself]
      exact ⟨hb, hbh.trans hhandle.symm, hbs.trans hseats.symm⟩
  · rw [hent, List.filter_append, List.map_append]
    refine List.nodup_append'.2 ⟨h.paired.origins, ?_, ?_⟩
    · rw [List.filter_singleton]; cases e.isActive <;> simp
    · intro q hq hqe
      obtain ⟨x, hx, rfl⟩ := List.mem_map.1 hq
      obtain ⟨hxm, hxa⟩ := List.mem_filter.1 hx
      obtain ⟨y, hy, hyo⟩ := List.mem_map.1 hqe
      obtain rfl : y = e := by simpa using (List.mem_filter.1 hy).1
      exact horigin x hxm (by simpa [AuthEntry.isActive] using hxa) (hyo.symm.trans ho)
  · by_cases hq : q = p
    · subst hq
      rw [hself]
      exact ⟨hc, fun _ => ⟨e, (hmem e).2 (.inr rfl), ha, ho⟩⟩
    · rw [hother q hq]
      refine ⟨h.consistent q, fun hqa => ?_⟩
      obtain ⟨x, hx, hrest⟩ := h.authorises hqa
      exact ⟨x, (hmem x).2 (.inl hx), hrest⟩

theorem State.pendLines_eq (s : State) (i : ShowNo) (tag : Nat) (ls : List PricedLine) :
    ls.foldl (fun s l => s.setSeatState i l.seat ((s.seatAt i l.seat).state.pend tag)) s
      = s.eachSeat i (SeatState.pend tag) (ls.map (·.seat)) := by
  rw [State.eachSeat, List.foldl_map]

theorem State.SeatsAgree.acceptPay {s : State} (h : s.SeatsAgree) {p : PortNo} {x : Snapshot}
    (hp : (s.basket p).state = .priced) (hx : (s.basket p).snapshot = some x) (hxs : x.seats.map (·.seat) = (s.basket p).seats)
    (tag : Byte) (token : Bytes) : (s.acceptPay p tag token x).SeatsAgree := by
  have hna : (s.basket p).state ≠ .authorising := by rw [hp]; simp
  unfold State.acceptPay
  dsimp only
  generalize he : s.newEntry p x = e
  have heh : e.handle = (s.basket p).handle := by rw [← he]; rfl
  have hes : e.seats = (s.basket p).seats := by rw [← he]; exact hxs
  rw [State.pendLines_eq]
  generalize hu : State.eachSeat _ _ _ _ = u
  have hw : State.SeatStep { s with relay := s.relay.accept e } u e.handle.index e.seats := by
    rw [← hu, heh]; exact State.eachSeat_seatStep _ _ _ _
  have hin : ∀ k ∈ e.seats, s.inMap e.handle.index k := fun k hk => by
    rw [heh]; exact (h.serving hna).lines_inMap (hes ▸ hk)
  have hr : s.Reseats u e.handle.index e.seats :=
    (hw.reseats (h.tallied.of_seats rfl rfl) hin).congr_left rfl rfl
  generalize hv : List.foldl _ _ e.claims = v
  have hvk : u.SeatingKept v := by
    rw [← hv]
    refine State.SeatingKept.trans ?_ (State.changeSlots_keeps _ (fun _ => Slot.claim (.tag e.tag)) e.claims)
    exact ⟨rfl, rfl, rfl, rfl⟩
  refine State.SeatsAgree.kept ((State.setPort_keeps _ _ _).trans ((State.holdingsKept_of_blocks _ _ _ _ _ _ _).trans
    (State.checkLow_keeps _))).toSeatingKept
    (State.SeatsAgree.accept (b := { s.basket p with state := .authorising, undo := [], lapsed := false })
      (t := v.setBasket p { s.basket p with state := .authorising, undo := [], lapsed := false }) h hna heh hes
      (by rw [← he]; rfl) (by rw [← he]; simp [State.newEntry]) ?_ (hr.congr_right hvk.shows hvk.pool) (fun k hk => ?_)
      (by rw [State.basket_setBasket, if_pos rfl]) (fun q hq => ?_) rfl rfl rfl ?_)
  · rw [State.setBasket_relay, hvk.entries, hw.seatingKept.2]; rfl
  · show (v.seatAt e.handle.index k).state.pendingUnder e.tag = true
    rw [State.seatAt_of_pool hvk.shows hvk.pool, ← hu, heh, State.state_eachSeat _ _ (SeatState.pend_pend e.tag) (ks := e.seatLines.map (·.seat)) hk]
    refine SeatState.pend_of_heldBy (p := p) ?_ e.tag
    exact ((h.linked.lines p hna).2 k (hes ▸ hk)).2.2
  · rw [State.basket_setBasket, if_neg hq, State.basket_of_baskets hvk.baskets, State.basket_of_baskets hw.seatingKept.1]
    rfl
  · obtain ⟨hl, -, -⟩ := (h.consistent p).2.2 (.inl hp)
    exact ⟨by simp, by simp, fun _ => ⟨hl, rfl, x, hx, hxs⟩⟩

theorem State.SeatsAgree.payRefused {s : State} (h : s.SeatsAgree) {p : PortNo} (hp : (s.basket p).state = .priced)
    (r : Result) : (s.payRefused p r).SeatsAgree := by
  unfold State.payRefused
  split
  · obtain ⟨hl, -, -⟩ := (h.consistent p).2.2 (.inl hp)
    refine h.rebasket (by rw [hp]; simp) rfl rfl rfl (by simp) ⟨by simp, fun _ => ⟨?_, rfl⟩, by simp⟩ rfl rfl
    simp [Basket.holds, hl]
  · exact h

theorem State.SeatsAgree.pay {s : State} (h : s.SeatsAgree) (p : PortNo) (tag : Byte) (token : Bytes) :
    (s.pay p tag token).SeatsAgree := by
  unfold State.pay
  split
  · exact h.kept (State.answer_keeps _ _ _ _ _ _).toSeatingKept
  · split
    · rename_i x hp hx
      split
      · exact (h.payRefused hp _).kept (State.answer_keeps _ _ _ _ _ _).toSeatingKept
      · obtain ⟨-, -, x', hx', hxs⟩ := (h.consistent p).2.2 (.inl hp)
        obtain rfl : x = x' := Option.some.inj (hx.symm.trans hx')
        split
        · exact h.zeroTotal (by rw [hp]; simp) hxs tag
        · exact h.acceptPay hp hx hxs tag token
    · exact h.kept (State.answer_keeps _ _ _ _ _ _).toSeatingKept

/-! ## An entry leaves the list -/

theorem mem_eraseP_tag {es : List AuthEntry} (h : (es.map (·.tag)).Nodup) {tag : Nat} {x : AuthEntry} :
    x ∈ es.eraseP (fun e => decide (e.tag = tag)) ↔ x ∈ es ∧ x.tag ≠ tag := by
  induction es with
  | nil => simp
  | cons e es ih =>
    rw [List.map_cons, List.nodup_cons] at h
    by_cases he : e.tag = tag
    · rw [List.eraseP_cons_of_pos (by simpa using he), List.mem_cons]
      constructor
      · exact fun hx => ⟨.inr hx, fun ht => h.1 (List.mem_map.2 ⟨x, hx, ht.trans he.symm⟩)⟩
      · rintro ⟨rfl | hx, ht⟩
        · exact absurd he ht
        · exact hx
    · rw [List.eraseP_cons_of_neg (by simpa using he), List.mem_cons, List.mem_cons, ih h.2]
      constructor
      · rintro (rfl | ⟨hx, ht⟩)
        · exact ⟨.inl rfl, he⟩
        · exact ⟨.inr hx, ht⟩
      · rintro ⟨rfl | hx, ht⟩
        · exact .inl rfl
        · exact .inr ⟨hx, ht⟩

theorem AuthEntry.isActive_iff (e : AuthEntry) : e.isActive = true ↔ e.state ≠ .lost := by simp [AuthEntry.isActive]

/-- Two ACTIVE entries with one origin are one entry (R43). -/
theorem State.Paired.origin_inj {s : State} (h : s.Paired) {x e : AuthEntry} (hx : x ∈ s.relay.entries)
    (he : e ∈ s.relay.entries) (hxa : x.state ≠ .lost) (hea : e.state ≠ .lost) (ho : x.origin = e.origin) : x = e :=
  List.inj_on_of_nodup_map h.origins (List.mem_filter.2 ⟨hx, x.isActive_iff.2 hxa⟩)
    (List.mem_filter.2 ⟨he, e.isActive_iff.2 hea⟩) ho

/-- The tags of the list are each one entry's, and this entry is in it. -/
structure State.Tags (s : State) (e : AuthEntry) : Prop where
  nodup : (s.relay.entries.map (·.tag)).Nodup
  mem : e ∈ s.relay.entries

theorem State.Tags.eq {s : State} {e x : AuthEntry} (h : s.Tags e) (hx : x ∈ s.relay.entries) (ht : x.tag = e.tag) : x = e :=
  List.inj_on_of_nodup_map h.nodup hx h.mem ht

theorem State.SeatsAgree.entry_inMap {s : State} (h : s.SeatsAgree) {e : AuthEntry} (he : e ∈ s.relay.entries) {k : Nat}
    (hk : k ∈ e.seats) : s.inMap e.handle.index k :=
  State.inMap_of_current ((h.linked.entries e he).2 k hk).1 ((h.linked.entries e he).2 k hk).2.1

/-- The seats of an entry leave it as it leaves the list; what the baskets named owe for them is the ports `P`'s. -/
theorem State.SeatsAgree.dropLinks {s t : State} (h : s.SeatsAgree) {e : AuthEntry} (he : s.Tags e) (P : Set PortNo)
    (hr : s.Reseats t e.handle.index e.seats)
    (hent : t.relay.entries = s.relay.entries.eraseP (fun x => decide (x.tag = e.tag)))
    (hb : ∀ q, q ∉ P → t.basket q = s.basket q)
    (hnew : ∀ k ∈ e.seats, (t.seatAt e.handle.index k).state.ownedWithin P ∅)
    (held : ∀ i k p, p ∈ P → s.inMap i k → (t.seatAt i k).state.heldBy p = true →
      (t.basket p).state ≠ .authorising ∧ (t.basket p).handle = s.handleOf i ∧ k ∈ (t.basket p).seats)
    (lines : ∀ p, p ∈ P → (t.basket p).state ≠ .authorising →
      t.seatsAre (t.basket p).handle (t.basket p).seats (SeatState.heldBy p)) : t.Linked := by
  have hentry := h.linked.entries e he.mem
  refine h.linked.of_touch P {e.tag} hr.map (fun i k hk => ?_) hb (fun x hx => ?_) held lines (fun i k tag ht hk hx => ?_)
    (fun x hx ht => ?_)
  · by_cases hik : i = e.handle.index ∧ k ∈ e.seats
    · obtain ⟨rfl, hke⟩ := hik
      have hpend := (hentry.2 k hke).2.2
      refine .inr ⟨SeatState.ownedWithin_of_pendingUnder hpend _ (Set.mem_singleton _), ?_, fun hl => ?_⟩
      · have := hnew k hke
        cases hst : (t.seatAt e.handle.index k).state <;> rw [hst] at this
        case pending => exact absurd this (Set.notMem_empty _)
        all_goals exact this
      · obtain ⟨ho, hst⟩ := SeatState.pendingUnder_iff.1 hpend
        have := (h.linked.loading _ k hk hl).2
        rw [hst] at this
        cases this
    · exact .inl (hr.others i k hk hik)
  · rw [hent, mem_eraseP_tag he.nodup]
    exact ⟨fun hx' => hx'.1, fun hx' => ⟨hx', hx⟩⟩
  · obtain rfl : tag = e.tag := ht
    by_cases hik : i = e.handle.index ∧ k ∈ e.seats
    · obtain ⟨rfl, hke⟩ := hik
      exact absurd hx (SeatState.not_pendingUnder_of_ownedWithin (hnew k hke) (Set.notMem_empty _))
    · rw [hr.others i k hk hik] at hx
      obtain ⟨x, hxm, hxt, hxh, hxk⟩ := h.linked.pending i k _ hk hx
      obtain rfl := he.eq hxm hxt
      exact absurd ⟨by rw [hxh]; rfl, hxk⟩ hik
  · rw [hent, mem_eraseP_tag he.nodup] at hx
    exact absurd ht hx.2

/-- R103, R104: a LOST entry leaves the list, its seats for no owner. -/
theorem State.SeatsAgree.settleLost {s t : State} (h : s.SeatsAgree) {e : AuthEntry} (he : s.Tags e) (hl : e.state = .lost)
    (hr : s.Reseats t e.handle.index e.seats) (hb : t.baskets = s.baskets)
    (hent : t.relay.entries = s.relay.entries.eraseP (fun x => decide (x.tag = e.tag)))
    (hnew : ∀ k ∈ e.seats, (t.seatAt e.handle.index k).state.unowned) : t.SeatsAgree := by
  have hbas : ∀ q, t.basket q = s.basket q := State.basket_of_baskets hb
  have hmem : ∀ x, x ∈ t.relay.entries ↔ x ∈ s.relay.entries ∧ x.tag ≠ e.tag := fun x => by
    rw [hent, mem_eraseP_tag he.nodup]
  rw [State.seatsAgree_iff]
  refine ⟨hr.tallied, ?_, ⟨fun x hx hxa => ?_, ?_⟩, fun q => ?_⟩
  · exact h.dropLinks he ∅ hr hent (fun q _ => hbas q) (fun k hk => (hnew k hk).ownedWithin _ _)
      (fun _ _ _ hp => absurd hp (Set.notMem_empty _)) (fun _ hp => absurd hp (Set.notMem_empty _))
  · rw [hbas]; exact h.paired.authorising x ((hmem x).1 hx).1 hxa
  · rw [hent]
    exact h.paired.origins.sublist ((List.eraseP_sublist.filter _).map _)
  · rw [hbas]
    refine ⟨h.consistent q, fun hq => ?_⟩
    obtain ⟨x, hx, hxa, ho⟩ := h.authorises hq
    exact ⟨x, (hmem x).2 ⟨hx, fun ht => hxa (he.eq hx ht ▸ hl)⟩, hxa, ho⟩

/-- R98, R99: an ACTIVE entry leaves the list, its seats for no owner or its origin port, whose basket authorises no more. -/
theorem State.SeatsAgree.settleActive {s t : State} (h : s.SeatsAgree) {e : AuthEntry} (he : s.Tags e) (ha : e.state ≠ .lost)
    {b : Basket} (hr : s.Reseats t e.handle.index e.seats)
    (hent : t.relay.entries = s.relay.entries.eraseP (fun x => decide (x.tag = e.tag)))
    (hself : t.basket e.origin = b) (hother : ∀ q, q ≠ e.origin → t.basket q = s.basket q)
    (hb : b.state ≠ .authorising) (hc : b.consistent)
    (hnew : (b.seats = [] ∧ ∀ k ∈ e.seats, (t.seatAt e.handle.index k).state.unowned)
      ∨ (b.handle = e.handle ∧ b.seats = e.seats
        ∧ ∀ k ∈ e.seats, (t.seatAt e.handle.index k).state.heldBy e.origin = true)) : t.SeatsAgree := by
  have hauth := (h.paired.authorising e he.mem ha).1
  have hmem : ∀ x, x ∈ t.relay.entries ↔ x ∈ s.relay.entries ∧ x.tag ≠ e.tag := fun x => by
    rw [hent, mem_eraseP_tag he.nodup]
  have horigin : ∀ x ∈ t.relay.entries, x.state ≠ .lost → x.origin ≠ e.origin := fun x hx hxa ho =>
    ((hmem x).1 hx).2 (by rw [h.paired.origin_inj ((hmem x).1 hx).1 he.mem hxa ha ho])
  have hentry := h.linked.entries e he.mem
  rw [State.seatsAgree_iff]
  refine ⟨hr.tallied, ?_, ⟨fun x hx hxa => ?_, ?_⟩, fun q => ?_⟩
  · refine h.dropLinks he {e.origin} hr hent hother (fun k hk => ?_) (fun i k p hp hk hx => ?_) (fun p hp _ => ?_)
    · rcases hnew with ⟨-, hu⟩ | ⟨-, -, hh⟩
      · exact (hu k hk).ownedWithin _ _
      · exact SeatState.ownedWithin_of_heldBy (hh k hk) (Set.mem_singleton _) _
    · obtain rfl : p = e.origin := hp
      by_cases hik : i = e.handle.index ∧ k ∈ e.seats
      · obtain ⟨rfl, hke⟩ := hik
        rcases hnew with ⟨-, hu⟩ | ⟨hbh, hbs, -⟩
        · exact absurd hx (SeatState.not_heldBy_of_unowned (hu k hke) _)
        · rw [hself, hbh, hbs]
          exact ⟨hb, ((s.current_iff _).1 (hentry.2 k hke).1).2, hke⟩
      · rw [hr.others i k hk hik] at hx
        exact absurd hauth (h.linked.held i k _ hk hx).1
    · obtain rfl : p = e.origin := hp
      rw [hself]
      rcases hnew with ⟨hbs, -⟩ | ⟨hbh, hbs, hh⟩
      · rw [hbs]; exact t.seatsAre_nil _ _
      · rw [hbs, hbh]
        refine ⟨hentry.1, fun k hk => ?_⟩
        rw [hr.map.current, hr.map.seatCount]
        exact ⟨(hentry.2 k hk).1, (hentry.2 k hk).2.1, hh k hk⟩
  · rw [hother _ (horigin x hx hxa)]
    exact h.paired.authorising x ((hmem x).1 hx).1 hxa
  · rw [hent]
    exact h.paired.origins.sublist ((List.eraseP_sublist.filter _).map _)
  · by_cases hq : q = e.origin
    · subst hq
      rw [hself]
      exact ⟨hc, fun hba => absurd hba hb⟩
    · rw [hother q hq]
      refine ⟨h.consistent q, fun hqa => ?_⟩
      obtain ⟨x, hx, hxa, ho⟩ := h.authorises hqa
      exact ⟨x, (hmem x).2 ⟨hx, fun ht => hq (ho.symm.trans (by rw [he.eq hx ht]))⟩, hxa, ho⟩

/-! ## The ends of an authorisation (R98 to R105) -/

theorem State.SeatsAgree.approve {s : State} (h : s.SeatsAgree) {e : AuthEntry} (he : s.Tags e) (ha : e.state ≠ .lost)
    (code : Bytes) : (s.approve e code).SeatsAgree := by
  obtain ⟨hr, hu, hb, hent⟩ := State.completeSale_reseats h.tallied (x := e.sale) code (fun k hk => h.entry_inMap he.mem hk)
  unfold State.approve
  dsimp only
  generalize s.completeSale e.sale code = r at hr hu hb hent
  have hbas : ∀ q, ((r.1.dropEntry e.tag).withdrawRequest e.tag).basket q = s.basket q := State.basket_of_baskets hb
  refine State.SeatsAgree.kept ((State.printSale_keeps _ _ _ _).trans ((State.answerKept_keeps _ _ _ _ _).trans
    (State.runArbiter_keeps _))).toSeatingKept ?_
  refine h.settleActive he ha (hr.congr_right rfl rfl) (by rw [← hent]; rfl)
    (by rw [State.basket_setBasket, if_pos rfl, hbas]) (fun q hq => by rw [State.basket_setBasket, if_neg hq, hbas])
    (Basket.cleared_state (s.basket e.origin)) (Basket.cleared_consistent _) (.inl ⟨rfl, hu⟩)

theorem State.SeatsAgree.approveLate {s : State} (h : s.SeatsAgree) {e : AuthEntry} (he : s.Tags e) (hl : e.state = .lost)
    (code : Bytes) (source : Nat) : (s.approveLate e code source).1.SeatsAgree := by
  obtain ⟨hr, hu, hb, hent⟩ := State.completeSale_reseats h.tallied (x := e.sale) code (fun k hk => h.entry_inMap he.mem hk)
  unfold State.approveLate
  dsimp only
  generalize s.completeSale e.sale code = r at hr hu hb hent
  refine State.SeatsAgree.kept ((State.owe_printStep _ _).keeps.trans (State.raise_keeps _ _ _)).toSeatingKept ?_
  exact h.settleLost (t := r.1.dropEntry e.tag) he hl (hr.congr_right rfl rfl) hb (by rw [← hent]; rfl) hu

theorem State.returnClaims_keeps (s : State) (ns : List Nat) : s.SeatingKept (s.returnClaims ns) := by
  rw [s.returnClaims_eq, State.eachSlot_frame]; exact ⟨rfl, rfl, rfl, rfl⟩

theorem State.returnSeats_unowned (s : State) (i : ShowNo) (ks : List Nat) :
    ∀ k ∈ ks, ((s.returnSeats i ks).seatAt i k).state.unowned := fun k hk => by
  rw [State.returnSeats_eq, State.seatAt_eachSeat s _ SeatState.givenUp_givenUp, if_pos hk]
  exact SeatState.givenUp_unowned _

theorem State.SeatsAgree.releaseLate {s : State} (h : s.SeatsAgree) {e : AuthEntry} (he : s.Tags e) (hl : e.state = .lost)
    (source : Nat) : (s.releaseLate e source).SeatsAgree := by
  have hw := s.returnSeats_seatStep e.handle.index e.seats
  have hc := (s.returnSeats e.handle.index e.seats).returnClaims_keeps e.claims
  refine State.SeatsAgree.kept ((State.raise_keeps _ _ _).trans (State.checkLow_keeps _)).toSeatingKept ?_
  refine h.settleLost he hl (t := (((s.returnSeats e.handle.index e.seats).returnClaims e.claims).freeReservation
    e.reservation).dropEntry e.tag) ((hw.reseats h.tallied fun k hk => h.entry_inMap he.mem hk).congr_right hc.shows hc.pool)
    (hc.baskets.trans hw.seatingKept.1) ?_ (fun k hk => ?_)
  · show List.eraseP _ ((s.returnSeats e.handle.index e.seats).returnClaims e.claims).relay.entries = _
    rw [hc.entries, hw.seatingKept.2]
  · show (((s.returnSeats e.handle.index e.seats).returnClaims e.claims).seatAt e.handle.index k).state.unowned
    rw [State.seatAt_of_pool hc.shows hc.pool]
    exact s.returnSeats_unowned _ _ k hk

theorem SeatState.reheld_reheld (p : PortNo) (lease : Nat) (x : SeatState) :
    (x.reheld p lease).reheld p lease = x.reheld p lease := by cases x <;> rfl

theorem SeatState.reheld_of_pendingUnder {tag : Nat} {x : SeatState} (h : x.pendingUnder tag = true) (p : PortNo) (lease : Nat) :
    (x.reheld p lease).heldBy p = true := by
  obtain ⟨ho, rfl⟩ := SeatState.pendingUnder_iff.1 h
  simp [SeatState.reheld, SeatState.heldBy]

/-- R99: the Decline Grace stands while the seats are written. -/
theorem State.reholdSeats_eq (s : State) (i : ShowNo) (p : PortNo) (ks : List Nat) :
    ks.foldl (fun s k => s.setSeatState i k ((s.seatAt i k).state.reheld p s.seats.declineGrace)) s
      = s.eachSeat i (SeatState.reheld p s.seats.declineGrace) ks := by
  induction ks generalizing s with
  | nil => rfl
  | cons k ks ih => exact ih (s.setSeatState i k ((s.seatAt i k).state.reheld p s.seats.declineGrace))

theorem State.SeatsAgree.decline {s : State} (h : s.SeatsAgree) {e : AuthEntry} (he : s.Tags e) (ha : e.state ≠ .lost)
    (fault : Bool) : (s.decline e fault).SeatsAgree := by
  obtain ⟨hauth, hhandle, hseats⟩ := h.paired.authorising e he.mem ha
  have hin : ∀ k ∈ e.seats, s.inMap e.handle.index k := fun k hk => h.entry_inMap he.mem hk
  refine State.SeatsAgree.kept ((State.answerKept_keeps _ _ _ _ _).trans (State.checkLow_keeps _)).toSeatingKept ?_
  generalize hs1 : ((s.dropEntry e.tag).withdrawRequest e.tag).freeReservation e.reservation = s1
  have hshows : s1.seats = s.seats := by rw [← hs1]; rfl
  have hb1 : s1.baskets = s.baskets := by rw [← hs1]; rfl
  have he1 : s1.relay.entries = s.relay.entries.eraseP (fun x => decide (x.tag = e.tag)) := by rw [← hs1]; rfl
  have hreseats : ∀ {t : State}, s1.SeatStep t e.handle.index e.seats → s.Reseats t e.handle.index e.seats := fun hw =>
    State.Reseats.congr_left (hw.reseats (h.tallied.of_seats (by rw [hshows]) (by rw [hshows]))
      fun k hk => ((State.mapKept_of_shows (by rw [hshows])).inMap _ k).2 (hin k hk)) (by rw [hshows]) (by rw [hshows])
  split
  · rw [State.reholdSeats_eq]
    generalize hu : s1.eachSeat _ _ _ = u
    have hw : s1.SeatStep u e.handle.index e.seats := by rw [← hu]; exact State.eachSeat_seatStep _ _ _ _
    dsimp only
    generalize hv : List.foldl _ u e.claims = v
    have hk : u.SeatingKept v := by rw [← hv]; exact u.changeSlots_keeps (fun _ => Slot.claim (.port e.origin)) e.claims
    have hbas : ∀ q, v.basket q = s.basket q := fun q =>
      State.basket_of_baskets (hk.baskets.trans (hw.seatingKept.1.trans hb1)) q
    obtain ⟨hl, -, hx⟩ := (h.consistent e.origin).2.2 (.inr hauth)
    refine h.settleActive (t := v.setBasket e.origin { v.basket e.origin with state := .priced, undo := [], lapsed := false })
      (b := { s.basket e.origin with state := .priced, undo := [], lapsed := false }) he ha ((hreseats hw).congr_right hk.shows hk.pool)
      (by rw [State.setBasket_relay, hk.entries, hw.seatingKept.2, he1])
      (by rw [State.basket_setBasket, if_pos rfl, hbas]) (fun q hq => by rw [State.basket_setBasket, if_neg hq, hbas]) (by simp)
      ⟨by simp, by simp, fun _ => ⟨hl, rfl, hx⟩⟩ (.inr ⟨hhandle, hseats, fun k hk' => ?_⟩)
    show (v.seatAt e.handle.index k).state.heldBy e.origin = true
    rw [State.seatAt_of_pool hk.shows hk.pool, ← hu, State.state_eachSeat _ _ (SeatState.reheld_reheld _ _)
      (ks := e.seatLines.map (·.seat)) hk', State.seatAt_of_seats hshows]
    exact SeatState.reheld_of_pendingUnder ((h.linked.entries e he.mem).2 k hk').2.2 _ _
  · have hw := s1.returnSeats_seatStep e.handle.index e.seats
    have hk := (s1.returnSeats e.handle.index e.seats).returnClaims_keeps e.claims
    have hbas : ∀ q, ((s1.returnSeats e.handle.index e.seats).returnClaims e.claims).basket q = s.basket q := fun q =>
      State.basket_of_baskets (hk.baskets.trans (hw.seatingKept.1.trans hb1)) q
    refine h.settleActive (t := ((s1.returnSeats e.handle.index e.seats).returnClaims e.claims).setBasket e.origin
        (((s1.returnSeats e.handle.index e.seats).returnClaims e.claims).basket e.origin).cleared) he ha
      ((hreseats hw).congr_right hk.shows hk.pool) (by rw [State.setBasket_relay, hk.entries, hw.seatingKept.2, he1])
      (by rw [State.basket_setBasket, if_pos rfl, hbas]) (fun q hq => by rw [State.basket_setBasket, if_neg hq, hbas])
      (Basket.cleared_state (s.basket e.origin)) (Basket.cleared_consistent _) (.inl ⟨rfl, fun k hk' => ?_⟩)
    show (((s1.returnSeats e.handle.index e.seats).returnClaims e.claims).seatAt e.handle.index k).state.unowned
    rw [State.seatAt_of_pool hk.shows hk.pool]
    exact s1.returnSeats_unowned _ _ k hk'

theorem State.SeatsAgree.resolve {s : State} (h : s.SeatsAgree) {e : AuthEntry} (he : s.Tags e) (o : AuthOutcome) (code : Bytes) :
    (s.resolve e o code).SeatsAgree := by
  have hg : s.holdGateway.SeatsAgree := State.SeatsAgree.kept (s := s) ⟨rfl, rfl, rfl, rfl⟩ h
  have hge : s.holdGateway.Tags e := ⟨he.nodup, he.mem⟩
  unfold State.resolve
  split
  · rename_i hst; exact h.approve he (by rw [hst]; simp) code
  · rename_i hst; exact h.decline he (by rw [hst]; simp) false
  · rename_i hst; exact hg.decline hge (by rw [hst]; simp) true
  · rename_i hst; exact h.approveLate he hst code 1
  · rename_i hst; exact h.releaseLate he hst 1
  · rename_i hst; exact hg.releaseLate hge hst 1

theorem State.entryTagged_mem {s : State} {tag : Nat} {e : AuthEntry} (h : s.entryTagged tag = some e) : e ∈ s.relay.entries :=
  List.mem_of_find?_eq_some h

theorem State.SeatsAgree.reconcile {s : State} (h : s.SeatsAgree) (hn : (s.relay.entries.map (·.tag)).Nodup) (args : Bytes) :
    (reconcile args s).1.SeatsAgree := by
  unfold Machine.reconcile
  split
  · exact h
  · split
    · exact h
    · rename_i e htag
      have he : s.Tags e := ⟨hn, State.entryTagged_mem htag⟩
      split
      · exact h
      · rename_i hl
        split
        · exact h.approveLate he (not_not.1 hl) _ _
        · exact h.releaseLate he (not_not.1 hl) _

/-! ## Timeouts (R96, R97) -/

theorem map_active_origins {es : List AuthEntry} {f : AuthEntry → AuthEntry} (ho : ∀ x, (f x).origin = x.origin)
    (ha : ∀ x, (f x).isActive = true → x.isActive = true) (h : ((es.filter AuthEntry.isActive).map (·.origin)).Nodup) :
    (((es.map f).filter AuthEntry.isActive).map (·.origin)).Nodup := by
  rw [List.filter_map, List.map_map]
  refine h.sublist ?_
  have hf : (fun x : AuthEntry => x.origin) ∘ f = fun x => x.origin := funext ho
  rw [hf]
  exact (List.monotone_filter_right es ha).map _

/-- An ACTIVE entry at 0, as the timeout leaves it. -/
def AuthEntry.lostIf (tag : Nat) (x : AuthEntry) : AuthEntry := if x.tag = tag then { x with state := .lost } else x

theorem AuthEntry.lostIf_spec (tag : Nat) (x : AuthEntry) : (x.lostIf tag).tag = x.tag ∧ (x.lostIf tag).handle = x.handle
    ∧ (x.lostIf tag).seats = x.seats ∧ (x.lostIf tag).origin = x.origin := by
  unfold AuthEntry.lostIf
  split <;> exact ⟨rfl, rfl, rfl, rfl⟩

theorem AuthEntry.active_of_lostIf {tag : Nat} {x : AuthEntry} (h : (x.lostIf tag).state ≠ .lost) :
    x.tag ≠ tag ∧ x.state ≠ .lost := by
  unfold AuthEntry.lostIf at h
  split at h
  · exact absurd rfl h
  · exact ⟨by assumption, h⟩

theorem State.timeOut_keeps (s : State) (e : AuthEntry) :
    (State.setBasket { s with relay := { s.relay with entries := s.relay.entries.map (AuthEntry.lostIf e.tag) } } e.origin
      (s.basket e.origin).cleared).HoldingsKept (s.timeOut e) :=
  ((State.answerKept_keeps _ _ _ _ _).trans (State.withdrawRequest_keeps _ _)).trans (State.raise_keeps _ _ _)

theorem State.timeOut_entries (s : State) (e : AuthEntry) :
    (s.timeOut e).relay.entries = s.relay.entries.map (AuthEntry.lostIf e.tag) := (s.timeOut_keeps e).entries

theorem State.SeatsAgree.timeOut {s : State} (h : s.SeatsAgree) {e : AuthEntry} (he : s.Tags e) (ha : e.state ≠ .lost) :
    (s.timeOut e).SeatsAgree := by
  refine State.SeatsAgree.kept (s.timeOut_keeps e).toSeatingKept ?_
  generalize ht : State.setBasket _ e.origin _ = t
  have hself : t.basket e.origin = (s.basket e.origin).cleared := by rw [← ht, State.basket_setBasket, if_pos rfl]
  have hother : ∀ q, q ≠ e.origin → t.basket q = s.basket q := fun q hq => by
    rw [← ht, State.basket_setBasket, if_neg hq]; rfl
  have hshows : t.seats = s.seats := by rw [← ht]; rfl
  have hseat : ∀ i k, t.seatAt i k = s.seatAt i k := State.seatAt_of_seats hshows
  have hent : t.relay.entries = s.relay.entries.map (AuthEntry.lostIf e.tag) := by rw [← ht]; rfl
  have hm : s.mapKept t := State.mapKept_of_shows (by rw [hshows])
  have hauth := (h.paired.authorising e he.mem ha).1
  rw [State.seatsAgree_iff]
  refine ⟨h.tallied.of_seats (by rw [hshows]) (by rw [hshows]), ?_, ⟨fun x hx hxa => ?_, ?_⟩, fun q => ?_⟩
  · refine h.linked.of_touch {e.origin} {e.tag} hm (fun i k _ => .inl (hseat i k)) hother (fun x hx => ?_)
      (fun i k p hp hk hx => ?_) (fun p hp _ => ?_) (fun i k tag _ hk hx => ?_) (fun x hx _ => ?_)
    · rw [hent, List.mem_map]
      constructor
      · rintro ⟨y, hy, rfl⟩
        have hyt : y.tag ≠ e.tag := (y.lostIf_spec e.tag).1 ▸ hx
        rwa [AuthEntry.lostIf, if_neg hyt]
      · exact fun hx' => ⟨x, hx', if_neg hx⟩
    · obtain rfl : p = e.origin := hp
      rw [hseat] at hx
      exact absurd hauth (h.linked.held i k _ hk hx).1
    · obtain rfl : p = e.origin := hp
      rw [hself]
      exact t.seatsAre_nil _ _
    · rw [hseat] at hx
      obtain ⟨x, hxm, hxt, hxh, hxk⟩ := h.linked.pending i k tag hk hx
      obtain ⟨h1, h2, h3, -⟩ := x.lostIf_spec e.tag
      exact ⟨x.lostIf e.tag, hent ▸ List.mem_map_of_mem hxm, h1.trans hxt, h2.trans hxh, by rw [h3]; exact hxk⟩
    · rw [hent, List.mem_map] at hx
      obtain ⟨y, hy, rfl⟩ := hx
      obtain ⟨h1, h2, h3, -⟩ := y.lostIf_spec e.tag
      rw [h1, h2, h3]
      exact (h.linked.entries y hy).of_mapKept hm fun k _ _ hx => by rwa [hseat]
  · rw [hent, List.mem_map] at hx
    obtain ⟨y, hy, rfl⟩ := hx
    obtain ⟨-, h2, h3, h4⟩ := y.lostIf_spec e.tag
    obtain ⟨hyt, hya⟩ := AuthEntry.active_of_lostIf hxa
    rw [h2, h3, h4, hother _ fun ho => hyt (by rw [h.paired.origin_inj hy he.mem hya ha ho])]
    exact h.paired.authorising y hy hya
  · rw [hent]
    refine map_active_origins (fun x => (x.lostIf_spec e.tag).2.2.2) (fun x hx => ?_) h.paired.origins
    exact x.isActive_iff.2 (AuthEntry.active_of_lostIf ((AuthEntry.isActive_iff _).1 hx)).2
  · by_cases hq : q = e.origin
    · subst hq
      rw [hself]
      exact ⟨Basket.cleared_consistent _, fun hs => absurd hs (Basket.cleared_state _)⟩
    · rw [hother q hq]
      refine ⟨h.consistent q, fun hqa => ?_⟩
      obtain ⟨x, hx, hxa, ho⟩ := h.authorises hqa
      have hxt : x.tag ≠ e.tag := fun hte => hq (ho.symm.trans (by rw [he.eq hx hte]))
      exact ⟨x, hent ▸ List.mem_map.2 ⟨x, hx, if_neg hxt⟩, hxa, ho⟩

/-- R97: entries that time out one after the other, each still ACTIVE at its turn. -/
theorem State.SeatsAgree.timeOuts {s : State} (h : s.SeatsAgree) (hn : (s.relay.entries.map (·.tag)).Nodup)
    {es : List AuthEntry} (hes : ∀ e ∈ es, e ∈ s.relay.entries ∧ e.state ≠ .lost) (hnd : (es.map (·.tag)).Nodup) :
    (es.foldl (fun s e => s.timeOut e) s).SeatsAgree := by
  induction es generalizing s with
  | nil => exact h
  | cons e es ih =>
    obtain ⟨he, ha⟩ := hes e (by simp)
    rw [List.map_cons, List.nodup_cons] at hnd
    refine ih (h.timeOut ⟨hn, he⟩ ha) ?_ (fun x hx => ?_) hnd.2
    · rw [State.timeOut_entries, List.map_map]
      have : (fun x : AuthEntry => x.tag) ∘ AuthEntry.lostIf e.tag = fun x => x.tag :=
        funext fun x => (x.lostIf_spec e.tag).1
      rw [this]
      exact hn
    · obtain ⟨hxm, hxa⟩ := hes x (by simp [hx])
      have hxt : x.tag ≠ e.tag := fun ht => hnd.1 (List.mem_map.2 ⟨x, hx, ht⟩)
      exact ⟨by rw [State.timeOut_entries]; exact List.mem_map.2 ⟨x, hxm, if_neg hxt⟩, hxa⟩

theorem State.SeatsAgree.expireAuths {s : State} (h : s.SeatsAgree) (hn : (s.relay.entries.map (·.tag)).Nodup) :
    s.expireAuths.SeatsAgree := by
  refine h.timeOuts hn (fun e he => ?_) (hn.sublist (List.filter_sublist.map _))
  obtain ⟨hmem, hst⟩ := List.mem_filter.1 he
  exact ⟨hmem, by rw [of_decide_eq_true hst]; simp⟩

/-! ## The tick (R34, R97, R195) -/

/-- The agreement rests on who holds a seat and under which tag it is PENDING, and not on leases and timers. -/
theorem State.SeatsAgree.of_owners {s t : State} (h : s.SeatsAgree) (f : AuthEntry → AuthEntry) (hs : t.seats.shows = s.seats.shows)
    (hb : t.baskets = s.baskets) (hent : t.relay.entries = s.relay.entries.map f)
    (hf : ∀ x, (f x).tag = x.tag ∧ (f x).handle = x.handle ∧ (f x).seats = x.seats ∧ (f x).origin = x.origin
      ∧ ((f x).state = .lost ↔ x.state = .lost))
    (hcode : ∀ i k, (t.seatAt i k).state.code = (s.seatAt i k).state.code)
    (hheld : ∀ i k p, (t.seatAt i k).state.heldBy p = (s.seatAt i k).state.heldBy p)
    (hpend : ∀ i k tag, (t.seatAt i k).state.pendingUnder tag = (s.seatAt i k).state.pendingUnder tag)
    (hun : ∀ i k, (s.seatAt i k).state.unowned → (t.seatAt i k).state.unowned) : t.SeatsAgree := by
  have hbas : ∀ q, t.basket q = s.basket q := State.basket_of_baskets hb
  have hm : s.mapKept t := State.mapKept_of_shows hs
  have hauth : ∀ q, s.authorises q → t.authorises q := by
    rintro q ⟨x, hx, hxa, ho⟩
    obtain ⟨-, -, -, h4, h5⟩ := hf x
    exact ⟨f x, hent ▸ List.mem_map_of_mem hx, fun hl => hxa (h5.1 hl), h4.trans ho⟩
  rw [State.seatsAgree_iff]
  refine ⟨h.tallied.of_kinds hm (fun i => by rw [State.showAt_of_shows hs]) fun i k _ => hcode i k,
    ⟨fun i k hk hl => ?_, fun i k p hk hx => ?_, fun p hp => ?_, fun i k tag hk hx => ?_, fun x hx => ?_⟩,
    ⟨fun x hx hxa => ?_, ?_⟩, fun q => ?_⟩
  · exact hun i k (h.linked.loading i k ((hm.inMap i k).1 hk) (hm.loading i hl))
  · rw [hbas, hm.handleOf]
    exact h.linked.held i k p ((hm.inMap i k).1 hk) (hheld i k p ▸ hx)
  · rw [hbas] at hp ⊢
    exact (h.linked.lines p hp).of_mapKept hm fun k _ _ hx => by rwa [hheld]
  · obtain ⟨x, hxm, hxt, hxh, hxk⟩ := h.linked.pending i k tag ((hm.inMap i k).1 hk) (hpend i k tag ▸ hx)
    obtain ⟨h1, h2, h3, -⟩ := hf x
    exact ⟨f x, hent ▸ List.mem_map_of_mem hxm, h1.trans hxt, by rw [h2, hxh, hm.handleOf], by rw [h3]; exact hxk⟩
  · obtain ⟨y, hy, rfl⟩ := List.mem_map.1 (hent ▸ hx)
    obtain ⟨h1, h2, h3, -⟩ := hf y
    rw [h1, h2, h3]
    exact (h.linked.entries y hy).of_mapKept hm fun k _ _ hx => by rwa [hpend]
  · obtain ⟨y, hy, rfl⟩ := List.mem_map.1 (hent ▸ hx)
    obtain ⟨-, h2, h3, h4, h5⟩ := hf y
    rw [h2, h3, h4, hbas]
    exact h.paired.authorising y hy fun hl => hxa (h5.2 hl)
  · rw [hent]
    refine map_active_origins (fun x => (hf x).2.2.2.1) (fun x hx => ?_) h.paired.origins
    exact x.isActive_iff.2 fun hl => (AuthEntry.isActive_iff _).1 hx ((hf x).2.2.2.2.2 hl)
  · rw [hbas]
    exact ⟨h.consistent q, fun hq => hauth q (h.authorises hq)⟩

theorem Seat.second_state (x : Seat) : x.second.state.code = x.state.code ∧ (∀ p, x.second.state.heldBy p = x.state.heldBy p)
    ∧ (∀ tag, x.second.state.pendingUnder tag = x.state.pendingUnder tag) ∧ (x.state.unowned → x.second.state.unowned) := by
  unfold Seat.second
  split
  · rename_i p l ho hst
    rw [hst]
    exact ⟨rfl, fun _ => rfl, fun _ => rfl, fun hu => hu⟩
  · exact ⟨rfl, fun _ => rfl, fun _ => rfl, id⟩

theorem Sparse.get_map {α : Type} [DecidableEq α] {d : Nat → α} {f : α → α} (hd : ∀ a, f (d a) = d a) (m : List (Nat × α)) (a : Nat) :
    Sparse.get d (m.map fun c => (c.1, f c.2)) a = f (Sparse.get d m a) := by
  unfold Sparse.get
  induction m with
  | nil => exact (hd a).symm
  | cons c m ih =>
    obtain ⟨b, v⟩ := c
    by_cases h : b = a
    · simp [Sparse.find, h]
    · simpa [Sparse.find, h] using ih

/-- R34: counting leases, seat by seat. -/
theorem State.seatAt_countLeases (s : State) (i : ShowNo) (k : Nat) : s.countLeases.seatAt i k = (s.seatAt i k).second :=
  Sparse.get_map (d := blankSeat) (f := Seat.second) (fun _ => rfl) s.seats.pool _

theorem State.SeatsAgree.countLeases {s : State} (h : s.SeatsAgree) : s.countLeases.SeatsAgree := by
  refine h.of_owners id rfl rfl (by rw [List.map_id]; rfl) (fun _ => ⟨rfl, rfl, rfl, rfl, .rfl⟩) ?_ ?_ ?_ ?_
  all_goals
    intro i k
    rw [State.seatAt_countLeases]
  · exact (s.seatAt i k).second_state.1
  · exact (s.seatAt i k).second_state.2.1
  · exact (s.seatAt i k).second_state.2.2.1
  · exact (s.seatAt i k).second_state.2.2.2

theorem State.SeatsAgree.countAuths {s : State} (h : s.SeatsAgree) : s.countAuths.SeatsAgree := by
  refine h.of_owners (fun e => { e with state := e.state.second }) rfl rfl rfl (fun x => ⟨rfl, rfl, rfl, rfl, ?_⟩)
    (fun _ _ => rfl) (fun _ _ _ => rfl) (fun _ _ _ => rfl) (fun _ _ hu => hu)
  cases hst : x.state <;> simp [AuthState.second]

end Sys2Proof.Machine
end

section
/-! The agreement of seats, baskets and entries under the commands that write no seat, and under every step. -/

namespace Sys2Proof.Machine

/-! ## Commands that keep the seats, the baskets and the entries -/

theorem latched_seating {ok : Bool} {body : State → Answer} (hb : ∀ t : State, t.SeatingKept (body t).1) (s : State) :
    s.SeatingKept (latched ok body s).1 := by
  have ht : s.SeatingKept (s.setStore { s.store with writeEnable := false }) := ⟨rfl, rfl, rfl, rfl⟩
  unfold latched
  split
  · exact .refl s
  · dsimp only
    split
    · exact ht
    · split
      · exact ht
      · exact ht.trans (hb _)

theorem noArgs_seating {body : State → Answer} {s : State} (hb : s.SeatingKept (body s).1) (args : Bytes) :
    s.SeatingKept (noArgs args body s).1 := by
  unfold noArgs
  split
  · exact hb
  · exact .refl s

theorem setLatch_seating (v : Bool) (args : Bytes) (s : State) : s.SeatingKept (setLatch v args s).1 := by
  refine noArgs_seating ?_ args
  split
  · exact .refl s
  · exact ⟨rfl, rfl, rfl, rfl⟩

theorem eraseSector_seating (args : Bytes) (s : State) : s.SeatingKept (eraseSector args s).1 := by
  unfold eraseSector
  split
  · exact .refl s
  · split
    · exact latched_seating (fun t => .refl t) s
    · refine latched_seating (fun t => ?_) s
      unfold eraseSectorBody
      split
      · exact .refl t
      · split
        · exact .refl t
        · exact ⟨rfl, rfl, rfl, rfl⟩

theorem eraseAll_seating (args : Bytes) (s : State) : s.SeatingKept (eraseAll args s).1 := by
  refine noArgs_seating (latched_seating (fun t => ?_) s) args
  unfold eraseAllBody
  split
  · exact .refl t
  · split
    · exact .refl t
    · exact ⟨rfl, rfl, rfl, rfl⟩

theorem programPage_seating (args : Bytes) (s : State) : s.SeatingKept (programPage args s).1 := by
  unfold programPage
  split
  · exact .refl s
  · split
    · refine latched_seating (fun t => ?_) s
      unfold programPageBody
      split
      · exact .refl t
      · split
        · exact .refl t
        · exact ⟨rfl, rfl, rfl, rfl⟩
    · exact latched_seating (fun t => .refl t) s

theorem setProtect_seating (args : Bytes) (s : State) : s.SeatingKept (setProtect args s).1 := by
  unfold setProtect
  split
  · exact .refl s
  · split
    · refine latched_seating (fun t => ?_) s
      unfold setProtectBody
      split
      · exact .refl t
      · exact ⟨rfl, rfl, rfl, rfl⟩
    · exact latched_seating (fun t => .refl t) s

theorem siteProgram_seating (args : Bytes) (s : State) : s.SeatingKept (siteProgram args s).1 := by
  unfold siteProgram
  split
  · exact .refl s
  · refine latched_seating (fun t => ?_) s
    unfold siteProgramBody
    split
    · exact .refl t
    · exact ⟨rfl, rfl, rfl, rfl⟩

theorem siteLock_seating (args : Bytes) (s : State) : s.SeatingKept (siteLock args s).1 := by
  refine noArgs_seating (latched_seating (fun t => ?_) s) args
  unfold siteLockBody
  split
  · exact .refl t
  · split
    · exact .refl t
    · exact ⟨rfl, rfl, rfl, rfl⟩

theorem issueCredit_seating (args : Bytes) (s : State) : s.SeatingKept (issueCredit args s).1 := by
  unfold issueCredit
  split
  · exact .refl s
  · split
    · exact .refl s
    · split
      · exact .refl s
      · split
        · exact .refl s
        · rename_i v d _ _ _ _
          have hissue : s.SeatingKept (s.issue (.credit v) 0 d).1 := ⟨rfl, rfl, rfl, rfl⟩
          exact hissue.trans (State.checkLow_keeps _).toSeatingKept

theorem voidVoucher_seating (args : Bytes) (s : State) : s.SeatingKept (voidVoucher args s).1 := by
  unfold voidVoucher
  split
  · exact .refl s
  · split
    · exact .refl s
    · exact .refl s
    · exact ⟨rfl, rfl, rfl, rfl⟩
    · exact .refl s

theorem dayRoll_seating (args : Bytes) (s : State) : s.SeatingKept (dayRoll args s).1 := by
  unfold dayRoll
  split
  · exact .refl s
  · rename_i d _
    split
    · exact .refl s
    · have hroll : s.SeatingKept { s with control := { s.control with day := d }, vouchers := s.vouchers.reclaim d } :=
        ⟨rfl, rfl, rfl, rfl⟩
      exact hroll.trans (State.checkLow_keeps _).toSeatingKept

theorem redeem_seating (p : PortNo) (payload : Bytes) (s : State) : s.SeatingKept (redeem p payload s).1 := by
  unfold redeem
  split
  · exact .refl s
  · split
    · exact .refl s
    · split
      · exact .refl s
      · exact s.changeSlot_keeps _ _

theorem State.completeStore_seating (s : State) : s.SeatingKept s.completeStore := by
  unfold State.completeStore
  split
  · exact .refl s
  · rename_i op _
    have hstore : s.SeatingKept (s.setStore (s.store.complete op)) := ⟨rfl, rfl, rfl, rfl⟩
    exact hstore.trans (((State.raise_keeps _ _ _).trans (State.readSectors_printStep _ _).keeps).trans
      (State.runArbiter_keeps _)).toSeatingKept

/-- Nothing but the pool, the directory and the baskets changes as a seat is lost. -/
theorem State.loseHeld_frame (s : State) (i : ShowNo) (k : Nat) : s.loseHeld i k =
    { s with seats := { s.seats with shows := (s.loseHeld i k).seats.shows, pool := (s.loseHeld i k).seats.pool }
             baskets := (s.loseHeld i k).baskets } := by
  unfold State.loseHeld
  split <;> rfl

theorem State.expireLeases_relay (s : State) : s.expireLeases.relay = s.relay := by
  refine State.forSeats_keeps (P := fun t => t.relay = s.relay) (fun t i k ht => ?_) rfl
  split
  · rw [t.loseHeld_frame]; exact ht
  · exact ht

theorem State.countAuths_tags (s : State) : s.countAuths.relay.entries.map (·.tag) = s.relay.entries.map (·.tag) := by
  unfold State.countAuths
  dsimp only
  rw [List.map_map]
  rfl

/-! ## Resets (R4, R44, R109) -/

/-- No show, no line and no entry: nothing to agree about. -/
theorem State.SeatsAgree.of_reset {s : State} (hs : s.seats = SeatTable.reset) (hb : s.baskets = Vector.replicate 16 Basket.reset)
    (he : s.relay.entries = []) : s.SeatsAgree := by
  have hshow : ∀ i, s.showAt i = Show.reset := fun i => by simp [State.showAt, hs, SeatTable.reset]
  have hbas : ∀ p, s.basket p = Basket.reset := fun p => by simp [State.basket, hb]
  have hempty : ∀ i, (s.showAt i).state = .empty := fun i => by rw [hshow]; rfl
  have hmap : ∀ i k, ¬ s.inMap i k := fun i k hk => hk.1 (hempty i)
  have hno : ∀ e, e ∉ s.relay.entries := fun e => by rw [he]; exact List.not_mem_nil
  rw [State.seatsAgree_iff]
  refine ⟨⟨fun i hi => absurd (hempty i) hi, fun i _ _ hi => absurd (hempty i) hi, fun i hi => absurd (hempty i) hi⟩,
    ⟨fun i k hk => absurd hk (hmap i k), fun i k _ hk => absurd hk (hmap i k), fun p _ => ?_,
      fun i k _ hk => absurd hk (hmap i k), fun e hmem => absurd hmem (hno e)⟩,
    ⟨fun e hmem => absurd hmem (hno e), by rw [he]; exact List.nodup_nil⟩, fun p => ?_⟩
  · rw [hbas]
    exact s.seatsAre_nil _ _
  · rw [hbas]
    exact ⟨Basket.cleared_consistent Basket.reset, fun ha => absurd ha (by simp [Basket.reset])⟩

/-! ## Every step -/

/-- Every management command that changes what is held keeps the agreement. -/
theorem Command.body_seatsAgree (c : Command) (args : Bytes) {s : State} (hr : c.reports = false) (hc : c.settles = false)
    (hn : (s.relay.entries.map (·.tag)).Nodup) (h : s.SeatsAgree) : (c.body args s).1.SeatsAgree := by
  cases c
  case defineShow => exact h.defineShow args
  case loadSeats => exact h.loadSeats args
  case openShow => exact h.openShow args
  case closeShow => exact h.closeShow args
  case removeShow => exact h.removeShow args
  case setSeat => exact h.setSeatCommand args
  case markSold => exact h.markSold args
  case releaseBlock => exact h.releaseBlock args
  case reconcile => exact h.reconcile hn args
  case issueCredit => exact h.kept (issueCredit_seating args s)
  case voidVoucher => exact h.kept (voidVoucher_seating args s)
  case writeEnable => exact h.kept (setLatch_seating true args s)
  case writeDisable => exact h.kept (setLatch_seating false args s)
  case eraseSector => exact h.kept (eraseSector_seating args s)
  case eraseAll => exact h.kept (eraseAll_seating args s)
  case programPage => exact h.kept (programPage_seating args s)
  case setProtect => exact h.kept (setProtect_seating args s)
  case siteProgram => exact h.kept (siteProgram_seating args s)
  case siteLock => exact h.kept (siteLock_seating args s)
  case disablePort => exact h.disablePort args
  case night => exact h.night args
  case dayRoll => exact h.kept (dayRoll_seating args s)
  all_goals simp [Command.reports, Command.settles] at hr hc

/-- What a step of State.SeatsAgree starts from: the agreement, and tags that each name one entry (R92). -/
def State.SeatsAgreeByTag (s : State) : Prop := (s.relay.entries.map (·.tag)).Nodup ∧ s.SeatsAgree

theorem seatsAgree_leads : Leads State.SeatsAgreeByTag State.SeatsAgree where
  weaken := And.right
  before := fun hk ⟨hn, h⟩ => ⟨by rw [hk.entries]; exact hn, h.kept hk.toSeatingKept⟩
  after := fun hk h => h.kept hk.toSeatingKept
  resetPart := fun _ _ _ => .of_reset rfl rfl rfl
  command := fun c args _ hr hc ⟨hn, h⟩ => c.body_seatsAgree args hr hc hn h
  hold := fun p payload _ ⟨_, h⟩ => h.hold p payload
  release := fun p payload _ ⟨_, h⟩ => h.release p payload
  setType := fun _ a _ hp ⟨_, h⟩ => h.setTypeBody hp a
  addCombo := fun _ a _ hp ⟨_, h⟩ => h.addComboBody hp a
  removeCombo := fun _ a _ hp ⟨_, h⟩ => h.removeComboBody hp a
  applyCredit := fun _ a _ hp ⟨_, h⟩ => h.applyCreditBody hp a
  removeCredit := fun _ a _ hp ⟨_, h⟩ => h.removeCreditBody hp a
  undo := fun _ a _ hp ⟨_, h⟩ => h.undoBody hp a
  cancel := fun _ _ _ hp ⟨_, h⟩ => h.voidBasket hp
  price := fun p payload _ ⟨_, h⟩ => h.price p payload
  redeem := fun p payload s ⟨_, h⟩ => h.kept (redeem_seating p payload s)
  pay := fun p tag payload _ ⟨_, h⟩ => h.pay p tag payload
  resolve := fun _ o code _ he ⟨hn, h⟩ => h.resolve ⟨hn, State.entryTagged_mem he⟩ o code
  leaveActive := fun p st _ ⟨_, h⟩ => h.leaveActive p st
  expireLeases := fun _ ⟨_, h⟩ => h.expireLeases
  expireAuths := fun _ ⟨hn, h⟩ => h.expireAuths hn
  tick := fun s ⟨hn, h⟩ => h.countLeases.expireLeases.countAuths.expireAuths
    (by rw [State.countAuths_tags, State.expireLeases_relay, State.countLeases_relay]; exact hn)
  completeStore := fun s ⟨_, h⟩ => h.kept s.completeStore_seating

/-- Settles O57: seats move between a basket, an entry and no owner together with the lines that name them, and what a step does
besides rests on the directory, the pool, the baskets and the list unchanged. -/
theorem seatsBasketsAndEntriesAgree : Obligations.SeatsBasketsAndEntriesAgree := by
  unfold Obligations.SeatsBasketsAndEntriesAgree
  intro s t hr h hs
  exact seatsAgree_leads.step ⟨hr.tags, h⟩ hs

end Sys2Proof.Machine
end

section
/-! The step, the resets and the invariants right after reset (O1, O3, O54). -/

namespace Sys2Proof.Machine

/-- Settles O1, by the step's own two cases. -/
theorem stepRunsFrontCommand : Obligations.StepRunsFrontCommand := by
  unfold Obligations.StepRunsFrontCommand
  refine ⟨fun _ _ _ => rfl, fun s h => ?_⟩
  unfold step
  rw [h]

/-- Settles O3: the arms of the two commands, and the guard on a Reset input that is low already. -/
theorem resetsTakeEveryBlock : Obligations.ResetsTakeEveryBlock := by
  unfold Obligations.ResetsTakeEveryBlock
  refine ⟨fun s => ⟨s.resetPart .power, rfl, rfl, rfl, rfl, rfl, rfl, rfl, rfl, rfl, rfl, rfl⟩, fun s h => ?_, fun s h => ?_⟩
  · refine ⟨(s.resetPart .line).setControl { (s.resetPart .line).control with resetLow := true }, ?_,
      rfl, rfl, rfl, rfl, rfl, rfl, rfl, rfl, rfl, rfl⟩
    show execResetInputAsserted s = _
    rw [execResetInputAsserted, if_neg (by rw [h]; exact Bool.false_ne_true)]
  · show execResetInputAsserted s = _
    rw [execResetInputAsserted, if_pos h]

/-! ## Right after reset -/

theorem State.reset_basket (p : PortNo) : State.reset.basket p = Basket.reset := by simp [State.basket, State.reset]
theorem State.reset_port (p : PortNo) : State.reset.port p = Port.reset := by simp [State.port, State.reset]
theorem State.reset_upwardOf (p : PortNo) : State.reset.upwardOf p = [] := by
  simp [State.upwardOf, State.reset, UplinkUnit.reset]

theorem State.reset_bounded : State.reset.Bounded where
  places := fun p => by rw [State.reset_port]; decide
  downPass := fun p => by rw [State.reset_port]; decide
  upwardPass := fun p => by rw [State.reset_upwardOf]; decide
  undo := fun p => by rw [State.reset_basket]; decide
  seatLines := fun p => by rw [State.reset_basket]; decide
  combos := fun p => by rw [State.reset_basket]; decide
  claims := fun p => by rw [State.reset_basket]; decide
  undoneClaims := fun p => by rw [State.reset_basket]; rfl
  snapshots := fun p x hx => by rw [State.reset_basket] at hx; cases hx
  entries := Nat.zero_le _
  entryLines := fun _ he => absurd he List.not_mem_nil
  documents := fun _ hj => absurd hj List.not_mem_nil
  owedDocuments := fun _ he => absurd he List.not_mem_nil
  jobs := Nat.zero_le _
  owed := Nat.zero_le _
  notices := Nat.zero_le _
  replies := Nat.zero_le _

theorem State.reset_relaySound : State.reset.RelaySound where
  reservation := rfl
  reservations := fun _ he => absurd he List.not_mem_nil
  tags := List.nodup_nil
  entries := Nat.zero_le _
  tagCounter := by decide
  room := by decide
  slotNumbers := fun _ hc => absurd hc List.not_mem_nil
  index := fun serial n => by
    have hindexed : State.reset.indexed serial = none := rfl
    have hslot : (State.reset.slotAt n).voucher = none := rfl
    simp [hindexed, hslot]

theorem PriceTables.reset_inRange : PriceTables.reset.InRange where
  prices := by decide
  factors := by decide
  typeNames := by decide
  comboPrices := by decide
  discounts := by decide
  minSeats := by decide
  comboNames := by decide
  rates := by decide
  ceiling := by decide

/-- Settles O54: nothing is held, listed or stored at reset, and every setting has its default. -/
theorem resetMeetsTheInvariants : Obligations.ResetMeetsTheInvariants := by
  unfold Obligations.ResetMeetsTheInvariants
  refine ⟨State.reset_bounded, State.reset_relaySound, .of_reset rfl rfl rfl, ?_, ⟨rfl, rfl, rfl, rfl, rfl⟩, ?_⟩
  · constructor
    case live => exact PriceTables.reset_inRange
    case staged => exact PriceTables.reset_inRange
    case errorCounts => intro p; rw [State.reset_port]; decide
    all_goals decide
  · exact fun _ hop => nomatch hop

end Sys2Proof.Machine
end

section
/-! What the commands of the seat map do, on the bytes that carry them (R13 to R19). -/

namespace Sys2Proof.Machine

/-! ## Show commands -/

/-- R12: a command on a show with the handle's generation, in a state that is legal for it, goes on to its body. -/
theorem withShow_eq {h : Handle} {legal : List ShowState} {s : State} (hg : (s.showAt h.index).generation = h.generation)
    (hl : (s.showAt h.index).state ∈ legal) (body : State → Answer) : withShow h legal body s = body s := by
  have hc : s.showCheck h legal = none := by simp [State.showCheck, hg, hl]
  simp [withShow, hc]

theorem ShowState.mem_notEmptyStates {x : ShowState} (h : x ≠ .empty) : x ∈ notEmptyStates := by
  cases x with
  | empty => exact absurd rfl h
  | loading | onSale | closed => simp [notEmptyStates]

/-- A reply changes the uplink alone. -/
theorem State.SeatStep.replied_eq {s t : State} {i : ShowNo} {ks : List Nat} (h : s.SeatStep t i ks) (c : Command) (tag : Byte)
    (r : Result) (content : Bytes) : t.replied c tag r content =
      ({ s with seats := { s.seats with shows := t.seats.shows, pool := t.seats.pool } } : State).replied c tag r content := by
  rw [← h.frame]

theorem State.SeatStep.restartPending {s t : State} {i : ShowNo} {ks : List Nat} (h : s.SeatStep t i ks)
    (hr : s.control.restartPending = false) : t.control.restartPending = false := by
  rw [h.frame]; exact hr

/-- A command that is taken and whose body is known, by its own arm. -/
theorem runCommand_replies {c : Command} {tag : Byte} {args : Bytes} {s t : State} {r : Result} {content : Bytes}
    (h : s.takesCommand (some c) = true) (hb : c.body args s = (t, r, content)) (ht : t.control.restartPending = false) :
    runCommand c tag args s = .next (t.replied c tag r content) := by
  rw [runCommand_eq, State.manage_eq h tag _ hb ht]

/-! ## Define Show (R13) -/

section
variable {α : Type} (n : Nat) (rest : Bytes) (f : Nat × Bytes → Option α)

theorem bind_readNat_u8 : (readNat 1 (u8 n ++ rest) >>= f) = f (n % 256, rest) := by simp
theorem bind_readNat_u16 : (readNat 2 (u16 n ++ rest) >>= f) = f (n % 65536, rest) := by simp
theorem bind_readNat_u24 : (readNat 3 (u24 n ++ rest) >>= f) = f (n % 16777216, rest) := by simp

end

theorem readShowFields_bytes {i : ShowNo} {base n : Nat} {band : Fin 8} {surcharge : Nat} {template : SectorNo}
    {day time grace : Nat} {title : Bytes} (hrange : base + n ≤ 32768) (hsur : surcharge < 16777216)
    (hday : day < 65536) (htime : time ≤ 86399) (hgrace : grace ≤ 7) (htitle : title.length ≤ 32)
    (hprint : printable title = true) :
    readShowFields (u8 i.val ++ u16 base ++ u16 n ++ u8 band.val ++ u24 surcharge ++ u8 template.val ++ u16 day ++ u24 time
      ++ u8 grace ++ text title) = some
        { index := i.val, seatBase := base, seatCount := n, priceBand := band.val, surcharge := surcharge,
          template := template.val, startDay := day, startTime := time, graceDays := grace, title := title } := by
  have hi : i.val % 256 = i.val := Nat.mod_eq_of_lt (by omega)
  have hband : band.val % 256 = band.val := Nat.mod_eq_of_lt (by omega)
  have htemplate : template.val % 256 = template.val := Nat.mod_eq_of_lt (by omega)
  have hbase : base % 65536 = base := Nat.mod_eq_of_lt (by omega)
  have hn : n % 65536 = n := Nat.mod_eq_of_lt (by omega)
  have hs : surcharge % 16777216 = surcharge := Nat.mod_eq_of_lt hsur
  have hd : day % 65536 = day := Nat.mod_eq_of_lt hday
  have ht : time % 16777216 = time := Nat.mod_eq_of_lt (by omega)
  have hg : grace % 256 = grace := Nat.mod_eq_of_lt (by omega)
  have htext := readText_text_end title (by omega)
  simp only [List.append_assoc]
  simp only [readShowFields, ↓bind_readNat_u8, ↓bind_readNat_u16, ↓bind_readNat_u24, hi, hband, htemplate,
    hbase, hn, hs, hd, ht, hg, htext, hprint, Option.bind_eq_bind, Option.bind_some, if_true, done_nil]

/-- A range apart from every show that is not EMPTY meets none of them. -/
theorem State.not_overlaps {s : State} {base n : Nat} (h : ∀ j, (s.showAt j).state ≠ .empty →
    base + n ≤ (s.showAt j).seatBase ∨ (s.showAt j).seatBase + (s.showAt j).seatCount ≤ base) : s.overlaps base n = false := by
  refine List.any_eq_false.2 fun j _ => ?_
  by_cases hj : (s.showAt j).state = .empty
  · simp [hj]
  · have := h j hj
    simp only [rangesMeet, Bool.and_eq_true, decide_eq_true_eq, not_and, hj, not_false_eq_true, ne_eq, true_implies]
    omega

/-- Settles O6: the bytes are read back as their fields, and each check of R13 passes. -/
theorem defineShowWritesItsRange : Obligations.DefineShowWritesItsRange := by
  unfold Obligations.DefineShowWritesItsRange
  intro tag i base n band surcharge template day time grace title s htake hempty hn1 hn2 hrange hsur hday htime hgrace htitle
    hprint hapart
  generalize hsh : Show.mk _ _ _ _ _ _ _ _ _ _ _ _ = sh
  generalize hargs : u8 i.val ++ u16 base ++ u16 n ++ u8 band.val ++ u24 surcharge ++ u8 template.val ++ u16 day ++ u24 time
    ++ u8 grace ++ text title = args
  have hread := readShowFields_bytes (i := i) (n := n) (band := band) (template := template) hrange hsur hday htime hgrace htitle
    hprint
  have hbody : defineShow args s = ((s.blankRange base n).setShow i sh, .ok,
      u8 i.val ++ u8 (s.showAt i).generation ++ u24 (min 4095 surcharge)) := by
    have hbad : ¬ (n < 1 ∨ 1024 < n ∨ 86399 < time ∨ 7 < grace ∨ 32 < title.length) := by omega
    rw [← hargs, defineShow, hread]
    dsimp only
    rw [toFin_val, toFin_val, toFin_val]
    dsimp only
    rw [if_neg (not_not.2 hempty), if_neg hbad, if_neg (Nat.not_lt.2 hrange),
      if_neg (by rw [State.not_overlaps hapart]; exact Bool.false_ne_true), hsh]
    rfl
  refine ⟨((s.blankRange base n).setShow i sh).replied .defineShow tag .ok
    (u8 i.val ++ u8 (s.showAt i).generation ++ u24 (min 4095 surcharge)), runCommand_replies (c := .defineShow) htake hbody
    (State.restartPending_of_takes htake), ?_, fun j hj => ?_, s.poolSeat_blankRange base n, rfl⟩
  · show ((s.blankRange base n).setShow i sh).showAt i = sh
    rw [State.showAt_setShow, if_pos rfl]
  · show ((s.blankRange base n).setShow i sh).showAt j = s.showAt j
    rw [State.showAt_setShow, if_neg hj, State.showAt_blankRange]

/-! ## Load Seats (R14) -/

/-- The record that carries a seat. -/
def Seat.record (x : Seat) : LoadRecord :=
  { zone := x.zone.val, rowLabel := x.rowLabel, number := x.number, initial := x.state.code }

/-- What Load Seats can carry is read back as it was. -/
theorem readLoadRecords_loadBytes {xs : List Seat} (hx : ∀ x ∈ xs, x.loadable) (rest : Bytes) :
    readLoadRecords xs.length (xs.flatMap Seat.loadBytes ++ rest) = some (xs.map Seat.record, rest) := by
  induction xs with
  | nil => rfl
  | cons x xs ih =>
    obtain ⟨-, hlabel, -, -, hnumber, hstate⟩ := hx x (by simp)
    have hzone : x.zone.val % 256 = x.zone.val := Nat.mod_eq_of_lt (by omega)
    have hnum : x.number % 256 = x.number := Nat.mod_eq_of_lt (by omega)
    have hcode : x.state.code % 256 = x.state.code := by rcases hstate with h | h | h <;> rw [h] <;> rfl
    have ih := ih fun y hy => hx y (by simp [hy])
    simp [readLoadRecords, Seat.loadBytes, Seat.record, List.append_assoc, readText_text _ _ (show x.rowLabel.length < 256 by omega),
      hzone, hnum, hcode, ih]

theorem Seat.record_seat {x : Seat} (h : x.loadable) : x.record.seat = some x := by
  obtain ⟨hl1, hl2, hp, hn, -, hstate⟩ := h
  have hgood : ¬ (x.rowLabel.length < 1 ∨ 2 < x.rowLabel.length ∨ printable x.rowLabel = false ∨ x.number = 0) := by
    simp only [hp, Bool.true_eq_false, false_or]
    omega
  rw [LoadRecord.seat, Seat.record]
  dsimp only
  rw [toFin_val]
  dsimp only
  rw [if_neg hgood]
  obtain ⟨zone, label, number, state⟩ := x
  dsimp only at hstate
  rcases hstate with rfl | rfl | rfl <;> rfl

theorem loadSeatsOf_records {xs : List Seat} (hx : ∀ x ∈ xs, x.loadable) : loadSeatsOf (xs.map Seat.record) = some xs := by
  induction xs with
  | nil => rfl
  | cons x xs ih => simp [loadSeatsOf, Seat.record_seat (hx x (by simp)), ih fun y hy => hx y (by simp [hy])]

/-- Settles O7: the records are read back, and each is written at its place. -/
theorem loadSeatsWritesRecords : Obligations.LoadSeatsWritesRecords := by
  unfold Obligations.LoadSeatsWritesRecords
  intro tag h first xs s htake hgen hcur hload hx hn1 hn2 hfirst hcount
  have hread : readLoadSeats (h.bytes ++ u16 first ++ u8 xs.length ++ xs.flatMap Seat.loadBytes)
      = some (h, first, xs.map Seat.record) := by
    have hf : first % 65536 = first := Nat.mod_eq_of_lt hfirst
    have hl : xs.length % 256 = xs.length := Nat.mod_eq_of_lt (by omega)
    have hrecords := readLoadRecords_loadBytes hx []
    rw [List.append_nil] at hrecords
    simp [readLoadSeats, List.append_assoc, readHandle_bytes _ _ hgen, hf, hl, hrecords]
  have hbody : loadSeats (h.bytes ++ u16 first ++ u8 xs.length ++ xs.flatMap Seat.loadBytes) s
      = (s.writeSeats h.index first xs, .ok, u8 xs.length ++ ((s.writeSeats h.index first xs).showAt h.index).counts.bytes
        ++ u16 ((s.writeSeats h.index first xs).unloaded h.index)) := by
    have hbad : ¬ (xs.length = 0 ∨ 40 < xs.length ∨ (s.showAt h.index).seatCount < first + xs.length) := by omega
    rw [loadSeats, hread]
    dsimp only
    rw [withShow_eq hcur (by simp [hload]), loadSeatsOf_records hx]
    dsimp only
    rw [List.length_map, if_neg hbad]
  have hw := s.writeSeats_seatStep h.index first xs
  refine ⟨_, runCommand_replies (c := .loadSeats) htake hbody (hw.restartPending (State.restartPending_of_takes htake)),
    fun j x hj => ?_, ?_, hw.dir, hw.replied_eq _ _ _ _⟩
  · show (s.writeSeats h.index first xs).seatAt h.index (first + j) = x
    rw [State.seatAt_writeSeats, if_pos (Nat.le_add_right _ _), Nat.add_sub_cancel_left, List.getD_eq_getElem?_getD, hj]
    rfl
  · have hrange : List.range' first xs.length = (List.range xs.length).map (fun j => first + j) := List.range'_eq_map_range
    rw [← hrange]
    exact hw.pool

/-! ## Open Show, Close Show and Remove Show (R15 to R17) -/

theorem readHandleOnly_bytes {h : Handle} (hgen : h.generation < 256) : readHandleOnly h.bytes = some h := by
  simp [readHandleOnly, readHandle_bytes_end h hgen]

/-- Settles O8: each command passes R12's checks and replaces the directory entry. -/
theorem showsOpenCloseAndGo : Obligations.ShowsOpenCloseAndGo := by
  unfold Obligations.ShowsOpenCloseAndGo
  intro tag h s hgen hcur
  have hread := readHandleOnly_bytes hgen
  refine ⟨fun htake hst => ?_, fun htake hst => ?_, fun htake hst hheld hpending => ?_⟩
  · refine runCommand_replies (c := .openShow) htake ?_ (State.restartPending_of_takes htake)
    show openShow h.bytes s = _
    rw [openShow, hread]
    exact withShow_eq hcur (by simp [hst]) _
  · refine runCommand_replies (c := .closeShow) htake ?_ (State.restartPending_of_takes htake)
    show closeShow h.bytes s = _
    rw [closeShow, hread]
    exact withShow_eq hcur (by simp [hst]) _
  · have hbody : removeShow h.bytes s = ((s.blankRange (s.showAt h.index).seatBase (s.showAt h.index).seatCount).setShow h.index
        { Show.reset with generation := (h.generation + 1) % 16 }, .ok, u8 ((h.generation + 1) % 16)) := by
      rw [removeShow, hread]
      dsimp only
      rw [withShow_eq hcur (by simp [hst])]
      simp [hheld, hpending, hcur]
    refine ⟨_, runCommand_replies (c := .removeShow) htake hbody (State.restartPending_of_takes htake), ?_, ?_, fun j hj => ?_,
      s.poolSeat_blankRange _ _, rfl⟩
    · show (State.showAt (State.setShow _ _ _) _).state = _
      rw [State.showAt_setShow, if_pos rfl]
      rfl
    · show (State.showAt (State.setShow _ _ _) _).generation = _
      rw [State.showAt_setShow, if_pos rfl]
    · show State.showAt (State.setShow _ _ _) j = _
      rw [State.showAt_setShow, if_neg hj, State.showAt_blankRange]

/-! ## Set Seat and Mark Sold (R18, R19) -/

theorem setSeatCommand_toggles {h : Handle} {s : State} {k : Nat} (hgen : h.generation < 256)
    (hcur : (s.showAt h.index).generation = h.generation) (hne : (s.showAt h.index).state ≠ .empty)
    (hk : k < (s.showAt h.index).seatCount) (hk16 : k < 65536) {x y : SeatState} (hst : (s.seatAt h.index k).state = x)
    (hxy : x = .free ∧ y = .house ∨ x = .house ∧ y = .free) :
    setSeatCommand (h.bytes ++ u16 k) s = (s.setSeatState h.index k y, .ok, u8 y.code) := by
  have hread : readSetSeat (h.bytes ++ u16 k) = some (h, k) := by
    simp [readSetSeat, readHandle_bytes _ _ hgen, Nat.mod_eq_of_lt hk16]
  rw [setSeatCommand, hread]
  dsimp only
  rw [withShow_eq hcur (ShowState.mem_notEmptyStates hne), if_neg (Nat.not_le.2 hk)]
  rcases hxy with ⟨rfl, rfl⟩ | ⟨rfl, rfl⟩ <;> rw [hst]

/-- R9, R19: what Mark Sold does to the live counts. -/
theorem State.counts_sold (s : State) (i : ShowNo) (sale : Nat) (ty : Fin 8) {ks : List Nat} (hnd : ks.Nodup)
    (hks : ∀ k ∈ ks, (s.seatAt i k).state = .free ∨ (s.seatAt i k).state = .house) :
    ((s.eachSeat i (fun _ => .sold sale ty) ks).showAt i).counts = { (s.showAt i).counts with
      free := (s.showAt i).counts.free - s.countSeats i ks SeatState.isFree
      house := (s.showAt i).counts.house - s.countSeats i ks SeatState.isHouse
      sold := (s.showAt i).counts.sold + ks.length } := by
  induction ks generalizing s with
  | nil => rfl
  | cons k ks ih =>
    rw [List.nodup_cons] at hnd
    have hother : ∀ n ∈ ks, (s.setSeatState i k (.sold sale ty)).seatAt i n = s.seatAt i n := fun n hn => by
      rw [State.seatAt_setSeatState, if_neg (by rintro rfl; exact hnd.1 hn)]
    have hcount : ∀ st, (s.setSeatState i k (.sold sale ty)).countSeats i ks st = s.countSeats i ks st := fun st =>
      congrArg List.length (List.filter_congr fun n hn => by rw [hother n hn])
    rw [State.eachSeat_cons, ih _ hnd.2 fun n hn => by rw [hother n hn]; exact hks n (by simp [hn]), hcount, hcount,
      State.setSeatState, State.showAt_setSeat, if_pos rfl]
    rcases hks k (by simp) with hst | hst
    · simp [hst, SeatCounts.move, SeatState.code, SeatCounts.less, SeatCounts.more, State.countSeats, SeatState.isFree,
        SeatState.isHouse]
      omega
    · simp [hst, SeatCounts.move, SeatState.code, SeatCounts.less, SeatCounts.more, State.countSeats, SeatState.isFree,
        SeatState.isHouse]
      omega

theorem markSold_eq {h : Handle} {s : State} {sale : Nat} {ty : Fin 8} {ks : List Nat} (hgen : h.generation < 256)
    (hcur : (s.showAt h.index).generation = h.generation)
    (hst : (s.showAt h.index).state = .onSale ∨ (s.showAt h.index).state = .closed) (hsale : sale < 4294967296)
    (hn1 : 1 ≤ ks.length) (hn2 : ks.length ≤ 40) (hnr : noRepeat ks = true)
    (hks : ∀ k ∈ ks, k < (s.showAt h.index).seatCount ∧ k < 65536
      ∧ ((s.seatAt h.index k).state = .free ∨ (s.seatAt h.index k).state = .house)) :
    markSold (h.bytes ++ u32 sale ++ u8 ty.val ++ seatList ks) s
      = (s.eachSeat h.index (fun _ => .sold sale ty) ks, .ok, u8 ks.length) := by
  have hread : readMarkSold (h.bytes ++ u32 sale ++ u8 ty.val ++ seatList ks) = some (h, sale, ty.val, ks) := by
    have hty : ty.val % 256 = ty.val := Nat.mod_eq_of_lt (by omega)
    have hl : ks.length % 256 = ks.length := Nat.mod_eq_of_lt (by omega)
    have hlist := readList16_flatMap ks [] fun k hk => (hks k hk).2.1
    rw [List.append_nil] at hlist
    simp [readMarkSold, seatList, List.append_assoc, readHandle_bytes _ _ hgen, Nat.mod_eq_of_lt hsale, hty, hl, hlist]
  have hany : ks.any (fun k => decide ((s.showAt h.index).seatCount ≤ k)) = false :=
    List.any_eq_false.2 fun k hk => by simpa using (hks k hk).1
  have hbad : ¬ (ks.length = 0 ∨ 40 < ks.length ∨ noRepeat ks = false
      ∨ ks.any (fun k => decide ((s.showAt h.index).seatCount ≤ k)) = true) := by
    rw [hnr, hany]
    simp only [Bool.true_eq_false, Bool.false_eq_true, or_false]
    omega
  have hfree : ks.filter (fun k => (s.seatAt h.index k).state.isTaken) = [] := List.filter_eq_nil_iff.2 fun k hk => by
    rcases (hks k hk).2.2 with e | e <;> rw [e] <;> simp [SeatState.isTaken]
  rw [markSold, hread]
  dsimp only
  rw [withShow_eq hcur (by rcases hst with e | e <;> simp [e]), toFin_val]
  dsimp only
  rw [if_neg hbad, if_neg (not_not.2 hfree)]
  rfl

/-- Settles O9: Set Seat by the state it finds, Mark Sold as one change of every seat of its list. -/
theorem seatsMarkedByManagement : Obligations.SeatsMarkedByManagement := by
  unfold Obligations.SeatsMarkedByManagement
  intro tag h s hgen hcur
  refine ⟨fun k htake hne hk hk16 => ⟨fun hst => ?_, fun hst => ?_⟩, fun sale ty ks htake hst hsale hn1 hn2 hnr hks => ?_⟩
  · exact runCommand_replies (c := .setSeat) htake (setSeatCommand_toggles hgen hcur hne hk hk16 hst (.inl ⟨rfl, rfl⟩))
      (State.restartPending_of_takes htake)
  · exact runCommand_replies (c := .setSeat) htake (setSeatCommand_toggles hgen hcur hne hk hk16 hst (.inr ⟨rfl, rfl⟩))
      (State.restartPending_of_takes htake)
  · have hw := s.eachSeat_seatStep h.index (fun _ => .sold sale ty) ks
    refine ⟨_, runCommand_replies (c := .markSold) htake (markSold_eq hgen hcur hst hsale hn1 hn2 hnr hks)
      (hw.restartPending (State.restartPending_of_takes htake)), fun k hk => ?_, hw.pool, hw.dir, ?_, hw.replied_eq _ _ _ _⟩
    · show (s.eachSeat h.index (fun _ => .sold sale ty) ks).seatAt h.index k = _
      rw [State.seatAt_eachSeat _ _ (g := fun _ => .sold sale ty) fun _ => rfl, if_pos hk]
    · exact s.counts_sold h.index sale ty ((noRepeat_iff ks).1 hnr) fun k hk => (hks k hk).2.2

end Sys2Proof.Machine
end

section
/-! HELD seats lost by Release Block and by the expiry of leases (O10): a pass over seats at distinct pool addresses, each lost with
its line, and what the passes leave to each basket. -/

namespace Sys2Proof.Machine

/-! ## A basket that loses several seats (R21) -/

theorem Basket.lostSeats_congr (b : Basket) {f g : Nat → Bool} (h : ∀ k, f k = g k) : b.lostSeats f = b.lostSeats g := by
  rw [show f = g from funext h]

theorem Basket.loseSeat_eq (b : Basket) (k : Nat) : b.loseSeat k = b.lostSeats (fun n => decide (n = k)) := by
  have hlines : b.seatLines.filter (fun l => decide (l.seat ≠ k)) = b.seatLines.filter (fun l => !decide (l.seat = k)) :=
    List.filter_congr fun l _ => by simp
  unfold Basket.loseSeat Basket.lostSeats Basket.dropSeat
  rw [hlines]

/-- A basket that holds nothing holds nothing with fewer lines. -/
theorem Basket.holds_of_subset {b : Basket} {ls : List SeatLine} (h : b.holds = false) (hsub : ∀ l ∈ ls, l ∈ b.seatLines) :
    Basket.holds { b with seatLines := ls } = false := by
  simp only [Basket.holds, Bool.not_eq_false', Bool.and_eq_true, List.isEmpty_iff] at h ⊢
  refine ⟨⟨List.eq_nil_iff_forall_not_mem.2 fun l hl => ?_, h.1.2⟩, h.2⟩
  have := hsub l hl
  rw [h.1.1] at this
  exact List.not_mem_nil this

/-- Losing one seat after some is losing them together. -/
theorem Basket.loseSeat_lostSeats (b : Basket) (f : Nat → Bool) (k : Nat) :
    (b.lostSeats f).loseSeat k = b.lostSeats (fun n => f n || decide (n = k)) := by
  have hlines : (b.seatLines.filter (fun l => !f l.seat)).filter (fun l => !decide (l.seat = k))
      = b.seatLines.filter (fun l => !(f l.seat || decide (l.seat = k))) := by
    rw [List.filter_filter]
    refine List.filter_congr fun l _ => ?_
    cases f l.seat <;> simp
  rw [Basket.loseSeat_eq]
  unfold Basket.lostSeats
  dsimp only
  generalize b.seatLines.filter (fun l => !f l.seat) = ls at hlines
  rw [← hlines]
  by_cases h : Basket.holds { b with seatLines := ls } = false
  · have h' := Basket.holds_of_subset h (ls := ls.filter fun l => !decide (l.seat = k)) fun l hl => (List.mem_filter.1 hl).1
    rw [if_pos h, if_pos h', if_pos]
    exact h'
  · rw [if_neg h]
    by_cases hp : b.state = .priced
    · rw [if_pos hp]
      dsimp only
      rw [if_neg (show ¬ BasketState.building = .priced by simp), if_pos hp]
      rfl
    · rw [if_neg hp]

theorem Basket.foldl_loseSeat (b : Basket) {ls : List Nat} {f : Nat → Bool} {any : Bool} (hf : ∀ k, f k = true ↔ k ∈ ls)
    (hs : any = true ↔ ∃ k, k ∈ ls) : ls.foldl Basket.loseSeat b = if any then b.lostSeats f else b := by
  have key : ∀ (ks : List Nat) (g : Nat → Bool),
      ks.foldl Basket.loseSeat (b.lostSeats g) = b.lostSeats (fun n => g n || ks.contains n) := by
    intro ks
    induction ks with
    | nil => exact fun g => b.lostSeats_congr fun k => by simp
    | cons k ks ih =>
      intro g
      rw [List.foldl_cons, Basket.loseSeat_lostSeats, ih]
      exact b.lostSeats_congr fun n => by simp [Bool.or_assoc]
  cases ls with
  | nil =>
    rw [if_neg (by rw [hs]; simp)]
    rfl
  | cons k ks =>
    rw [if_pos (hs.2 ⟨k, by simp⟩), List.foldl_cons, Basket.loseSeat_eq, key]
    refine b.lostSeats_congr fun n => ?_
    rw [Bool.eq_iff_iff, hf]
    simp

/-! ## A pass over seats -/

/-- One seat of a pass that loses the seats of a kind. -/
def State.loseWhere (c : SeatState → Bool) (s : State) (x : ShowNo × Nat) : State :=
  if c (s.seatAt x.1 x.2).state then s.loseHeld x.1 x.2 else s

/-- What a pass over some seats that loses those of a kind does. -/
structure State.LossPass (c : SeatState → Bool) (s t : State) (xs : List (ShowNo × Nat)) : Prop where
  lost : ∀ a ∈ xs.map (fun x => s.seatAddress x.1 x.2), c (s.poolSeat a).state = true →
    t.poolSeat a = { s.poolSeat a with state := (s.poolSeat a).state.givenUp }
  kept : ∀ a, (a ∈ xs.map (fun x => s.seatAddress x.1 x.2) → ¬ c (s.poolSeat a).state = true) → t.poolSeat a = s.poolSeat a
  baskets : ∀ p, t.basket p = ((xs.filter fun x => c (s.seatAt x.1 x.2).state && (s.seatAt x.1 x.2).state.heldBy p).map
    Prod.snd).foldl Basket.loseSeat (s.basket p)
  counts : ∀ j, t.showAt j = { s.showAt j with counts := (t.showAt j).counts }
  others : ∀ j, (∀ x ∈ xs, x.1 ≠ j) → t.showAt j = s.showAt j
  frame : t = { s with seats := { s.seats with shows := t.seats.shows, pool := t.seats.pool }, baskets := t.baskets }

/-- A HELD seat that is lost, by its Owner Port. -/
theorem State.loseHeld_of_held {s : State} {i : ShowNo} {k : Nat} {p : PortNo} {l : Nat} {ho : Bool}
    (h : (s.seatAt i k).state = .held p l ho) :
    s.loseHeld i k = (s.giveUpSeat i k).setBasket p ((s.basket p).loseSeat k) := by
  unfold State.loseHeld
  rw [h]
  rfl

section
variable {c : SeatState → Bool} (hc : ∀ x, c x = true → x.isHeld = true)
include hc

theorem State.loseWhere_pass (s : State) (x : ShowNo × Nat) : State.LossPass c s (s.loseWhere c x) [x] := by
  obtain ⟨i, k⟩ := x
  unfold State.loseWhere
  dsimp only
  split
  · rename_i hk
    cases hst : (s.seatAt i k).state with
    | held p l ho =>
      have hw := s.setSeatState_seatStep i k (s.seatAt i k).state.givenUp
      rw [State.loseHeld_of_held hst]
      refine ⟨fun a ha _ => ?_, fun a ha => ?_, fun q => ?_, hw.dir.counts,
        fun j hj => hw.dir.1 j fun e => hj (i, k) (by simp) e.symm, rfl⟩
      · rw [List.map_singleton, List.mem_singleton] at ha
        subst ha
        show (s.setSeatState i k (s.seatAt i k).state.givenUp).poolSeat _ = _
        rw [State.setSeatState, State.poolSeat_setSeat, if_pos rfl]
        rfl
      · refine hw.pool a fun hin => ha hin ?_
        obtain rfl : a = s.seatAddress i k := List.mem_singleton.1 hin
        exact hk
      · rw [State.basket_setBasket]
        have hb : (s.giveUpSeat i k).basket q = s.basket q := State.basket_of_baskets rfl q
        by_cases hq : q = p
        · subst hq
          rw [if_pos rfl]
          rw [hst] at hk
          simp [hst, hk, SeatState.heldBy]
        · rw [if_neg hq, hb]
          simp [hst, SeatState.heldBy, Ne.symm hq]
    | free | house | pending | sold =>
      have := hc _ hk
      rw [hst] at this
      exact absurd this Bool.false_ne_true
  · rename_i hk
    refine ⟨fun a ha hca => ?_, fun _ _ => rfl, fun q => by simp [hk], fun _ => rfl, fun _ _ => rfl, rfl⟩
    obtain rfl : a = s.seatAddress i k := List.mem_singleton.1 ha
    exact absurd hca hk

/-- Seats at distinct addresses are each found as they were when the pass began. -/
theorem State.losePass (s : State) (xs : List (ShowNo × Nat)) (hnd : (xs.map fun x => s.seatAddress x.1 x.2).Nodup) :
    State.LossPass c s (xs.foldl (State.loseWhere c) s) xs := by
  induction xs generalizing s with
  | nil => exact ⟨fun a ha => absurd ha List.not_mem_nil, fun _ _ => rfl, fun q => rfl, fun _ => rfl, fun _ _ => rfl, rfl⟩
  | cons x xs ih =>
    have h1 := State.loseWhere_pass hc s x
    have hm : s.mapKept (s.loseWhere c x) := State.mapKept_of_counts h1.counts
    have haddr : (fun y : ShowNo × Nat => (s.loseWhere c x).seatAddress y.1 y.2) = fun y => s.seatAddress y.1 y.2 :=
      funext fun y => hm.seatAddress _ _
    rw [List.map_cons, List.nodup_cons] at hnd
    have h2 := ih (s.loseWhere c x) (by rw [haddr]; exact hnd.2)
    have hapart : ∀ a ≠ s.seatAddress x.1 x.2, (s.loseWhere c x).poolSeat a = s.poolSeat a := fun a ha =>
      h1.kept a fun hin => absurd (List.mem_singleton.1 hin) ha
    have hlater : ∀ a ∈ xs.map (fun y => s.seatAddress y.1 y.2), a ≠ s.seatAddress x.1 x.2 := fun a ha he =>
      hnd.1 (he ▸ ha)
    have hsame : ∀ y ∈ xs, (s.loseWhere c x).seatAt y.1 y.2 = s.seatAt y.1 y.2 := fun y hy => by
      rw [State.seatAt_eq_poolSeat, hm.seatAddress, hapart _ (hlater _ (List.mem_map_of_mem hy))]
      rfl
    refine ⟨fun a ha hca => ?_, fun a ha => ?_, fun q => ?_, fun j => ?_, fun j hj => ?_, ?_⟩
    · rw [List.foldl_cons]
      rcases List.mem_cons.1 ha with rfl | hin
      · rw [h2.kept _ fun hin => absurd rfl (hlater _ (by rwa [haddr] at hin)), h1.lost _ (by simp) hca]
      · rw [h2.lost a (by rwa [haddr]) (by rwa [hapart a (hlater a hin)]), hapart a (hlater a hin)]
    · rw [List.foldl_cons]
      by_cases hax : a = s.seatAddress x.1 x.2
      · rw [h2.kept a fun hin => absurd hax (hlater a (by rwa [haddr] at hin)),
          h1.kept a fun _ => ha (by rw [hax]; simp)]
      · rw [h2.kept a (by rw [haddr, hapart a hax]; exact fun hin => ha (List.mem_cons_of_mem _ hin)), hapart a hax]
    · rw [List.foldl_cons, h2.baskets, h1.baskets, ← List.foldl_append, ← List.map_append]
      congr 2
      rw [List.filter_congr (l := xs) fun y hy => by rw [hsame y hy], ← List.filter_append]
      rfl
    · rw [List.foldl_cons, h2.counts j, h1.counts j]
    · rw [List.foldl_cons, h2.others j fun y hy => hj y (by simp [hy]), h1.others j fun y hy => hj y (by rw [List.mem_singleton.1 hy]; simp)]
    · rw [List.foldl_cons, h2.frame, h1.frame]

end

/-! ## Release Block (R20) -/

theorem State.loseHeld_eq_loseWhere (s : State) (i : ShowNo) (k : Nat) :
    s.loseHeld i k = s.loseWhere SeatState.isHeld (i, k) := by
  unfold State.loseWhere
  dsimp only
  split
  · rfl
  · rename_i hk
    unfold State.loseHeld
    split
    · rename_i hst
      rw [hst] at hk
      exact absurd rfl hk
    · rfl

theorem blockSeats_nodup (n block : Nat) : (blockSeats n block).Nodup := by
  refine List.Nodup.filterMap (fun j j' k hj hj' => ?_) List.nodup_range
  simp only [Option.mem_def, Option.ite_none_right_eq_some, Option.some.injEq] at hj hj'
  omega

theorem releaseBlock_eq {h : Handle} {s : State} {block : Nat} (hgen : h.generation < 256)
    (hcur : (s.showAt h.index).generation = h.generation) (hne : (s.showAt h.index).state ≠ .empty) (hb : block < 256)
    (hn : 16 * block < (s.showAt h.index).seatCount) :
    releaseBlock (h.bytes ++ u8 block) s =
      ((((blockSeats (s.showAt h.index).seatCount block).filter fun k => (s.seatAt h.index k).state.isHeld).map
          fun k => (h.index, k)).foldl (State.loseWhere SeatState.isHeld) s, .ok,
        u8 ((blockSeats (s.showAt h.index).seatCount block).filter fun k => (s.seatAt h.index k).state.isHeld).length) := by
  have hread : readReleaseBlock (h.bytes ++ u8 block) = some (h, block) := by
    simp [readReleaseBlock, readHandle_bytes _ _ hgen, Nat.mod_eq_of_lt hb]
  rw [releaseBlock, hread]
  dsimp only
  rw [withShow_eq hcur (ShowState.mem_notEmptyStates hne), if_neg (by omega), List.foldl_map]
  simp only [State.loseHeld_eq_loseWhere]

/-! ## The expiry of leases (R35) -/

/-- Every seat of every show, in the order of a pass over them. -/
def State.mapSeats (s : State) : List (ShowNo × Nat) :=
  allShows.flatMap fun i => if (s.showAt i).state = .empty then [] else (List.range (s.showAt i).seatCount).map fun k => (i, k)

theorem State.mem_mapSeats {s : State} {x : ShowNo × Nat} : x ∈ s.mapSeats ↔ s.inMap x.1 x.2 := by
  obtain ⟨i, k⟩ := x
  unfold State.mapSeats State.inMap
  rw [List.mem_flatMap]
  constructor
  · rintro ⟨j, -, hx⟩
    split at hx
    · exact absurd hx List.not_mem_nil
    · rename_i hj
      obtain ⟨n, hn, he⟩ := List.mem_map.1 hx
      cases he
      exact ⟨hj, List.mem_range.1 hn⟩
  · rintro ⟨hi, hk⟩
    exact ⟨i, List.mem_finRange i, by rw [if_neg hi]; exact List.mem_map.2 ⟨k, List.mem_range.2 hk, rfl⟩⟩

/-- Where shows lie apart, the seats of all of them lie at distinct addresses (R13). -/
theorem State.mapSeats_addresses_nodup {s : State} (h : s.disjointShows) :
    (s.mapSeats.map fun x => s.seatAddress x.1 x.2).Nodup := by
  refine List.Nodup.map_on (fun x hx y hy he => ?_) ?_
  · obtain ⟨h1, h2⟩ := (h.seatAddress_eq (State.mem_mapSeats.1 hy) (State.mem_mapSeats.1 hx)).1 he
    exact Prod.ext h1 h2
  · refine List.nodup_flatMap.2 ⟨fun i _ => ?_, (List.nodup_finRange 64).imp fun {i j} hij => ?_⟩
    · split
      · exact List.nodup_nil
      · exact List.nodup_range.map fun _ _ he => (Prod.mk.inj he).2
    · intro x hx hy
      have hfst : ∀ {n : ShowNo}, x ∈ (if (s.showAt n).state = .empty then [] else
          (List.range (s.showAt n).seatCount).map fun k => (n, k)) → x.1 = n := fun {n} hm => by
        split at hm
        · exact absurd hm List.not_mem_nil
        · obtain ⟨k, -, rfl⟩ := List.mem_map.1 hm
          rfl
      exact hij ((hfst hx).symm.trans (hfst hy))

/-- A pass over every seat of every show, as a pass over one list of seats. -/
theorem State.forSeats_eq_foldl {f : State → ShowNo → Nat → State} (hf : ∀ (t : State) i k, t.mapKept (f t i k)) (s : State) :
    s.forSeats f = s.mapSeats.foldl (fun t x => f t x.1 x.2) s := by
  have hinner : ∀ (ks : List Nat) (i : ShowNo) (t : State), s.mapKept t → s.mapKept (ks.foldl (fun t k => f t i k) t) :=
    fun ks i t ht => foldl_keeps (P := fun t => s.mapKept t) (fun u k hu => hu.trans (hf u i k)) ks ht
  have key : ∀ (is : List ShowNo) (t : State), s.mapKept t →
      is.foldl (fun t i => if (t.showAt i).state = .empty then t
        else (List.range (t.showAt i).seatCount).foldl (fun t k => f t i k) t) t
      = (is.flatMap fun i => if (s.showAt i).state = .empty then [] else
          (List.range (s.showAt i).seatCount).map fun k => (i, k)).foldl (fun t x => f t x.1 x.2) t := by
    intro is
    induction is with
    | nil => exact fun _ _ => rfl
    | cons i is ih =>
      intro t ht
      rw [List.foldl_cons, List.flatMap_cons, List.foldl_append]
      by_cases hi : (s.showAt i).state = .empty
      · rw [if_pos ((ht.empty i).2 hi), if_pos hi]
        exact ih t ht
      · rw [if_neg (fun he => hi ((ht.empty i).1 he)), if_neg hi, ht.seatCount, List.foldl_map]
        exact ih _ (hinner _ i t ht)
  exact key allShows s (.refl s)

theorem SeatState.isHeld_of_lapsedLease (x : SeatState) (h : x.lapsedLease = true) : x.isHeld = true := by
  cases x with
  | held => rfl
  | free | house | pending | sold => exact h

theorem State.expireLeases_eq (s : State) : s.expireLeases = s.mapSeats.foldl (State.loseWhere SeatState.lapsedLease) s :=
  State.forSeats_eq_foldl (fun t i k => State.mapKept_of_counts
    (State.loseWhere_pass SeatState.isHeld_of_lapsedLease t (i, k)).counts) s

/-! ## What the two passes give back -/

theorem SeatState.isHeld_of_heldBy {p : PortNo} {x : SeatState} (h : x.heldBy p = true) : x.isHeld = true := by
  obtain ⟨l, ho, rfl⟩ := SeatState.heldBy_iff.1 h
  rfl

/-- What a pass over seats of one show gives back. -/
theorem State.LossPass.seatsReturned {s t : State} {i : ShowNo} {ks : List Nat}
    (h : State.LossPass SeatState.isHeld s t (ks.map fun k => (i, k))) (hks : ∀ k ∈ ks, (s.seatAt i k).state.isHeld = true) :
    s.seatsReturned t i ks := by
  have haddr : (ks.map fun k => (i, k)).map (fun x : ShowNo × Nat => s.seatAddress x.1 x.2) = s.seatAddresses i ks := by
    rw [List.map_map]; rfl
  have hm : s.mapKept t := State.mapKept_of_counts h.counts
  refine ⟨fun k hk => ?_, fun a ha => ?_, fun j hj => h.others j fun x hx => ?_, h.counts i⟩
  · rw [State.seatAt_eq_poolSeat, hm.seatAddress]
    exact h.lost _ (by rw [haddr]; exact List.mem_map_of_mem hk) (hks k hk)
  · exact h.kept a fun hin => absurd (haddr ▸ hin) ha
  · obtain ⟨k, -, rfl⟩ := List.mem_map.1 hx
    exact Ne.symm hj

theorem State.LossPass.basket_eq {c : SeatState → Bool} {s t : State} {xs : List (ShowNo × Nat)} (h : State.LossPass c s t xs)
    (p : PortNo) {f : Nat → Bool} {any : Bool}
    (hf : ∀ k, f k = true ↔ ∃ i, (i, k) ∈ xs ∧ c (s.seatAt i k).state = true ∧ (s.seatAt i k).state.heldBy p = true)
    (hs : any = true ↔ ∃ k, f k = true) : t.basket p = if any then (s.basket p).lostSeats f else s.basket p := by
  have hmem : ∀ k, f k = true ↔ k ∈ (xs.filter fun x => c (s.seatAt x.1 x.2).state
      && (s.seatAt x.1 x.2).state.heldBy p).map Prod.snd := fun k => by
    rw [hf, List.mem_map]
    constructor
    · rintro ⟨i, hx, hc, hp⟩
      exact ⟨(i, k), List.mem_filter.2 ⟨hx, by simp [hc, hp]⟩, rfl⟩
    · rintro ⟨⟨i, n⟩, hx, rfl⟩
      obtain ⟨hx, hcp⟩ := List.mem_filter.1 hx
      rw [Bool.and_eq_true] at hcp
      exact ⟨i, hx, hcp.1, hcp.2⟩
  rw [h.baskets, Basket.foldl_loseSeat _ hmem]
  rw [hs]
  exact exists_congr hmem

/-- Settles O10: a block's seats, and under disjointShows the seats of every show, lie at distinct addresses, so that each is lost
as it was found; and a basket that loses its seats one by one loses them together. -/
theorem heldSeatsLeaveTheirBaskets : Obligations.HeldSeatsLeaveTheirBaskets := by
  unfold Obligations.HeldSeatsLeaveTheirBaskets
  refine ⟨fun tag h block s hgen hcur hne htake hb hn => ?_, fun s hrun hd => ?_⟩
  · intro ks held
    have hbody := releaseBlock_eq hgen hcur hne hb hn
    have hheld : ks.filter held = ks.filter fun k => (s.seatAt h.index k).state.isHeld :=
      List.filter_congr fun k hk => by
        show (ks.contains k && _) = _
        rw [List.contains_iff_mem.2 hk, Bool.true_and]
    have hnd : (((ks.filter fun k => (s.seatAt h.index k).state.isHeld).map fun k => (h.index, k)).map
        fun x : ShowNo × Nat => s.seatAddress x.1 x.2).Nodup := by
      rw [List.map_map]
      exact ((blockSeats_nodup _ _).filter _).map fun k n he => (s.seatAddress_inj h.index k n).1 he
    have hpass := State.losePass (c := SeatState.isHeld) (fun _ hx => hx) s _ hnd
    generalize hu : List.foldl _ s _ = u at hpass
    have hbody' : releaseBlock (h.bytes ++ u8 block) s = (u, .ok, u8 (ks.filter held).length) := by rw [hbody, hu, hheld]
    refine ⟨_, runCommand_replies (c := .releaseBlock) htake hbody'
      (by rw [hpass.frame]; exact State.restartPending_of_takes htake), ?_, fun p => ?_, ?_⟩
    · rw [hheld]
      exact hpass.seatsReturned fun k hk => (List.mem_filter.1 hk).2
    · refine hpass.basket_eq p (fun k => ?_) ?_
      · simp only [Bool.and_eq_true, List.contains_iff_mem, List.mem_map, List.mem_filter, Prod.mk.injEq]
        constructor
        · rintro ⟨hk, hp⟩
          have hh := SeatState.isHeld_of_heldBy hp
          exact ⟨h.index, ⟨k, ⟨hk, hh⟩, rfl, rfl⟩, hh, hp⟩
        · rintro ⟨i, ⟨n, ⟨hk, -⟩, rfl, rfl⟩, -, hp⟩
          exact ⟨hk, hp⟩
      · simp only [List.any_eq_true, Bool.and_eq_true, List.contains_iff_mem]
    · conv_lhs => rw [hpass.frame]
      rfl
  · have hpass := State.losePass SeatState.isHeld_of_lapsedLease s _ (State.mapSeats_addresses_nodup hd)
    rw [← State.expireLeases_eq] at hpass
    have hm : s.mapKept s.expireLeases := State.mapKept_of_counts hpass.counts
    refine ⟨s.expireLeases, ?_, fun i k hi hk => ?_, fun p => ?_, hpass.frame⟩
    · show execLeaseExpiry s = _
      rw [execLeaseExpiry, if_pos hrun]
    · have hmem : s.seatAddress i k ∈ s.mapSeats.map fun x => s.seatAddress x.1 x.2 :=
        List.mem_map_of_mem (f := fun x : ShowNo × Nat => s.seatAddress x.1 x.2) (State.mem_mapSeats (x := (i, k)).2 ⟨hi, hk⟩)
      rw [State.seatAt_eq_poolSeat, hm.seatAddress]
      split
      · rename_i hl
        exact hpass.lost _ hmem hl
      · rename_i hl
        exact hpass.kept _ fun _ => hl
    · refine hpass.basket_eq p (fun k => ?_) ?_
      · simp only [List.any_eq_true, State.lapsedSeat, Bool.and_eq_true, decide_eq_true_eq, State.mem_mapSeats, State.inMap]
        constructor
        · rintro ⟨i, -, ⟨⟨hi, hk⟩, hl⟩, hp⟩
          exact ⟨i, ⟨hi, hk⟩, hl, hp⟩
        · rintro ⟨i, ⟨hi, hk⟩, hl, hp⟩
          exact ⟨i, List.mem_finRange i, ⟨⟨hi, hk⟩, hl⟩, hp⟩
      · simp only [List.any_eq_true, State.lapsedSeat, Bool.and_eq_true, decide_eq_true_eq, List.mem_range]
        constructor
        · rintro ⟨i, hi, k, -, h⟩
          exact ⟨k, i, hi, h⟩
        · rintro ⟨k, i, hi, h⟩
          exact ⟨i, hi, k, h.1.1.2, h⟩

end Sys2Proof.Machine
end

section
/-! The commands that read (O14). -/

namespace Sys2Proof.Machine

/-- A command whose body reports and changes nothing replies and changes nothing else. -/
theorem runCommand_reads {c : Command} {tag : Byte} {args : Bytes} {s : State} {r : Result} {content : Bytes}
    (h : s.takesCommand (some c) = true) (hb : c.body args s = (s, r, content)) :
    runCommand c tag args s = .next (s.replied c tag r content) :=
  runCommand_replies h hb (State.restartPending_of_takes h)

theorem readSeats_eq {h : Handle} {s : State} {first n : Nat} (hgen : h.generation < 256)
    (hcur : (s.showAt h.index).generation = h.generation) (hne : (s.showAt h.index).state ≠ .empty) (hfirst : first < 65536)
    (hn : n ≤ 100) (hcount : first + n ≤ (s.showAt h.index).seatCount) :
    readSeats (h.bytes ++ u16 first ++ u8 n) s = (s, .ok,
      u8 (s.showAt h.index).state.code ++ u8 (s.showAt h.index).generation ++ u16 (s.showAt h.index).seatCount
        ++ u8 (s.showAt h.index).priceBand.val ++ (s.showAt h.index).counts.bytes ++ u16 (s.unloaded h.index)
        ++ (List.range n).flatMap (fun j => (s.seatAt h.index (first + j)).bytes)) := by
  have hread : readReadSeats (h.bytes ++ u16 first ++ u8 n) = some (h, first, n) := by
    simp [readReadSeats, List.append_assoc, readHandle_bytes _ _ hgen, Nat.mod_eq_of_lt hfirst,
      Nat.mod_eq_of_lt (show n < 256 by omega)]
  rw [readSeats, hread]
  dsimp only
  rw [withShow_eq hcur (ShowState.mem_notEmptyStates hne), if_neg (by omega)]

/-! ## SEAT_QUERY (R24, R25) -/

theorem State.seatStatus_pending (s : State) (p : PortNo) (t : Nat) (ho : Bool) : s.seatStatus p (.pending t ho) =
    if ∃ e ∈ s.relay.entries, e.tag = t ∧ e.state ≠ .lost ∧ e.origin = p then 5 else 6 := by
  refine if_congr ?_ rfl rfl
  simp only [List.any_eq_true, Bool.and_eq_true, decide_eq_true_eq, and_assoc]

theorem State.sellerCheck_none {s : State} {p : PortNo} (hf : s.control.foyer ≠ .unconfigured) (hr : (s.port p).role ≠ .counter) :
    s.sellerCheck p = none := by
  rw [State.sellerCheck, if_neg hf, if_neg hr]

theorem seatQuery_eq {h : Handle} {s : State} {p : PortNo} {start n : Nat} (hseller : s.sellerCheck p = none)
    (hcur : h.generation = (s.showAt h.index).generation) (hgen : h.generation < 256)
    (hst : (s.showAt h.index).state = .onSale ∨ (s.showAt h.index).state = .closed) (hstart : start < 65536) (hn1 : 1 ≤ n)
    (hn2 : n ≤ 200) (hcount : start + n ≤ (s.showAt h.index).seatCount) :
    seatQuery p (h.bytes ++ u16 start ++ u8 n) s = (s, .ok, h.bytes ++ u16 start ++ u8 n
      ++ (List.range n).flatMap (fun j => u8 (s.seatStatus p (s.seatAt h.index (start + j)).state))
      ++ u16 (s.showAt h.index).counts.free) := by
  have hread : readSeatQuery (h.bytes ++ u16 start ++ u8 n) = some (h, start, n) := by
    simp [readSeatQuery, List.append_assoc, readHandle_bytes _ _ hgen, Nat.mod_eq_of_lt hstart,
      Nat.mod_eq_of_lt (show n < 256 by omega), hn1, hn2]
  have hcurrent : s.current h = true := by
    rcases hst with e | e <;> simp [State.current, hcur, e]
  have hsale : ¬ ((s.showAt h.index).state ≠ .onSale ∧ (s.showAt h.index).state ≠ .closed) := fun hc =>
    hst.elim hc.1 hc.2
  rw [seatQuery, hseller]
  dsimp only
  rw [hread]
  dsimp only
  rw [if_neg hsale, if_neg (by rw [hcurrent]; simp), if_neg (by omega)]

/-! ## Windows on lists -/

theorem readFirstCount_bytes {first n : Nat} (hf : first < 256) (hn : n < 256) :
    readFirstCount (u8 first ++ u8 n) = some (first, n) := by
  simp [readFirstCount, Nat.mod_eq_of_lt hf, Nat.mod_eq_of_lt hn]

theorem goodWindow_iff {limit most first n : Nat} :
    goodWindow limit most first n = true ↔ first < limit ∧ 1 ≤ n ∧ n ≤ most ∧ first + n ≤ limit := by
  simp [goodWindow]

theorem goodWindow_eq_false {limit most first n : Nat} (h : n = 0 ∨ most < n ∨ limit < first + n) :
    goodWindow limit most first n = false := by
  rw [← Bool.not_eq_true, goodWindow_iff]
  omega

theorem readAuthorisations_eq {first n : Nat} (hn1 : 1 ≤ n) (hn2 : n ≤ 8) (hcount : first + n ≤ 24) (s : State) :
    readAuthorisations (u8 first ++ u8 n) s = (s, .ok,
      u8 s.relay.entries.length ++ u8 (s.relay.entries.filter AuthEntry.isActive).length ++ flag s.relay.gatewayHold
        ++ u16 s.relay.authTimeout ++ u16 s.relay.tagCounter ++ u32 s.relay.saleCounter ++ flag s.relay.saleLoaded
        ++ u16 s.vouchers.reservation ++ u8 ((s.relay.entries.drop first).take n).length
        ++ ((s.relay.entries.drop first).take n).flatMap AuthEntry.bytes) := by
  have hgood : goodWindow 24 8 first n = true := goodWindow_iff.2 (by omega)
  rw [readAuthorisations, readFirstCount_bytes (by omega) (by omega)]
  dsimp only
  rw [if_neg (by rw [hgood]; simp)]

theorem readVoucher_eq {s : State} {serial n : Nat} {x : Slot} (h1 : 1 ≤ serial) (h2 : serial < 16777216)
    (hslot : s.slotOf serial = some (n, x)) : readVoucher (u24 serial) s = (s, .ok, u16 n ++ x.bytes) := by
  have hread : readSerial (u24 serial) = some serial := by
    simp [readSerial, Nat.mod_eq_of_lt h2, Nat.ne_of_gt h1]
  rw [readVoucher, hread]
  dsimp only
  rw [hslot]

/-! ## Read Prices (R75) -/

theorem readPrices_eq {args : Bytes} {staged : Bool} {sec : PriceSection} (s : State)
    (hread : readPricesArgs args = some (staged, sec)) (hin : sec.inRange = true) :
    readPrices args s = (s, .ok,
      (if staged then s.prices.staged else s.prices.live).section sec ++ u8 s.prices.generation ++ flag s.prices.committed) := by
  rw [readPrices, hread]
  dsimp only
  rw [if_neg (by rw [hin]; simp), State.priceState, List.append_assoc]

theorem readPrices_refused {args : Bytes} (s : State)
    (hread : ∀ (staged : Bool) (sec : PriceSection), readPricesArgs args = some (staged, sec) → sec.inRange = false) :
    readPrices args s = (s, .badArg, u8 s.prices.generation ++ flag s.prices.committed) := by
  rw [readPrices]
  cases hr : readPricesArgs args with
  | none => rfl
  | some x =>
    dsimp only
    rw [if_pos (hread x.1 x.2 hr)]
    rfl

/-! ## Read Print Status (R153) -/

theorem readPrintSection_channels : readPrintSection (u8 0) = some .channels := rfl

theorem readPrintSection_queue {first n : Nat} (hf : first < 256) (hn : n < 256) :
    readPrintSection (u8 1 ++ u8 first ++ u8 n) = some (.queue first n) := by
  simp [readPrintSection, List.append_assoc, readFirstCount_bytes hf hn]

theorem readPrintSection_owed {first n : Nat} (hf : first < 256) (hn : n < 256) :
    readPrintSection (u8 2 ++ u8 first ++ u8 n) = some (.owed first n) := by
  simp [readPrintSection, List.append_assoc, readFirstCount_bytes hf hn]

theorem readPrintStatus_queue {first n : Nat} (hn1 : 1 ≤ n) (hn2 : n ≤ 8) (hcount : first + n ≤ 32) (s : State) :
    readPrintStatus (u8 1 ++ u8 first ++ u8 n) s = (s, .ok, s.printCounts ++ u8 ((s.print.jobs.drop first).take n).length
      ++ ((s.print.jobs.drop first).take n).flatMap s.jobBytes) := by
  have hgood : goodWindow 32 8 first n = true := goodWindow_iff.2 (by omega)
  rw [readPrintStatus, readPrintSection_queue (by omega) (by omega)]
  dsimp only
  rw [if_neg (by rw [hgood]; simp)]

theorem readPrintStatus_owed {first n : Nat} (hn1 : 1 ≤ n) (hn2 : n ≤ 8) (hcount : first + n ≤ 64) (s : State) :
    readPrintStatus (u8 2 ++ u8 first ++ u8 n) s = (s, .ok, s.printCounts ++ u8 ((s.print.owed.drop first).take n).length
      ++ ((s.print.owed.drop first).take n).flatMap OwedEntry.bytes) := by
  have hgood : goodWindow 64 8 first n = true := goodWindow_iff.2 (by omega)
  rw [readPrintStatus, readPrintSection_owed (by omega) (by omega)]
  dsimp only
  rw [if_neg (by rw [hgood]; simp)]

theorem readPrintStatus_badSection {args : Bytes} (h : readPrintSection args = none) (s : State) :
    readPrintStatus args s = (s, .badArg, s.printCounts) := by
  rw [readPrintStatus, h]
  rfl

theorem readPrintStatus_badQueue {first n : Nat} (hf : first < 256) (hn : n < 256) (h : n = 0 ∨ 8 < n ∨ 32 < first + n)
    (s : State) : readPrintStatus (u8 1 ++ u8 first ++ u8 n) s = (s, .badArg, s.printCounts) := by
  rw [readPrintStatus, readPrintSection_queue hf hn]
  dsimp only
  rw [if_pos (goodWindow_eq_false h)]
  rfl

theorem readPrintStatus_badOwed {first n : Nat} (hf : first < 256) (hn : n < 256) (h : n = 0 ∨ 8 < n ∨ 64 < first + n)
    (s : State) : readPrintStatus (u8 2 ++ u8 first ++ u8 n) s = (s, .badArg, s.printCounts) := by
  rw [readPrintStatus, readPrintSection_owed hf hn]
  dsimp only
  rw [if_pos (goodWindow_eq_false h)]
  rfl

/-! ## Read Store, Read Port and Read Foyer Status (R165, R180, R199) -/

theorem readStore_eq {s : State} {a n : Nat} (hn1 : 1 ≤ n) (hn2 : n ≤ 200) (hend : a + n ≤ 131072)
    (hidle : ∀ op, s.store.operation = some op → ∀ k ∈ touched a n, op.works k = false) :
    readStore (u24 a ++ u8 n) s = (s, .ok,
      s.store.bytes a n ++ (touched a n).flatMap (fun k => u8 k.val ++ flag s.store.unsettled[k])) := by
  have hread : readReadStore (u24 a ++ u8 n) = some (a, n) := by
    simp [readReadStore, Nat.mod_eq_of_lt (show a < 16777216 by omega), Nat.mod_eq_of_lt (show n < 256 by omega)]
  rw [readStore, hread]
  dsimp only
  rw [if_neg (by omega)]
  cases hop : s.store.operation with
  | none => rfl
  | some op =>
    have hfree : (touched a n).any (fun k => op.works k) = false :=
      List.any_eq_false.2 fun k hk => by rw [hidle op hop k hk]; exact Bool.false_ne_true
    dsimp only
    rw [if_neg (by rw [hfree]; exact Bool.false_ne_true)]
    rfl

theorem readPort_eq (p : PortNo) (s : State) : readPort (u8 p.val) s = (s, .ok,
    u8 (s.port p).state.code ++ (s.port p).entryBytes ++ u8 (s.port p).errorCount ++ u8 (s.port p).lastError.code
      ++ u8 (s.port p).replies.length ++ flag (s.port p).kept.isSome ++ u8 (s.upwardOf p).length ++ u8 (s.port p).downPass.length
      ++ flag s.uplink.linkUp) := by
  have hread : readPortNo (u8 p.val) = some p := by
    simp [readPortNo, Nat.mod_eq_of_lt (show p.val < 256 by omega)]
  rw [readPort, hread]

theorem readFoyerStatus_eq (s : State) : readFoyerStatus [] s = (s, .ok,
    u8 s.control.foyer.code ++ flag s.store.siteLock ++ flag (s.relay.saleLoaded && s.vouchers.serialLoaded)
      ++ flag s.prices.committed ++ flag s.control.clockSet ++ u16 s.control.day ++ u24 s.control.seconds
      ++ flag s.control.clockSet ++ u8 s.control.resetCause.code ++ u8 s.control.notices.length ++ flag s.control.noticesLost
      ++ s.control.enables.bytes) := by
  simp [readFoyerStatus, noArgs, State.openConditions]

/-- Settles O14: each layout is read back, each check passes, and the body answers the state it was given. -/
theorem readersReportAndChangeNothing : Obligations.ReadersReportAndChangeNothing := by
  unfold Obligations.ReadersReportAndChangeNothing
  intro tag s
  refine ⟨?readSeats, ?seatQuery, ?readLeaseTimes, ?readPrices, ?readPricesRefused, ?readAuthTimeout, ?readAuthorisations,
    ?readVoucher, ?readVoucherStatus, ?readPrintStatus, ?readStore, ?readStoreStatus, ?readSiteRecord, ?readPort, ?identify,
    ?readFoyerStatus⟩
  case readSeats =>
    intro h first n htake hgen hcur hne hfirst hn hcount
    exact runCommand_reads (c := .readSeats) htake (readSeats_eq hgen hcur hne hfirst hn hcount)
  case seatQuery =>
    intro p h start n hhears hf hr hcur hgen hst hstart hn1 hn2 hcount
    have hrole : ((s.goodFrame p).port p).role ≠ .counter := by rw [State.goodFrame, State.port_setPort, if_pos rfl]; exact hr
    have hbody := seatQuery_eq (s := s.goodFrame p) (State.sellerCheck_none hf hrole) hcur hgen hst hstart hn1 hn2 hcount
    refine (congrArg Host.Outcome.next (State.request_refused hhears .seatQuery tag _ .ok _ hbody)).trans ?_
    refine congrArg (fun c => Host.Outcome.next (s.answered .seatQuery p tag .ok (h.bytes ++ u16 start ++ u8 n ++ c
      ++ u16 (s.showAt h.index).counts.free))) ?_
    refine congrArg (fun f => (List.range n).flatMap f) (funext fun j => congrArg u8 ?_)
    show s.seatStatus p (s.seatAt h.index (start + j)).state = _
    cases (s.seatAt h.index (start + j)).state with
    | pending t ho => exact s.seatStatus_pending p t ho
    | free | house | held | sold => rfl
  case readLeaseTimes => exact fun htake => runCommand_reads (c := .readLeaseTimes) htake rfl
  case readPrices =>
    exact fun args staged sec htake hread hin => runCommand_reads (c := .readPrices) htake (readPrices_eq s hread hin)
  case readPricesRefused =>
    exact fun args htake hread => runCommand_reads (c := .readPrices) htake (readPrices_refused s hread)
  case readAuthTimeout => exact fun htake => runCommand_reads (c := .readAuthTimeout) htake rfl
  case readAuthorisations =>
    exact fun first n htake hn1 hn2 hcount =>
      runCommand_reads (c := .readAuthorisations) htake (readAuthorisations_eq hn1 hn2 hcount s)
  case readVoucher =>
    exact fun serial n x htake h1 h2 hslot => runCommand_reads (c := .readVoucher) htake (readVoucher_eq h1 h2 hslot)
  case readVoucherStatus => exact fun htake => runCommand_reads (c := .readVoucherStatus) htake rfl
  case readPrintStatus =>
    refine fun htake => ⟨?_, fun first n hn1 hn2 hcount => ?_, fun first n hn1 hn2 hcount => ?_, fun args h => ?_,
      fun first n hf hn h => ?_, fun first n hf hn h => ?_⟩
    · exact runCommand_reads (c := .readPrintStatus) htake rfl
    · exact runCommand_reads (c := .readPrintStatus) htake (readPrintStatus_queue hn1 hn2 hcount s)
    · exact runCommand_reads (c := .readPrintStatus) htake (readPrintStatus_owed hn1 hn2 hcount s)
    · exact runCommand_reads (c := .readPrintStatus) htake (readPrintStatus_badSection h s)
    · exact runCommand_reads (c := .readPrintStatus) htake (readPrintStatus_badQueue hf hn h s)
    · exact runCommand_reads (c := .readPrintStatus) htake (readPrintStatus_badOwed hf hn h s)
  case readStore =>
    exact fun a n htake hn1 hn2 hend hidle => runCommand_reads (c := .readStore) htake (readStore_eq hn1 hn2 hend hidle)
  case readStoreStatus => exact fun htake => runCommand_reads (c := .readStoreStatus) htake rfl
  case readSiteRecord => exact fun htake => runCommand_reads (c := .readSiteRecord) htake rfl
  case readPort => exact fun p htake => runCommand_reads (c := .readPort) htake (readPort_eq p s)
  case identify => exact fun htake => runCommand_reads (c := .identify) htake rfl
  case readFoyerStatus => exact fun htake => runCommand_reads (c := .readFoyerStatus) htake (readFoyerStatus_eq s)

end Sys2Proof.Machine
end

section
/-! One dispatch for every predicate that each step keeps: requests by class, commands by code, and the events by name. -/

namespace Sys2Proof.Machine

/-- The commands that stand for no frame and no payload: what the links start and end, time, the store, power and the pins. -/
def isEvent : Instr → Bool
  | .kioskFrameStart _ | .kioskFrameEnd _ | .uplinkFrameStart | .uplinkFrameEnd | .uplinkLinkDown | .uplinkLinkUp | .tick
  | .leaseExpiry | .authTimeout | .printerWaitExpiry _ | .paperWaitExpiry _ | .storeOperationCompletion | .powerOn
  | .resetInputAsserted | .resetInputReleased | .startUp | .keyInputChange _ | .lineIdle _ => true
  | _ => false

/-- What is owed for every step to keep `P`. -/
structure Keeps (P : State → Prop) : Prop where
  queue : ∀ s rest, P s → P { s with pending := rest }
  request : ∀ c p tag payload s, P s → Reaches (Machine.runClass c p tag payload s) P
  command : ∀ c tag args s, P s → P (s.manage c tag (c.body args))
  unknownCode : ∀ tag code s, P s → P (State.unknownCode s tag code)
  emptyCommand : ∀ tag s, P s → P (State.emptyCommand s tag)
  runFailed : ∀ p e s, P s → P (State.runFailed s p e)
  authResponse : ∀ payload s, P s → P (State.authResponse s payload)
  uplinkPass : ∀ port tag payload s, P s → P (State.uplinkPass s port tag payload)
  event : ∀ c s, isEvent c = true → P s → Reaches (Machine.exec c s) P

namespace Keeps

variable {P : State → Prop} {s : State}

theorem kioskRunFailed (h : Keeps P) (p : PortNo) (run : Bytes) (hp : P s) : Reaches (execKioskRunFailed p run s) P := by
  unfold execKioskRunFailed
  split
  · refine ⟨_, rfl, ?_⟩
    split
    · exact hp
    · exact h.runFailed p _ s hp
  · exact h.request _ _ _ _ s hp

theorem unknownCommand (h : Keeps P) (tag : Byte) (payload : Bytes) (hp : P s) :
    Reaches (execUnknownCommand tag payload s) P := by
  unfold execUnknownCommand
  split
  · exact ⟨_, rfl, h.emptyCommand tag s hp⟩
  · split
    · exact ⟨_, runCommand_eq _ _ _ s, h.command _ _ _ s hp⟩
    · exact ⟨_, rfl, h.unknownCode _ _ s hp⟩

theorem uplinkEnvelope (h : Keeps P) (etherType : BitVec 16) (checkOk : Bool) (data : Bytes) (hp : P s) :
    Reaches (execUplinkEnvelopeDiscarded etherType checkOk data s) P := by
  unfold execUplinkEnvelopeDiscarded
  split
  · exact ⟨_, rfl, hp⟩
  · exact h.unknownCommand _ _ hp
  · exact ⟨_, rfl, h.authResponse _ s hp⟩
  · exact ⟨_, rfl, h.uplinkPass _ _ _ s hp⟩

/-- Every command keeps `P`; a management command's arm is `manage` on its body. -/
theorem exec (h : Keeps P) (c : Instr) (hp : P s) : Reaches (Machine.exec c s) P := by
  cases c
  case seatQuery p tag payload => exact h.request .seatQuery p tag payload s hp
  case hold p tag payload => exact h.request .hold p tag payload s hp
  case release p tag payload => exact h.request .release p tag payload s hp
  case setType p tag payload => exact h.request .setType p tag payload s hp
  case addCombo p tag payload => exact h.request .addCombo p tag payload s hp
  case removeCombo p tag payload => exact h.request .removeCombo p tag payload s hp
  case applyCredit p tag payload => exact h.request .applyCredit p tag payload s hp
  case removeCredit p tag payload => exact h.request .removeCredit p tag payload s hp
  case undo p tag payload => exact h.request .undo p tag payload s hp
  case cancel p tag payload => exact h.request .cancel p tag payload s hp
  case price p tag payload => exact h.request .price p tag payload s hp
  case pay p tag payload => exact h.request .pay p tag payload s hp
  case redeem p tag payload => exact h.request .redeem p tag payload s hp
  case reprint p tag payload => exact h.request .reprint p tag payload s hp
  case printerStatus p tag payload => exact h.request .printerStatus p tag payload s hp
  case kioskPass p tag payload => exact h.request .pass p tag payload s hp
  case kioskRunFailed p run => exact h.kioskRunFailed p run hp
  case authResponse payload => exact ⟨_, rfl, h.authResponse payload s hp⟩
  case uplinkPass port tag payload => exact ⟨_, rfl, h.uplinkPass port tag payload s hp⟩
  case uplinkEnvelopeDiscarded etherType checkOk data => exact h.uplinkEnvelope etherType checkOk data hp
  case unknownCommand tag payload => exact h.unknownCommand tag payload hp
  case kioskFrameStart | kioskFrameEnd | uplinkFrameStart | uplinkFrameEnd | uplinkLinkDown | uplinkLinkUp | tick
    | leaseExpiry | authTimeout | printerWaitExpiry | paperWaitExpiry | storeOperationCompletion | powerOn
    | resetInputAsserted | resetInputReleased | startUp | keyInputChange | lineIdle => exact h.event _ s rfl hp
  all_goals exact ⟨_, rfl, h.command _ _ _ s hp⟩

/-- Every step keeps `P`: on an empty queue the part idles. -/
theorem step (h : Keeps P) {t : State} (hp : P s) (hs : Machine.step s = .next t) : P t := by
  unfold Machine.step at hs
  split at hs
  · cases hs
    exact hp
  · rename_i c rest _
    obtain ⟨u, hu, hq⟩ := h.exec c (h.queue s rest hp)
    rw [hu] at hs
    cases hs
    exact hq

end Keeps

end Sys2Proof.Machine
end

section
/-! Every step keeps prices, settings, counters and the clock in their ranges (O58): the operations the blocks share, then the
commands that write a value. -/

namespace Sys2Proof.Machine

/-! ## Numbers as they are read and counted -/

/-- A number read from `n` bytes is below 256 to the `n`. -/
theorem beNat_lt (b : Bytes) : beNat b < 256 ^ b.length := by
  induction b using List.reverseRecOn with
  | nil => simp [beNat]
  | append_singleton b x ih =>
    have hx : x.toNat < 256 := x.isLt
    have hb : beNat (b ++ [x]) = beNat b * 256 + x.toNat := by simp [beNat]
    rw [hb, List.length_append, List.length_singleton, pow_succ]
    omega

theorem readNat_lt {n x : Nat} {b rest : Bytes} (h : readNat n b = some (x, rest)) : x < 256 ^ n := by
  unfold readNat at h
  split at h
  · cases h
  · rename_i hlen
    cases h
    have := beNat_lt (b.take n)
    rwa [List.length_take, Nat.min_eq_left (not_lt.1 hlen)] at this

theorem of_done {α : Type} {x y : α} {rest : Bytes} (h : done x rest = some y) : x = y := by
  unfold done at h
  split at h
  · exact Option.some.inj h
  · cases h

theorem readClock_lt {b : Bytes} {d t : Nat} (h : readClock b = some (d, t)) : d < 65536 := by
  simp only [readClock, Option.bind_eq_bind, Option.bind_eq_some_iff] at h
  obtain ⟨⟨_, _⟩, hd, ⟨_, _⟩, -, h⟩ := h
  cases of_done h
  exact readNat_lt hd

theorem readDay_lt {b : Bytes} {d : Nat} (h : readDay b = some d) : d < 65536 := by
  simp only [readDay, Option.bind_eq_bind, Option.bind_eq_some_iff] at h
  obtain ⟨⟨_, _⟩, hd, h⟩ := h
  cases of_done h
  exact readNat_lt hd

theorem readCounters_lt {b : Bytes} {n v : Nat} (h : readCounters b = some (n, v)) : n < 4294967296 ∧ v < 16777216 := by
  simp only [readCounters, Option.bind_eq_bind, Option.bind_eq_some_iff] at h
  obtain ⟨⟨_, _⟩, hn, ⟨_, _⟩, hv, h⟩ := h
  cases of_done h
  exact ⟨readNat_lt hn, readNat_lt hv⟩

theorem readCeiling_lt {b : Bytes} {c : Nat} (h : readCeiling b = some c) : c < 16777216 := by
  simp only [readCeiling, Option.bind_eq_bind, Option.bind_eq_some_iff] at h
  obtain ⟨⟨_, _⟩, hc, h⟩ := h
  cases of_done h
  exact readNat_lt hc

theorem clamp_mem {lo hi : Nat} (h : lo ≤ hi) (n : Nat) : lo ≤ clamp lo hi n ∧ clamp lo hi n ≤ hi := by
  rw [clamp_eq h]; omega

/-- A counter that is followed by 1 at its bound (R92, R107, R115, R130). -/
theorem cyclic_mem {hi : Nat} (h : 1 ≤ hi) (n : Nat) :
    1 ≤ (if n < hi then n + 1 else 1) ∧ (if n < hi then n + 1 else 1) ≤ hi := by split <;> omega

/-! ## The operations the blocks share -/

namespace State.InRange

variable {s : State}

theorem setPort (h : s.InRange) (p : PortNo) {x : Port} (hx : x.errorCount ≤ 255) : (s.setPort p x).InRange :=
  { h with
    errorCounts := fun q => by
      rw [State.port_setPort]
      split
      · exact hx
      · exact h.errorCounts q }

theorem setBasket (h : s.InRange) (p : PortNo) (b : Basket) : (s.setBasket p b).InRange := { h with }

theorem setShow (h : s.InRange) (i : ShowNo) (x : Show) : (s.setShow i x).InRange := { h with }

theorem setSeat (h : s.InRange) (i : ShowNo) (k : Nat) (x : Seat) : (s.setSeat i k x).InRange := { h with }

theorem setSeatState (h : s.InRange) (i : ShowNo) (k : Nat) (x : SeatState) : (s.setSeatState i k x).InRange := { h with }

theorem setFoyer (h : s.InRange) (f : FoyerState) : (s.setControl { s.control with foyer := f }).InRange := { h with }

theorem blankRange (h : s.InRange) (base count : Nat) : (s.blankRange base count).InRange := { h with }

theorem setStore (h : s.InRange) (x : TemplateStore) : (s.setStore x).InRange := { h with }

theorem changeSlot (h : s.InRange) (n : Nat) (f : Slot → Slot) : (s.changeSlot n f).InRange := by
  rw [State.changeSlot_frame]; exact { h with }

/-- Jobs, channels, print offers and notices are no settings. -/
theorem printStep {t : State} (h : s.InRange) (hk : s.PrintStep t) : t.InRange := by
  obtain ⟨hframe, hports, hprint, -, hcontrol⟩ := hk
  unfold State.controlKept at hcontrol
  rw [hframe]
  exact { h with
    printerWait := by rw [hprint]; exact h.printerWait
    paperWait := by rw [hprint]; exact h.paperWait
    jobCounter := by rw [hprint]; exact h.jobCounter
    day := by rw [hcontrol]; exact h.day
    seconds := by rw [hcontrol]; exact h.seconds
    errorCounts := fun q => by
      show (t.port q).errorCount ≤ 255
      rw [hports q]; exact h.errorCounts q }

theorem raise (h : s.InRange) (k : NoticeKind) (content : Bytes) : (s.raise k content).InRange :=
  h.printStep (s.raise_printStep k content)

theorem runArbiter (h : s.InRange) : s.runArbiter.InRange := h.printStep s.runArbiter_printStep

theorem checkLow (h : s.InRange) : s.checkLow.InRange := by rw [State.checkLow_frame]; exact { h with }

theorem start (h : s.InRange) : s.start.InRange := by
  rw [State.start, State.pushNotice_frame]; exact { h with }

theorem setUplink (h : s.InRange) (u : UplinkUnit) : State.InRange { s with uplink := u } := { h with }

theorem setReservation (h : s.InRange) (n : Nat) :
    State.InRange { s with vouchers := { s.vouchers with reservation := n } } := { h with }

theorem keepPlace (h : s.InRange) (p : PortNo) (tag : Byte) : (s.setPort p { s.port p with kept := some tag }).InRange :=
  h.setPort p (h.errorCounts p)

theorem goodFrame (h : s.InRange) (p : PortNo) : (s.goodFrame p).InRange :=
  h.setPort p ((Nat.sub_le _ _).trans (h.errorCounts p))

theorem answer (h : s.InRange) (c : KioskClass) (p : PortNo) (tag : Byte) (r : Result) (content : Bytes) :
    (s.answer c p tag r content).InRange := h.setPort p (h.errorCounts p)

theorem mgmtAnswer (h : s.InRange) (code tag : Byte) (r : Result) (content : Bytes) :
    (s.mgmtAnswer code tag r content).InRange := { h with }

theorem answerKept (h : s.InRange) (p : PortNo) (make : Bool) (r : Result) (content : Bytes) :
    (s.answerKept p make r content).InRange := by
  have h1 : (s.setPort p { s.port p with kept := none }).InRange := h.setPort p (h.errorCounts p)
  unfold State.answerKept
  split
  · exact h
  · cases make
    · exact h1
    · exact h1.answer _ _ _ _ _

theorem dropEntry (h : s.InRange) (tag : Nat) : (s.dropEntry tag).InRange := { h with }

theorem withdrawRequest (h : s.InRange) (tag : Nat) : (s.withdrawRequest tag).InRange := { h with }

theorem freeReservation (h : s.InRange) (n : Nat) : (s.freeReservation n).InRange := { h with }

/-- R130: the job counter stands one past the number taken. -/
theorem addJob (h : s.InRange) (w : JobWork) : (s.addJob w).1.InRange :=
  { h with jobCounter := cyclic_mem (by decide) _ }

/-- R115: the serial counter stands one past the serial drawn. -/
theorem issue (h : s.InRange) (kind : VoucherKind) (sale expiry : Nat) : (s.issue kind sale expiry).1.InRange :=
  { h with serialCounter := (cyclic_mem (by decide) _).2 }

theorem returnSeats (h : s.InRange) (i : ShowNo) (ks : List Nat) : (s.returnSeats i ks).InRange :=
  foldl_keeps (fun _ k ht => ht.setSeatState i k _) ks h

theorem takeSeats (h : s.InRange) (p : PortNo) (i : ShowNo) (ks : List Nat) : (s.takeSeats p i ks).InRange :=
  foldl_keeps (fun _ k ht => ht.setSeatState i k _) ks h

theorem sellSeats (h : s.InRange) (i : ShowNo) (sale : Nat) (ls : List PricedLine) : (s.sellSeats i sale ls).InRange :=
  foldl_keeps (fun _ (l : PricedLine) ht => ht.setSeatState i l.seat _) ls h

theorem changeSlots (h : s.InRange) (f : Slot → Slot) (ns : List Nat) :
    (ns.foldl (fun s n => s.changeSlot n f) s).InRange := foldl_keeps (fun _ n ht => ht.changeSlot n f) ns h

theorem writeSeats (h : s.InRange) (i : ShowNo) (k : Nat) (xs : List Seat) : (s.writeSeats i k xs).InRange := by
  induction xs generalizing s k with
  | nil => exact h
  | cons x xs ih => exact ih (h.setSeat i k x) (k + 1)

theorem loseHeld (h : s.InRange) (i : ShowNo) (k : Nat) : (s.loseHeld i k).InRange := by
  unfold State.loseHeld
  split
  · exact (h.setSeatState i k _).setBasket _ _
  · exact h

theorem voidBasket (h : s.InRange) (p : PortNo) : (s.voidBasket p).InRange :=
  ((h.returnSeats _ _).changeSlots _ _).setBasket _ _

theorem voidUnlessAuthorising (h : s.InRange) (p : PortNo) : (s.voidUnlessAuthorising p).InRange := by
  unfold State.voidUnlessAuthorising
  split
  · exact h
  · exact h.voidBasket p

/-- Seats given up wherever a test picks them. -/
theorem giveUpWhere (h : s.InRange) (c : State → ShowNo → Nat → Bool) :
    (s.forSeats fun s i k => if c s i k then s.giveUpSeat i k else s).InRange := by
  refine State.forSeats_keeps (fun t i k ht => ?_) h
  split
  · exact ht.setSeatState i k _
  · exact ht

/-- Every port changed, its Error Count kept. -/
theorem mapPorts (h : s.InRange) {f : Port → Port} (hf : ∀ x, (f x).errorCount = x.errorCount) :
    State.InRange { s with ports := s.ports.map f } :=
  { h with
    errorCounts := fun q => by
      simp only [State.port, Fin.getElem_fin, Vector.getElem_map, hf]
      exact h.errorCounts q }

/-- R198: every setting has its default. -/
theorem resetPart (cause : ResetCause) : (s.resetPart cause).InRange :=
  { resetMeetsTheInvariants.2.2.2.1 with }

theorem restartNow : s.restartNow.InRange := (resetPart .command).start

theorem settleRestart (h : s.InRange) : s.settleRestart.InRange := by
  unfold State.settleRestart
  split
  · exact restartNow
  · exact h

theorem beginStart (h : s.InRange) : s.beginStart.InRange := by
  unfold State.beginStart
  split
  · exact h
  · exact h.start

end State.InRange

/-! ## The price tables (R65 to R76) -/

/-- An entry written, or none where the place is out of bounds: what all entries were and the new one is, all are. -/
theorem forall_setIfInBounds {α : Type} {n : Nat} {Q : α → Prop} {v : Vector α n} (h : ∀ i : Fin n, Q v[i]) {x : α}
    (hx : Q x) (k : Nat) : ∀ i : Fin n, Q (v.setIfInBounds k x)[i] := by
  intro i
  simp only [Fin.getElem_fin, Vector.getElem_setIfInBounds]
  split
  · exact hx
  · exact h i

/-- R71: a stage command writes the Staged copy where every argument is in range, and nothing otherwise. -/
theorem State.InRange.stage {s : State} (h : s.InRange) {ok : List Bool} {t : PriceTables} (echo : Bytes)
    (ht : (∀ b ∈ ok, b = true) → t.InRange) : (s.stage ok t echo).1.InRange := by
  unfold State.stage
  split
  · exact h
  · rename_i hok
    refine { h with staged := ht fun b hb => ?_ }
    simpa using List.findIdx?_eq_none_iff.1 hok b hb

theorem goodName_iff {limit : Nat} {t : Bytes} : goodName limit t = true ↔ t.length ≤ limit ∧ printable t = true := by
  simp [goodName]

theorem stageBand_inRange (args : Bytes) {s : State} (h : s.InRange) : (stageBand args s).1.InRange := by
  unfold stageBand
  split
  · exact h
  · rename_i band p0 p1 p2 p3 _
    refine h.stage _ fun hok => { h.staged with prices := ?_ }
    simp only [List.forall_mem_cons, goodPrice, decide_eq_true_eq] at hok
    obtain ⟨-, h0, h1, h2, h3, -⟩ := hok
    refine forall_setIfInBounds (Q := fun row : Vector Nat 4 => ∀ z : Fin 4, row[z] ≤ 65535) h.staged.prices ?_ band
    simp only [Fin.forall_fin_succ, IsEmpty.forall_iff, and_true]
    exact ⟨h0, h1, h2, h3⟩

theorem stageTicketType_inRange (args : Bytes) {s : State} (h : s.InRange) : (stageTicketType args s).1.InRange := by
  unfold stageTicketType
  split
  · exact h
  · rename_i k f _ _ name _
    refine h.stage _ fun hok => ?_
    simp only [List.forall_mem_cons, goodName_iff] at hok
    obtain ⟨-, -, -, -, hname, -⟩ := hok
    exact { h.staged with
      factors := forall_setIfInBounds (Q := fun x : TicketType => x.factor ≤ 2000) h.staged.factors (Nat.min_le_left _ f) k
      typeNames := forall_setIfInBounds (Q := fun x : TicketType => x.name.length ≤ 8 ∧ printable x.name = true)
        h.staged.typeNames hname k }

theorem stageCombo_inRange (args : Bytes) {s : State} (h : s.InRange) : (stageCombo args s).1.InRange := by
  unfold stageCombo
  split
  · exact h
  · rename_i f _
    refine h.stage _ fun hok => ?_
    simp only [List.forall_mem_cons, goodName_iff, goodPrice, decide_eq_true_eq] at hok
    obtain ⟨-, hprice, -, hseats, -, hname, -⟩ := hok
    exact { h.staged with
      comboPrices := forall_setIfInBounds (Q := fun x : Combo => x.price ≤ 65535) h.staged.comboPrices hprice f.code
      discounts := forall_setIfInBounds (Q := fun x : Combo => x.discount ≤ 1000) h.staged.discounts
        (Nat.min_le_left _ f.discount) f.code
      minSeats := forall_setIfInBounds (Q := fun x : Combo => x.minSeats ≤ 10) h.staged.minSeats hseats f.code
      comboNames := forall_setIfInBounds (Q := fun x : Combo => x.name.length ≤ 16 ∧ printable x.name = true)
        h.staged.comboNames hname f.code }

theorem stageTax_inRange (args : Bytes) {s : State} (h : s.InRange) : (stageTax args s).1.InRange := by
  unfold stageTax
  split
  · exact h
  · exact h.stage _ fun _ => { h.staged with rates := ⟨Nat.min_le_left _ _, Nat.min_le_left _ _⟩ }

theorem stageCeiling_inRange (args : Bytes) {s : State} (h : s.InRange) : (stageCeiling args s).1.InRange := by
  unfold stageCeiling
  split
  · exact h
  · rename_i c hread
    refine h.stage _ fun hok => { h.staged with ceiling := ⟨?_, Nat.le_of_lt_succ (readCeiling_lt hread)⟩ }
    simpa [Nat.succ_le_iff] using hok

theorem noArgs_inRange {body : State → Answer} {s : State} (h : s.InRange) (hb : (body s).1.InRange) (args : Bytes) :
    (noArgs args body s).1.InRange := by
  unfold noArgs
  split
  · exact hb
  · exact h

theorem commitPrices_inRange (args : Bytes) {s : State} (h : s.InRange) : (commitPrices args s).1.InRange :=
  noArgs_inRange h { h with live := h.staged, generation := Nat.le_of_lt_succ (Nat.mod_lt _ (by decide)) } args

theorem reloadStaged_inRange (args : Bytes) {s : State} (h : s.InRange) : (reloadStaged args s).1.InRange :=
  noArgs_inRange h { h with staged := h.live } args

/-! ## Settings, clock, counters and ports -/

theorem setLeaseTimes_inRange (args : Bytes) {s : State} (h : s.InRange) : (setLeaseTimes args s).1.InRange := by
  unfold setLeaseTimes
  split
  · exact h
  · exact { h with leaseTime := clamp_mem (by decide) _, declineGrace := clamp_mem (by decide) _ }

theorem setAuthTimeout_inRange (args : Bytes) {s : State} (h : s.InRange) : (setAuthTimeout args s).1.InRange := by
  unfold setAuthTimeout
  split
  · exact h
  · exact { h with authTimeout := clamp_mem (by decide) _ }

theorem setPrintWaits_inRange (args : Bytes) {s : State} (h : s.InRange) : (setPrintWaits args s).1.InRange := by
  unfold setPrintWaits
  split
  · exact h
  · exact { h with printerWait := clamp_mem (by decide) _, paperWait := clamp_mem (by decide) _ }

theorem setClock_inRange (args : Bytes) {s : State} (h : s.InRange) : (setClock args s).1.InRange := by
  unfold setClock
  split
  · exact h
  · rename_i hread
    split
    · exact h
    · rename_i ht
      exact { h with day := Nat.le_of_lt_succ (readClock_lt hread), seconds := not_lt.1 ht }

theorem dayRoll_inRange (args : Bytes) {s : State} (h : s.InRange) : (dayRoll args s).1.InRange := by
  unfold dayRoll State.rollDay
  split
  · exact h
  · rename_i d hread
    split
    · exact h
    · have ht : State.InRange { s with control := { s.control with day := d }, vouchers := s.vouchers.reclaim d } :=
        { h with day := Nat.le_of_lt_succ (readDay_lt hread) }
      exact ht.checkLow

theorem loadCounters_inRange (args : Bytes) {s : State} (h : s.InRange) : (loadCounters args s).1.InRange := by
  unfold loadCounters
  split
  · exact h
  · rename_i hread
    split
    · exact h
    · exact { h with
        saleCounter := Nat.le_of_lt_succ (readCounters_lt hread).1
        serialCounter := Nat.le_of_lt_succ (readCounters_lt hread).2 }

theorem setNoticeEnables_inRange (args : Bytes) {s : State} (h : s.InRange) : (setNoticeEnables args s).1.InRange := by
  unfold setNoticeEnables
  split
  · exact h
  · exact { h with }

theorem State.InRange.activate {s : State} (h : s.InRange) (p : PortNo) {n : Nat} (hn : n ≤ 255) : (s.activate p n).InRange :=
  (h.setPort p hn).runArbiter

theorem enablePort_inRange (args : Bytes) {s : State} (h : s.InRange) : (enablePort args s).1.InRange := by
  unfold enablePort
  split
  · exact h
  · split
    · exact h
    · exact h.activate _ (by decide)

theorem restorePort_inRange (args : Bytes) {s : State} (h : s.InRange) : (restorePort args s).1.InRange := by
  unfold restorePort
  split
  · exact h
  · rename_i p keep _
    split
    · exact h
    · refine h.activate p ?_
      split
      · exact h.errorCounts p
      · decide

theorem configurePort_inRange (args : Bytes) {s : State} (h : s.InRange) : (configurePort args s).1.InRange := by
  unfold configurePort
  split
  · exact h
  · split
    · exact h
    · exact h.setPort _ (h.errorCounts _)

theorem clearErrorCode_inRange (args : Bytes) {s : State} (h : s.InRange) : (clearErrorCode args s).1.InRange := by
  unfold clearErrorCode
  split
  · exact h
  · exact h.setPort _ (h.errorCounts _)

theorem State.InRange.stopJob {s : State} (h : s.InRange) (p : PortNo) : (s.stopJob p).InRange := by
  unfold State.stopJob
  split
  · exact h
  · split
    · exact h
    · split
      · exact h
      · exact h.printStep ((s.owe_printStep _).trans (State.endJob_printStep _ _ _))

/-- R179: a port that leaves ACTIVE keeps its Error Count. -/
theorem State.InRange.leaveActive {s : State} (h : s.InRange) (p : PortNo) (st : PortState) : (s.leaveActive p st).InRange := by
  have h1 := State.InRange.voidUnlessAuthorising (h.setPort p (x := (s.port p).lose st) (h.errorCounts p)) p
  exact ((h1.giveUpWhere fun s i k => (s.seatAt i k).state.heldBy p).stopJob p).runArbiter

theorem disablePort_inRange (args : Bytes) {s : State} (h : s.InRange) : (disablePort args s).1.InRange := by
  unfold disablePort State.disable
  split
  · exact h
  · dsimp only
    split
    · exact h.voidUnlessAuthorising _
    · exact h.leaveActive _ _
    · exact h.setPort _ (h.errorCounts _)

/-- R176: an Error Count stops at 255. -/
theorem State.InRange.runFailed {s : State} (h : s.InRange) (p : PortNo) (e : FramingError) : (s.runFailed p e).InRange := by
  have h1 : (s.setPort p { s.port p with errorCount := min 255 ((s.port p).errorCount + 8), lastError := e }).InRange :=
    h.setPort p (Nat.min_le_left _ _)
  have h2 : ∀ c : Prop, [Decidable c] → ∀ t : State, t.InRange → ∀ content,
      (if c then t.raise .portWarn content else t).InRange := by
    intro c _ t ht content
    split
    · exact ht.raise _ _
    · exact ht
  unfold State.runFailed
  dsimp only
  split
  · exact ((h2 _ _ h1 _).raise _ _).leaveActive _ _
  · exact h2 _ _ h1 _

/-! ## Foyer Control and the tick -/

theorem openFoyer_inRange (args : Bytes) {s : State} (h : s.InRange) : (openFoyer args s).1.InRange := by
  refine noArgs_inRange h ?_ args
  split
  · exact h
  · split
    · exact h
    · exact h.setFoyer _

theorem closeFoyer_inRange (args : Bytes) {s : State} (h : s.InRange) : (closeFoyer args s).1.InRange := by
  refine noArgs_inRange h ?_ args
  split
  · exact h
  · exact h.setFoyer _

theorem wake_inRange (args : Bytes) {s : State} (h : s.InRange) : (wake args s).1.InRange := by
  refine noArgs_inRange h ?_ args
  split
  · exact h
  · have hf : ∀ x : Port, x.awaken.errorCount = x.errorCount := fun x => by unfold Port.awaken; split <;> rfl
    have h1 := h.mapPorts hf
    exact { h1 with }

theorem State.InRange.nightfall {s : State} (h : s.InRange) : s.nightfall.InRange := by
  have h1 : (allPorts.foldl (fun s p => s.voidBasket p) s).InRange := foldl_keeps (fun t p ht => ht.voidBasket p) _ h
  unfold State.nightfall
  generalize allPorts.foldl _ s = t at h1
  have h2 : t.freeAllHeld.InRange := h1.giveUpWhere fun s i k => (s.seatAt i k).state.isHeld
  dsimp only
  generalize t.freeAllHeld = u at h2
  have h3 := h2.mapPorts (f := Port.emptyPass) fun _ => rfl
  exact { h3 with }

theorem night_inRange (args : Bytes) {s : State} (h : s.InRange) : (night args s).1.InRange := by
  refine noArgs_inRange h ?_ args
  split
  · exact h
  · split
    · exact h
    · exact h.nightfall.setFoyer _

theorem State.InRange.expireLeases {s : State} (h : s.InRange) : s.expireLeases.InRange := by
  refine State.forSeats_keeps (fun t i k ht => ?_) h
  split
  · exact ht.loseHeld i k
  · exact ht

theorem State.InRange.timeOut {s : State} (h : s.InRange) (e : AuthEntry) : (s.timeOut e).InRange := by
  have h1 : State.InRange { s with relay := { s.relay with
      entries := s.relay.entries.map (fun (x : AuthEntry) => if x.tag = e.tag then { x with state := .lost } else x) } } :=
    { h with }
  exact (((h1.setBasket e.origin _).answerKept _ _ _ _).withdrawRequest _).raise _ _

theorem State.InRange.expireAuths {s : State} (h : s.InRange) : s.expireAuths.InRange :=
  foldl_keeps (fun _ e ht => ht.timeOut e) _ h

theorem State.InRange.countAuths {s : State} (h : s.InRange) : s.countAuths.InRange := { h with }

theorem State.InRange.tickWaits {s : State} (h : s.InRange) : s.tickWaits.InRange := by
  have h1 : s.countWaits.InRange := { h with }
  exact h1.printStep ((State.expireWaitsOf_printStep _ _).trans (State.runArbiter_printStep _))

/-- R195: 86,399 is followed by 0. -/
theorem State.InRange.tick {s : State} (h : s.InRange) : s.tick.InRange := by
  have hsec : s.control.second.seconds ≤ 86399 := by unfold FoyerControl.second; dsimp only; split <;> omega
  have h1 : (s.setControl s.control.second).countLeases.InRange := { h with seconds := hsec }
  exact (h1.expireLeases.countAuths).expireAuths.tickWaits

/-! ## Sales and the ends of an authorisation -/

theorem State.InRange.issueSnacks {s : State} (h : s.InRange) (sale expiry : Nat) (cs : List (Fin 32)) :
    (s.issueSnacks sale expiry cs).1.InRange := by
  induction cs generalizing s with
  | nil => exact h
  | cons c cs ih => exact ih (h.issue _ _ _)

theorem State.InRange.redeemCredits {s : State} (h : s.InRange) (p : PortNo) (ns : List Nat) :
    (s.redeemCredits p ns).InRange := foldl_keeps (fun _ n ht => ht.changeSlot n _) ns h

/-- R107: the Sale Number counter stands one past the number taken. -/
theorem State.InRange.completeSale {s : State} (h : s.InRange) (x : Sale) (code : Bytes) :
    (s.completeSale x code).1.InRange := by
  have h1 : State.InRange { s with relay := { s.relay with saleCounter := nextSale s.relay.saleNumber } } :=
    { h with saleCounter := (cyclic_mem (by decide) _).2 }
  have h2 := h1.sellSeats x.handle.index s.relay.saleNumber x.seatLines
  exact (((h2.issueSnacks _ _ x.combos).freeReservation x.reservation).redeemCredits x.origin x.claims).raise _ _

theorem State.InRange.printSale {s : State} (h : s.InRange) (x : Sale) (sale : Nat) (serials : List Nat) :
    (s.printSale x sale serials).1.InRange := by
  unfold State.printSale
  dsimp only
  split
  · exact h.addJob _
  · exact h.printStep (s.owe_printStep _)

theorem State.InRange.approve {s : State} (h : s.InRange) (e : AuthEntry) (code : Bytes) : (s.approve e code).InRange :=
  ((((((h.completeSale e.sale code).dropEntry e.tag).withdrawRequest e.tag).setBasket e.origin _).printSale _ _ _).answerKept
    _ _ _ _).runArbiter

theorem State.InRange.decline {s : State} (h : s.InRange) (e : AuthEntry) (fault : Bool) : (s.decline e fault).InRange := by
  have h1 := ((h.dropEntry e.tag).withdrawRequest e.tag).freeReservation e.reservation
  refine State.InRange.checkLow (State.InRange.answerKept ?_ _ _ _ _)
  split
  · exact State.InRange.setBasket
      (State.InRange.changeSlots (foldl_keeps (fun _ k ht => ht.setSeatState _ k _) _ h1) _ _) _ _
  · exact ((h1.returnSeats _ _).changeSlots _ _).setBasket _ _

theorem State.InRange.approveLate {s : State} (h : s.InRange) (e : AuthEntry) (code : Bytes) (source : Nat) :
    (s.approveLate e code source).1.InRange :=
  (((h.completeSale e.sale code).dropEntry e.tag).printStep (State.owe_printStep _ _)).raise _ _

theorem State.InRange.releaseLate {s : State} (h : s.InRange) (e : AuthEntry) (source : Nat) :
    (s.releaseLate e source).InRange :=
  (((((h.returnSeats _ _).changeSlots _ _).freeReservation _).dropEntry _).raise _ _).checkLow

theorem State.InRange.resolve {s : State} (h : s.InRange) (e : AuthEntry) (o : AuthOutcome) (code : Bytes) :
    (s.resolve e o code).InRange := by
  have hg : s.holdGateway.InRange := { h with }
  unfold State.resolve
  split
  · exact h.approve e code
  · exact h.decline e false
  · exact hg.decline e true
  · exact h.approveLate e code 1
  · exact h.releaseLate e 1
  · exact hg.releaseLate e 1

theorem State.InRange.authResponse {s : State} (h : s.InRange) (payload : Bytes) : (s.authResponse payload).InRange := by
  unfold State.authResponse
  split
  · exact h
  · split
    · exact h.raise _ _
    · split
      · exact h.raise _ _
      · exact h.resolve _ _ _

theorem reconcile_inRange (args : Bytes) {s : State} (h : s.InRange) : (reconcile args s).1.InRange := by
  unfold reconcile
  split
  · exact h
  · split
    · exact h
    · split
      · exact h
      · split
        · exact h.approveLate _ _ _
        · exact h.releaseLate _ _

theorem State.InRange.zeroTotal {s : State} (h : s.InRange) (p : PortNo) (tag : Byte) (x : Snapshot) :
    (s.zeroTotal p tag x).InRange :=
  (((((h.completeSale ((s.basket p).zeroSale p x) []).setBasket p _).printSale _ _ _).answer _ _ _ _ _).runArbiter).checkLow

/-- R92: the tag counter stands one past the tag taken. -/
theorem State.InRange.acceptPay {s : State} (h : s.InRange) (p : PortNo) (tag : Byte) (token : Bytes) (x : Snapshot) :
    (s.acceptPay p tag token x).InRange := by
  have h1 : State.InRange { s with relay := s.relay.accept (s.newEntry p x) } :=
    { h with tagCounter := cyclic_mem (by decide) _ }
  refine State.InRange.checkLow (State.InRange.setUplink (State.InRange.keepPlace (State.InRange.setBasket
    (State.InRange.changeSlots (State.InRange.setReservation ?_ _) _ _) _ _) _ _) _)
  exact foldl_keeps (fun _ (l : PricedLine) ht => ht.setSeatState _ l.seat _) _ h1

theorem State.InRange.pay {s : State} (h : s.InRange) (p : PortNo) (tag : Byte) (token : Bytes) :
    (s.pay p tag token).InRange := by
  unfold State.pay
  split
  · exact h.answer _ _ _ _ _
  · split
    · split
      · refine State.InRange.answer ?_ _ _ _ _ _
        unfold State.payRefused
        split
        · exact h.setBasket _ _
        · exact h
      · split
        · exact h.zeroTotal p tag _
        · exact h.acceptPay p tag token _
    · exact h.answer _ _ _ _ _

end Sys2Proof.Machine
end

section
/-! The commands that write no price, setting or counter keep the ranges, and so every step does (O58). -/

namespace Sys2Proof.Machine

/-! ## Commands of shows, vouchers and the Print Engine -/

theorem defineShow_inRange (args : Bytes) {s : State} (h : s.InRange) : (defineShow args s).1.InRange := by
  unfold defineShow
  repeat' split
  any_goals exact h
  exact (h.blankRange _ _).setShow _ _

theorem loadSeats_inRange (args : Bytes) {s : State} (h : s.InRange) : (loadSeats args s).1.InRange := by
  unfold loadSeats
  split
  · exact h
  · refine withShow_fst_of_body h fun _ => ?_
    repeat' split
    any_goals exact h
    exact h.writeSeats _ _ _

theorem openShow_inRange (args : Bytes) {s : State} (h : s.InRange) : (openShow args s).1.InRange := by
  unfold openShow
  split
  · exact h
  · exact withShow_fst_of_body h fun _ => h.setShow _ _

theorem closeShow_inRange (args : Bytes) {s : State} (h : s.InRange) : (closeShow args s).1.InRange := by
  unfold closeShow
  split
  · exact h
  · exact withShow_fst_of_body h fun _ => h.setShow _ _

theorem removeShow_inRange (args : Bytes) {s : State} (h : s.InRange) : (removeShow args s).1.InRange := by
  unfold removeShow
  split
  · exact h
  · refine withShow_fst_of_body h fun _ => ?_
    dsimp only
    split
    · exact h
    · exact (h.blankRange _ _).setShow _ _

theorem setSeatCommand_inRange (args : Bytes) {s : State} (h : s.InRange) : (setSeatCommand args s).1.InRange := by
  unfold setSeatCommand
  split
  · exact h
  · refine withShow_fst_of_body h fun _ => ?_
    split
    · exact h
    · split
      · exact h.setSeatState _ _ _
      · exact h.setSeatState _ _ _
      · exact h

theorem markSold_inRange (args : Bytes) {s : State} (h : s.InRange) : (markSold args s).1.InRange := by
  unfold markSold
  split
  · exact h
  · refine withShow_fst_of_body h fun _ => ?_
    dsimp only
    repeat' split
    any_goals exact h
    exact foldl_keeps (fun _ k ht => ht.setSeatState _ k _) _ h

theorem releaseBlock_inRange (args : Bytes) {s : State} (h : s.InRange) : (releaseBlock args s).1.InRange := by
  unfold releaseBlock
  split
  · exact h
  · refine withShow_fst_of_body h fun _ => ?_
    dsimp only
    split
    · exact h
    · exact foldl_keeps (fun _ k ht => ht.loseHeld _ k) _ h

theorem issueCredit_inRange (args : Bytes) {s : State} (h : s.InRange) : (issueCredit args s).1.InRange := by
  unfold issueCredit
  repeat' split
  any_goals exact h
  exact (h.issue _ _ _).checkLow

theorem voidVoucher_inRange (args : Bytes) {s : State} (h : s.InRange) : (voidVoucher args s).1.InRange := by
  unfold voidVoucher
  repeat' split
  any_goals exact h
  exact { h with }

theorem redirectJob_inRange (args : Bytes) {s : State} (h : s.InRange) : (redirectJob args s).1.InRange := by
  unfold redirectJob
  repeat' split
  any_goals exact h
  exact h.printStep ((s.setJobs_printStep _).trans (State.runArbiter_printStep _))

theorem cancelJob_inRange (args : Bytes) {s : State} (h : s.InRange) : (cancelJob args s).1.InRange := by
  unfold cancelJob
  repeat' split
  any_goals exact h
  exact h.printStep ((s.setJobs_printStep _).trans (State.owe_printStep _ _))

theorem State.InRange.dropOwedFor {s : State} (h : s.InRange) (sale : Nat) : (s.dropOwedFor sale).InRange := { h with }

theorem dropOwed_inRange (args : Bytes) {s : State} (h : s.InRange) : (dropOwed args s).1.InRange := by
  unfold dropOwed
  repeat' split
  any_goals exact h
  exact h.dropOwedFor _

theorem proofTemplate_inRange (args : Bytes) {s : State} (h : s.InRange) : (proofTemplate args s).1.InRange := by
  unfold proofTemplate
  repeat' split
  any_goals exact h
  exact (h.addJob _).runArbiter

/-! ## Commands of the Template Store and the Site Record -/

/-- R159: the latch is no setting with a range, so a latched command keeps what its body keeps. -/
theorem latched_inRange {ok : Bool} {body : State → Answer} {s : State} (h : s.InRange)
    (hb : ∀ t : State, t.InRange → (body t).1.InRange) : (latched ok body s).1.InRange := by
  have ht := h.setStore { s.store with writeEnable := false }
  unfold latched
  dsimp only
  repeat' split
  · exact h
  · exact ht
  · exact ht
  · exact hb _ ht

theorem setLatch_inRange (v : Bool) (args : Bytes) {s : State} (h : s.InRange) : (setLatch v args s).1.InRange := by
  refine noArgs_inRange h ?_ args
  split
  · exact h
  · exact h.setStore _

theorem eraseSectorBody_inRange (k : SectorNo) {s : State} (h : s.InRange) : (eraseSectorBody k s).1.InRange := by
  unfold eraseSectorBody
  repeat' split
  any_goals exact h
  exact h.setStore _

theorem eraseSector_inRange (args : Bytes) {s : State} (h : s.InRange) : (eraseSector args s).1.InRange := by
  unfold eraseSector
  split
  · exact h
  · split
    · exact latched_inRange h fun _ ht => ht
    · exact latched_inRange h fun _ ht => eraseSectorBody_inRange _ ht

theorem eraseAll_inRange (args : Bytes) {s : State} (h : s.InRange) : (eraseAll args s).1.InRange := by
  refine noArgs_inRange h (latched_inRange h fun t ht => ?_) args
  unfold eraseAllBody
  repeat' split
  any_goals exact ht
  exact ht.setStore _

theorem programPageBody_inRange (k : SectorNo) (g : Fin 16) (o : Nat) (data : Bytes) {s : State} (h : s.InRange) :
    (programPageBody k g o data s).1.InRange := by
  unfold programPageBody
  repeat' split
  any_goals exact h
  exact h.setStore _

theorem programPage_inRange (args : Bytes) {s : State} (h : s.InRange) : (programPage args s).1.InRange := by
  unfold programPage
  split
  · exact h
  · split
    · exact latched_inRange h fun _ ht => programPageBody_inRange _ _ _ _ ht
    · exact latched_inRange h fun _ ht => ht

theorem setProtect_inRange (args : Bytes) {s : State} (h : s.InRange) : (setProtect args s).1.InRange := by
  unfold setProtect
  split
  · exact h
  · split
    · refine latched_inRange h fun t ht => ?_
      unfold setProtectBody
      split
      · exact ht
      · exact ht.setStore _
    · exact latched_inRange h fun _ ht => ht

theorem siteProgram_inRange (args : Bytes) {s : State} (h : s.InRange) : (siteProgram args s).1.InRange := by
  unfold siteProgram
  split
  · exact h
  · refine latched_inRange h fun t ht => ?_
    unfold siteProgramBody
    split
    · exact ht
    · exact ht.setStore _

theorem siteLock_inRange (args : Bytes) {s : State} (h : s.InRange) : (siteLock args s).1.InRange := by
  refine noArgs_inRange h (latched_inRange h fun t ht => ?_) args
  unfold siteLockBody
  repeat' split
  any_goals exact ht
  exact ht.setStore _

/-- Every management command keeps the ranges. -/
theorem Command.body_inRange (c : Command) (args : Bytes) {s : State} (h : s.InRange) : (c.body args s).1.InRange := by
  cases c
  case defineShow => exact defineShow_inRange args h
  case loadSeats => exact loadSeats_inRange args h
  case openShow => exact openShow_inRange args h
  case closeShow => exact closeShow_inRange args h
  case removeShow => exact removeShow_inRange args h
  case setSeat => exact setSeatCommand_inRange args h
  case markSold => exact markSold_inRange args h
  case releaseBlock => exact releaseBlock_inRange args h
  case setLeaseTimes => exact setLeaseTimes_inRange args h
  case stageBand => exact stageBand_inRange args h
  case stageTicketType => exact stageTicketType_inRange args h
  case stageCombo => exact stageCombo_inRange args h
  case stageTax => exact stageTax_inRange args h
  case stageCeiling => exact stageCeiling_inRange args h
  case reloadStaged => exact reloadStaged_inRange args h
  case commitPrices => exact commitPrices_inRange args h
  case setAuthTimeout => exact setAuthTimeout_inRange args h
  case clearGatewayHold | restart => exact noArgs_inRange h { h with } args
  case reconcile => exact reconcile_inRange args h
  case issueCredit => exact issueCredit_inRange args h
  case voidVoucher => exact voidVoucher_inRange args h
  case setPrintWaits => exact setPrintWaits_inRange args h
  case redirectJob => exact redirectJob_inRange args h
  case cancelJob => exact cancelJob_inRange args h
  case dropOwed => exact dropOwed_inRange args h
  case proofTemplate => exact proofTemplate_inRange args h
  case writeEnable => exact setLatch_inRange true args h
  case writeDisable => exact setLatch_inRange false args h
  case eraseSector => exact eraseSector_inRange args h
  case eraseAll => exact eraseAll_inRange args h
  case programPage => exact programPage_inRange args h
  case setProtect => exact setProtect_inRange args h
  case siteProgram => exact siteProgram_inRange args h
  case siteLock => exact siteLock_inRange args h
  case configurePort => exact configurePort_inRange args h
  case enablePort => exact enablePort_inRange args h
  case disablePort => exact disablePort_inRange args h
  case restorePort => exact restorePort_inRange args h
  case clearErrorCode => exact clearErrorCode_inRange args h
  case openFoyer => exact openFoyer_inRange args h
  case closeFoyer => exact closeFoyer_inRange args h
  case night => exact night_inRange args h
  case wake => exact wake_inRange args h
  case setClock => exact setClock_inRange args h
  case dayRoll => exact dayRoll_inRange args h
  case loadCounters => exact loadCounters_inRange args h
  case setNoticeEnables => exact setNoticeEnables_inRange args h
  all_goals rw [Command.body_fst_of_reports rfl]; exact h

theorem State.InRange.manage {s : State} (h : s.InRange) (c : Command) (tag : Byte) (args : Bytes) :
    (s.manage c tag (c.body args)).InRange := by
  unfold State.manage
  split
  · exact h
  · exact ((c.body_inRange args h).mgmtAnswer _ _ _ _).settleRestart

theorem State.InRange.unknownCode {s : State} (h : s.InRange) (tag code : Byte) : (s.unknownCode tag code).InRange := by
  unfold State.unknownCode
  split
  · exact h
  · exact h.mgmtAnswer _ _ _ _

theorem State.InRange.emptyCommand {s : State} (h : s.InRange) (tag : Byte) : (s.emptyCommand tag).InRange := by
  unfold State.emptyCommand
  split
  · exact h
  · exact { h with }

/-! ## Kiosk requests -/

theorem hold_inRange (p : PortNo) (payload : Bytes) {s : State} (h : s.InRange) : (hold p payload s).1.InRange := by
  unfold hold
  dsimp only
  repeat' split
  any_goals exact h
  exact (h.takeSeats _ _ _).setBasket _ _

theorem release_inRange (p : PortNo) (payload : Bytes) {s : State} (h : s.InRange) : (release p payload s).1.InRange := by
  unfold release
  dsimp only
  repeat' split
  any_goals exact h
  exact (h.returnSeats _ _).setBasket _ _

theorem setTypeBody_inRange (p : PortNo) (a : Nat × Fin 8) {s : State} (h : s.InRange) : (setTypeBody p a s).1.InRange := by
  unfold setTypeBody
  dsimp only
  repeat' split
  any_goals exact h
  exact h.setBasket _ _

theorem addComboBody_inRange (p : PortNo) (c : Fin 32) {s : State} (h : s.InRange) : (addComboBody p c s).1.InRange := by
  unfold addComboBody
  dsimp only
  repeat' split
  any_goals exact h
  exact h.setBasket _ _

theorem removeComboBody_inRange (p : PortNo) (n : Nat) {s : State} (h : s.InRange) : (removeComboBody p n s).1.InRange := by
  unfold removeComboBody
  dsimp only
  split
  · exact h
  · exact h.setBasket _ _

theorem applyCreditBody_inRange (p : PortNo) (n : Nat) {s : State} (h : s.InRange) : (applyCreditBody p n s).1.InRange := by
  unfold applyCreditBody
  dsimp only
  repeat' split
  any_goals exact h
  exact (h.changeSlot _ _).setBasket _ _

theorem removeCreditBody_inRange (p : PortNo) (n : Nat) {s : State} (h : s.InRange) : (removeCreditBody p n s).1.InRange := by
  unfold removeCreditBody
  dsimp only
  split
  · exact h
  · exact (h.changeSlot _ _).setBasket _ _

theorem State.InRange.undoReleaseSeats {s : State} (h : s.InRange) (p : PortNo) (hd : Handle) (ls : List SeatLine) :
    (s.undoReleaseSeats p hd ls).1.InRange := by
  induction ls generalizing s with
  | nil => exact h
  | cons l ls ih =>
    refine ih ?_
    split
    · exact (h.takeSeats _ _ _).setBasket _ _
    · exact h

theorem State.InRange.reverse {s : State} (h : s.InRange) (p : PortNo) (e : UndoEntry) : (s.reverse p e).1.InRange := by
  cases e with
  | hold hd seats => exact (h.returnSeats _ _).setBasket _ _
  | release hd lines =>
    unfold State.reverse State.undoRelease
    dsimp only
    split
    · exact h
    · exact h.undoReleaseSeats p hd lines
  | setType k t =>
    unfold State.reverse State.undoSetType
    dsimp only
    split
    · exact h.setBasket _ _
    · exact h
  | addCombo n =>
    unfold State.reverse State.undoAddCombo
    dsimp only
    split
    · exact h.setBasket _ _
    · exact h
  | removeCombo c n =>
    unfold State.reverse State.undoRemoveCombo
    dsimp only
    repeat' split
    any_goals exact h
    exact h.setBasket _ _
  | applyCredit n =>
    unfold State.reverse State.undoApplyCredit
    dsimp only
    split
    · exact (h.changeSlot _ _).setBasket _ _
    · exact h
  | removeCredit n =>
    unfold State.reverse State.undoRemoveCredit
    dsimp only
    repeat' split
    any_goals exact h
    exact (h.changeSlot _ _).setBasket _ _

theorem undoBody_inRange (p : PortNo) (u : Unit) {s : State} (h : s.InRange) : (undoBody p u s).1.InRange := by
  unfold undoBody
  split
  · exact h
  · exact ((h.setBasket p _).reverse p _).setBasket _ _

theorem price_inRange (p : PortNo) (payload : Bytes) {s : State} (h : s.InRange) : (price p payload s).1.InRange := by
  unfold price
  dsimp only
  repeat' split
  any_goals exact h
  exact h.setBasket _ _

theorem redeem_inRange (p : PortNo) (payload : Bytes) {s : State} (h : s.InRange) : (redeem p payload s).1.InRange := by
  unfold redeem
  repeat' split
  any_goals exact h
  exact h.changeSlot _ _

theorem reprint_inRange (p : PortNo) (payload : Bytes) {s : State} (h : s.InRange) : (reprint p payload s).1.InRange := by
  unfold reprint
  dsimp only
  repeat' split
  any_goals exact h
  exact ((h.dropOwedFor _).addJob _).runArbiter

theorem basketRequest_inRange {α : Type} (p : PortNo) (served : Bool) (arg : Option α) {body : α → State → Answer}
    (hb : ∀ (a : α) (t : State), t.InRange → (body a t).1.InRange) {s : State} (h : s.InRange) :
    (basketRequest p served arg body s).1.InRange := by
  unfold basketRequest
  repeat' split
  any_goals exact h
  exact hb _ _ h

theorem State.InRange.takeRequest {s : State} (h : s.InRange) (p : PortNo) {owner : State → State}
    (ho : ∀ t : State, t.InRange → (owner t).InRange) : (s.takeRequest p owner).InRange := by
  unfold State.takeRequest
  repeat' split
  any_goals exact h
  exact ho _ (h.goodFrame p)

theorem State.InRange.request {s : State} (h : s.InRange) (c : KioskClass) (p : PortNo) (tag : Byte) {body : State → Answer}
    (hb : ∀ t : State, t.InRange → (body t).1.InRange) : (s.request c p tag body).InRange :=
  h.takeRequest p fun t ht => (hb t ht).answer _ _ _ _ _

/-- R140, R142: what a report makes of a channel is a step of the print channels. -/
theorem State.documentDone_printStep (s : State) (c : ChannelNo) (j : Job) : s.PrintStep (s.documentDone c j) := by
  unfold State.documentDone
  split
  · exact (s.setJobs_printStep _).trans (State.enterFetch_printStep _ _)
  · exact s.endJob_printStep _ _

theorem State.resend_printStep (s : State) (c : ChannelNo) : s.PrintStep (s.resend c) := by
  unfold State.resend
  split
  · exact s.enterSend_printStep _ _
  · exact s.enterFetch_printStep _

theorem State.report_printStep (s : State) (c : ChannelNo) (p : PortNo) (j : Job) (r : PrinterReport) (index : Nat) :
    s.PrintStep (s.report c p j r index) := by
  unfold State.report
  split
  · split
    · exact (s.documentDone_printStep _ _).trans (State.runArbiter_printStep _)
    · exact .refl s
  · exact s.setChannel_printStep _ _
  · exact s.setChannel_printStep _ _
  · exact (s.releaseOffer_printStep _).trans (State.setChannel_printStep _ _ _)
  · exact s.setChannel_printStep _ _
  · exact (s.resend_printStep _).trans (State.runArbiter_printStep _)
  · exact .refl s
  · exact (s.failJob_printStep _ _).trans (State.runArbiter_printStep _)
  · exact .refl s

theorem State.InRange.printerStatus {s : State} (h : s.InRange) (p : PortNo) (payload : Bytes) :
    (s.printerStatus p payload).InRange := by
  unfold State.printerStatus
  repeat' split
  any_goals exact h
  exact h.printStep (s.report_printStep _ _ _ _ _)

theorem State.InRange.passUp {s : State} (h : s.InRange) (p : PortNo) (tag : Byte) (payload : Bytes) :
    (s.passUp p tag payload).InRange := by
  unfold State.passUp
  split
  · exact h.setUplink _
  · exact h

/-- Every kiosk frame keeps the ranges. -/
theorem runClass_inRange (c : KioskClass) (p : PortNo) (tag : Byte) (payload : Bytes) {s : State} (h : s.InRange) :
    Reaches (runClass c p tag payload s) State.InRange := by
  cases c
  case seatQuery => exact ⟨_, rfl, h.request .seatQuery p tag fun t ht => by rw [seatQuery_fst]; exact ht⟩
  case hold => exact ⟨_, rfl, h.request .hold p tag fun t => hold_inRange p payload⟩
  case release => exact ⟨_, rfl, h.request .release p tag fun t => release_inRange p payload⟩
  case setType =>
    exact ⟨_, rfl, h.request .setType p tag fun t => basketRequest_inRange p _ _ fun a _ => setTypeBody_inRange p a⟩
  case addCombo =>
    exact ⟨_, rfl, h.request .addCombo p tag fun t => basketRequest_inRange p _ _ fun a _ => addComboBody_inRange p a⟩
  case removeCombo =>
    exact ⟨_, rfl, h.request .removeCombo p tag fun t => basketRequest_inRange p _ _ fun a _ => removeComboBody_inRange p a⟩
  case applyCredit =>
    exact ⟨_, rfl, h.request .applyCredit p tag fun t => basketRequest_inRange p _ _ fun a _ => applyCreditBody_inRange p a⟩
  case removeCredit =>
    exact ⟨_, rfl, h.request .removeCredit p tag fun t => basketRequest_inRange p _ _ fun a _ => removeCreditBody_inRange p a⟩
  case undo => exact ⟨_, rfl, h.request .undo p tag fun t => basketRequest_inRange p _ _ fun a _ => undoBody_inRange p a⟩
  case cancel => exact ⟨_, rfl, h.request .cancel p tag fun t => basketRequest_inRange p _ _ fun _ _ ht => ht.voidBasket p⟩
  case price => exact ⟨_, rfl, h.request .price p tag fun t => price_inRange p payload⟩
  case pay => exact ⟨_, rfl, h.takeRequest p fun t ht => ht.pay p tag payload⟩
  case redeem => exact ⟨_, rfl, h.request .redeem p tag fun t => redeem_inRange p payload⟩
  case reprint => exact ⟨_, rfl, h.request .reprint p tag fun t => reprint_inRange p payload⟩
  case printerStatus =>
    refine ⟨_, rfl, ?_⟩
    split
    · exact h
    · exact (h.goodFrame p).printerStatus p payload
  case pass =>
    refine ⟨_, rfl, ?_⟩
    split
    · exact h
    · exact (h.goodFrame p).passUp p tag payload

/-! ## Links, time, the store and resets -/

theorem State.InRange.uplinkPass {s : State} (h : s.InRange) (port tag : Byte) (payload : Bytes) :
    (s.uplinkPass port tag payload).InRange := by
  unfold State.uplinkPass State.passDown
  dsimp only
  repeat' split
  any_goals exact h
  exact h.setPort _ (h.errorCounts _)

theorem State.InRange.printFrameEnd {s : State} (h : s.InRange) (p : PortNo) (o : PrintOffer) :
    (s.printFrameEnd p o).InRange := by
  have h1 := h.printStep (s.setOffer_printStep p none)
  unfold State.printFrameEnd State.printSent
  dsimp only
  split
  · exact h1
  · split
    · split
      · exact h1.printStep (State.setChannel_printStep _ _ _)
      · exact h1.printStep ((State.setChannel_printStep _ _ _).trans (State.offer_printStep _ _))
    · exact h1.printStep (State.offer_printStep _ _)

theorem State.InRange.kioskFrameEnd {s : State} (h : s.InRange) (p : PortNo) : (s.kioskFrameEnd p).InRange := by
  have h1 : (s.setPort p { s.port p with sending := none }).InRange := h.setPort p (h.errorCounts p)
  unfold State.kioskFrameEnd
  dsimp only
  split
  · exact h
  · split
    · exact h1.setPort p (h1.errorCounts p)
    · exact h1.setPort p (h1.errorCounts p)
    · split
      · exact h1.printFrameEnd p _
      · exact h1
    · exact h1

theorem State.InRange.uplinkStart {s : State} (h : s.InRange) : s.uplinkStart.InRange := by
  unfold State.uplinkStart State.startNotice State.uplinkStarts
  split
  · exact h.setUplink _
  · split
    · exact h.setUplink _
    · split
      · exact { h with }
      · split
        · exact h.setUplink _
        · exact h

theorem State.InRange.uplinkFrameEnd {s : State} (h : s.InRange) : s.uplinkFrameEnd.InRange := by
  unfold State.uplinkFrameEnd State.replySent
  dsimp only
  split
  · exact h
  · split
    · exact h.setUplink _
    · split
      · exact State.InRange.restartNow
      · exact h.setUplink _
    · exact { h with }
    · exact h.setUplink _
    · exact h.setUplink _

theorem State.InRange.completeStore {s : State} (h : s.InRange) : s.completeStore.InRange := by
  unfold State.completeStore
  split
  · exact h
  · exact (((h.setStore _).raise _ _).printStep (State.readSectors_printStep _ _)).runArbiter

theorem State.InRange.resetInputAsserted {s : State} (h : s.InRange) : Reaches (execResetInputAsserted s) State.InRange := by
  have h1 := State.InRange.resetPart (s := s) .line
  refine ⟨_, rfl, ?_⟩
  split
  · exact h
  · exact { h1 with }

theorem State.InRange.resetInputReleased {s : State} (h : s.InRange) : Reaches (execResetInputReleased s) State.InRange := by
  have h1 : (s.setControl { s.control with resetLow := false }).InRange := { h with }
  refine ⟨_, rfl, ?_⟩
  split
  · exact h1.beginStart
  · exact h

/-- An event acts on a running part, or leaves the state. -/
theorem State.InRange.next_ite {s t : State} (h : s.InRange) (c : Bool) (ht : t.InRange) :
    Reaches (.next (if c then t else s)) State.InRange := by
  refine ⟨_, rfl, ?_⟩
  split
  · exact ht
  · exact h

/-- Every event keeps the ranges. -/
theorem event_inRange (c : Instr) {s : State} (hc : isEvent c = true) (h : s.InRange) : Reaches (exec c s) State.InRange := by
  cases c
  case kioskFrameStart p => exact h.next_ite _ (h.setPort p (h.errorCounts p))
  case kioskFrameEnd p => exact ⟨_, rfl, h.kioskFrameEnd p⟩
  case uplinkFrameStart => exact h.next_ite _ h.uplinkStart
  case uplinkFrameEnd => exact ⟨_, rfl, h.uplinkFrameEnd⟩
  case uplinkLinkDown => exact ⟨_, rfl, (h.setUplink _).settleRestart⟩
  case uplinkLinkUp => exact h.next_ite _ (h.setUplink _)
  case tick => exact h.next_ite _ h.tick
  case leaseExpiry => exact h.next_ite _ h.expireLeases
  case authTimeout => exact h.next_ite _ h.expireAuths
  case printerWaitExpiry c => exact h.next_ite _ (h.printStep (s.expirePrinterWait_printStep c)).runArbiter
  case paperWaitExpiry c => exact h.next_ite _ (h.printStep (s.expirePaperWait_printStep c)).runArbiter
  case storeOperationCompletion => exact h.next_ite _ h.completeStore
  case powerOn => exact ⟨_, rfl, .resetPart .power⟩
  case resetInputAsserted => exact h.resetInputAsserted
  case resetInputReleased => exact h.resetInputReleased
  case startUp => exact ⟨_, rfl, h.beginStart⟩
  case keyInputChange active => exact ⟨_, rfl, { h with }⟩
  case lineIdle p => exact h.next_ite _ (h.setPort p (h.errorCounts p))
  all_goals exact absurd hc Bool.false_ne_true

/-! ## Every step -/

theorem inRange_keeps : Keeps State.InRange where
  queue := fun _ _ h => { h with }
  request := fun c p tag payload _ h => runClass_inRange c p tag payload h
  command := fun c tag args _ h => h.manage c tag args
  unknownCode := fun tag code _ h => h.unknownCode tag code
  emptyCommand := fun tag _ h => h.emptyCommand tag
  runFailed := fun p e _ h => h.runFailed p e
  authResponse := fun payload _ h => h.authResponse payload
  uplinkPass := fun port tag payload _ h => h.uplinkPass port tag payload
  event := fun c _ hc h => event_inRange c hc h

/-- Settles O58: every value that a command writes is clamped, checked, read from few enough bytes or counted within its
range. -/
theorem valuesStayInRange : Obligations.ValuesStayInRange := by
  unfold Obligations.ValuesStayInRange
  intro s t h hs
  exact inRange_keeps.step h hs

end Sys2Proof.Machine
end

section
/-! The settings, the clock, the counters, the notice enables, Gateway Hold and the KEY input, on the bytes that carry them
(O52). -/

namespace Sys2Proof.Machine

/-! ## Time settings (R32, R96, R143) -/

theorem readTwoDurations_bytes {x y : Nat} (hx : x < 65536) (hy : y < 65536) :
    readTwoDurations (u16 x ++ u16 y) = some (x, y) := by
  simp [readTwoDurations, Nat.mod_eq_of_lt hx, Nat.mod_eq_of_lt hy]

theorem readDuration_bytes {x : Nat} (hx : x < 65536) : readDuration (u16 x) = some x := by
  simp [readDuration, Nat.mod_eq_of_lt hx]

theorem setLeaseTimes_eq {x y : Nat} (hx : x < 65536) (hy : y < 65536) (s : State) : setLeaseTimes (u16 x ++ u16 y) s =
    ({ s with seats := { s.seats with leaseTime := max 30 (min 900 x), declineGrace := max 15 (min 300 y) } }, .ok,
      u16 (max 30 (min 900 x)) ++ u16 (max 15 (min 300 y))) := by
  rw [setLeaseTimes, readTwoDurations_bytes hx hy, ← clamp_eq (by decide), ← clamp_eq (by decide)]

theorem setAuthTimeout_eq {x : Nat} (hx : x < 65536) (s : State) : setAuthTimeout (u16 x) s =
    ({ s with relay := { s.relay with authTimeout := max 10 (min 120 x) } }, .ok, u16 (max 10 (min 120 x))) := by
  rw [setAuthTimeout, readDuration_bytes hx, ← clamp_eq (by decide)]

theorem setPrintWaits_eq {x y : Nat} (hx : x < 65536) (hy : y < 65536) (s : State) : setPrintWaits (u16 x ++ u16 y) s =
    ({ s with print := { s.print with printerWait := max 5 (min 60 x), paperWait := max 30 (min 600 y) } }, .ok,
      u16 (max 5 (min 60 x)) ++ u16 (max 30 (min 600 y))) := by
  rw [setPrintWaits, readTwoDurations_bytes hx hy, ← clamp_eq (by decide), ← clamp_eq (by decide)]

/-! ## Clock, counters and enables (R195, R197, R202) -/

theorem readClock_bytes {day t : Nat} (hday : day < 65536) (ht : t < 16777216) :
    readClock (u16 day ++ u24 t) = some (day, t) := by
  simp [readClock, Nat.mod_eq_of_lt hday, Nat.mod_eq_of_lt ht]

theorem setClock_eq {day t : Nat} (hday : day < 65536) (ht : t ≤ 86399) (s : State) : setClock (u16 day ++ u24 t) s =
    ({ s with control := { s.control with day := day, seconds := t, clockSet := true } }, .ok,
      u16 day ++ u24 t ++ u16 s.control.day) := by
  rw [setClock, readClock_bytes hday (by omega)]
  exact if_neg (not_lt.2 ht)

theorem setClock_refused {day t : Nat} (hday : day < 65536) (ht : 86399 < t) (ht' : t < 16777216) (s : State) :
    setClock (u16 day ++ u24 t) s = (s, .badArg, []) := by
  rw [setClock, readClock_bytes hday ht']
  exact if_pos ht

theorem readCounters_bytes {n v : Nat} (hn : n < 4294967296) (hv : v < 16777216) :
    readCounters (u32 n ++ u24 v) = some (n, v) := by
  simp [readCounters, Nat.mod_eq_of_lt hn, Nat.mod_eq_of_lt hv]

theorem loadCounters_eq {n v : Nat} (hn : n < 4294967296) (hv : v < 16777216) {s : State} (h : s.control.foyer ≠ .opened) :
    loadCounters (u32 n ++ u24 v) s = ({ s with
      relay := { s.relay with saleCounter := n, saleLoaded := true }
      vouchers := { s.vouchers with serialCounter := v, serialLoaded := true } }, .ok, u32 n ++ u24 v) := by
  rw [loadCounters, readCounters_bytes hn hv]
  exact if_neg h

theorem loadCounters_refused {n v : Nat} (hn : n < 4294967296) (hv : v < 16777216) {s : State} (h : s.control.foyer = .opened) :
    loadCounters (u32 n ++ u24 v) s = (s, .badState, []) := by
  rw [loadCounters, readCounters_bytes hn hv]
  exact if_pos h

theorem bind_readFlag_flag {α : Type} (b : Bool) (rest : Bytes) (f : Bool × Bytes → Option α) :
    (readFlag (flag b ++ rest) >>= f) = f (b, rest) := by simp

theorem readEnables_bytes (e : NoticeEnables) : readEnables e.bytes = some e := by
  simp only [readEnables, NoticeEnables.bytes, List.append_assoc, bind_readFlag_flag, readFlag_flag_end]
  rfl

theorem setNoticeEnables_eq (e : NoticeEnables) (s : State) : setNoticeEnables e.bytes s =
    ({ s with control := { s.control with enables := e } }, .ok, s.control.enables.bytes ++ e.bytes) := by
  rw [setNoticeEnables, readEnables_bytes]
  rfl

/-- Settles O52: each layout is read back, each body writes what it names, and no Restart is set. -/
theorem settingsAndCountersAreWritten : Obligations.SettingsAndCountersAreWritten := by
  unfold Obligations.SettingsAndCountersAreWritten
  intro tag s
  refine ⟨fun x y hx hy => ⟨fun h => ?leases, fun h => ?auth, fun h => ?waits⟩,
    fun day t h hday => ⟨fun ht => ?clock, fun ht ht' => ?clockRefused⟩,
    fun n v h hn hv => ⟨fun hf => ?counters, fun hf => ?countersRefused⟩, fun e h => ?enables,
    fun h => ?gateway, fun active => rfl⟩
  all_goals have hclear := State.restartPending_of_takes h
  case leases => exact runCommand_replies (c := .setLeaseTimes) h (setLeaseTimes_eq hx hy s) hclear
  case auth => exact runCommand_replies (c := .setAuthTimeout) h (setAuthTimeout_eq hx s) hclear
  case waits => exact runCommand_replies (c := .setPrintWaits) h (setPrintWaits_eq hx hy s) hclear
  case clock => exact runCommand_replies (c := .setClock) h (setClock_eq hday ht s) hclear
  case clockRefused => exact runCommand_replies (c := .setClock) h (setClock_refused hday ht ht' s) hclear
  case counters => exact runCommand_replies (c := .loadCounters) h (loadCounters_eq hn hv hf) hclear
  case countersRefused => exact runCommand_replies (c := .loadCounters) h (loadCounters_refused hn hv hf) hclear
  case enables => exact runCommand_replies (c := .setNoticeEnables) h (setNoticeEnables_eq e s) hclear
  case gateway => exact runCommand_replies (c := .clearGatewayHold) h rfl hclear

end Sys2Proof.Machine
end

section
/-! HOLD and RELEASE on the bytes that carry them (O11 to O13): the checks in their order, then what the seats, the counts
and the basket become. -/

namespace Sys2Proof.Machine

/-! ## Requests on a good frame -/

theorem State.role_goodFrame (s : State) (p : PortNo) : ((s.goodFrame p).port p).role = (s.port p).role := by
  rw [State.goodFrame, State.port_setPort, if_pos rfl]

theorem State.sellerCheck_goodFrame {s : State} {p : PortNo} (hf : s.control.foyer ≠ .unconfigured)
    (hr : (s.port p).role ≠ .counter) : (s.goodFrame p).sellerCheck p = none :=
  State.sellerCheck_none hf (by rwa [State.role_goodFrame])

/-- A request that is taken and whose effect does not rest on the port's Error Count. -/
theorem State.request_accepted {s t : State} {p : PortNo} (h : s.hears p = true) (c : KioskClass) (tag : Byte)
    (body : State → Answer) (r : Result) (content : Bytes) (hb : body (s.goodFrame p) = (t.goodFrame p, r, content)) :
    s.request c p tag body = t.answered c p tag r content := by
  rw [State.request_hears h, hb, State.goodFrame_answer]

/-! ## Lists of seats -/

theorem readSeatList_seatList {ks : List Nat} (h : goodSeatList ks) : readSeatList (seatList ks) = some ks := by
  obtain ⟨h1, h10, hnd, hk⟩ := h
  have hlen : ks.length % 256 = ks.length := Nat.mod_eq_of_lt (by omega)
  have hlist := readList16_flatMap ks [] hk
  rw [List.append_nil] at hlist
  simp [readSeatList, seatList, hlen, hlist, h1, h10, hnd]

theorem readHold_bytes {h : Handle} {ks : List Nat} (hgen : h.generation < 256) (hks : goodSeatList ks) :
    readHold (h.bytes ++ seatList ks) = some (h, ks) := by
  simp [readHold, readHandle_bytes _ _ hgen, readSeatList_seatList hks]

theorem goodSeatList.nodup {ks : List Nat} (h : goodSeatList ks) : ks.Nodup := (noRepeat_iff ks).1 h.2.2.1

/-! ## Seats that change each once -/

theorem State.seatAt_eachSeat_nodup (s : State) (i : ShowNo) (g : SeatState → SeatState) {ks : List Nat} (hks : ks.Nodup)
    (n : Nat) : (s.eachSeat i g ks).seatAt i n =
      if n ∈ ks then { s.seatAt i n with state := g (s.seatAt i n).state } else s.seatAt i n := by
  induction ks generalizing s with
  | nil => simp
  | cons k ks ih =>
    obtain ⟨hk, hks⟩ := List.nodup_cons.1 hks
    rw [State.eachSeat_cons, ih _ hks, State.seatAt_setSeatState]
    by_cases hn : n = k
    · subst hn; simp [hk]
    · simp [hn]

/-- Taking seats, as a change of each: the lease is the setting's throughout. -/
theorem State.takeSeats_eq (s : State) (p : PortNo) (i : ShowNo) (ks : List Nat) :
    s.takeSeats p i ks = s.eachSeat i (SeatState.taken p s.seats.leaseTime) ks := by
  induction ks generalizing s with
  | nil => rfl
  | cons k ks ih => exact ih _

theorem State.eachSeat_goodFrame (s : State) (p : PortNo) (i : ShowNo) (g : SeatState → SeatState) (ks : List Nat) :
    (s.goodFrame p).eachSeat i g ks = (s.eachSeat i g ks).goodFrame p := by
  induction ks generalizing s with
  | nil => rfl
  | cons k ks ih => exact ih (s.setSeatState i k (g (s.seatAt i k).state))

theorem SeatState.taken_eq (p : PortNo) (lease : Nat) (x : SeatState) : x.taken p lease = .held p lease x.isHouse := by
  cases x <;> rfl

theorem State.takeSeats_cons (s : State) (p : PortNo) (i : ShowNo) (k : Nat) (ks : List Nat) : s.takeSeats p i (k :: ks) =
    (s.setSeatState i k (.held p s.seats.leaseTime (s.seatAt i k).state.isHouse)).takeSeats p i ks := by
  rw [← SeatState.taken_eq]; rfl

/-- One more HELD, one fewer in the state that was left, which is FREE or HOUSE (R9). -/
theorem SeatCounts.move_held (c : SeatCounts) {x : SeatState} (hx : x = .free ∨ x = .house) (p : PortNo) (lease : Nat)
    (ho : Bool) : c.move x (.held p lease ho) = { c with
      free := c.free - (if x.isFree then 1 else 0), house := c.house - (if x.isHouse then 1 else 0), held := c.held + 1 } := by
  rcases hx with rfl | rfl <;> rfl

theorem State.countSeats_cons (s : State) (i : ShowNo) (k : Nat) (ks : List Nat) (st : SeatState → Bool) :
    s.countSeats i (k :: ks) st = s.countSeats i ks st + if st (s.seatAt i k).state then 1 else 0 := by
  unfold State.countSeats
  rw [List.filter_cons]
  split <;> rfl

/-- R9: the counts of a show whose FREE and HOUSE seats are taken, each once. -/
theorem State.counts_takeSeats (s : State) (p : PortNo) (i : ShowNo) {ks : List Nat} (hks : ks.Nodup)
    (hfree : ∀ k ∈ ks, (s.seatAt i k).state = .free ∨ (s.seatAt i k).state = .house) :
    ((s.takeSeats p i ks).showAt i).counts = { (s.showAt i).counts with
      free := (s.showAt i).counts.free - s.countSeats i ks SeatState.isFree
      house := (s.showAt i).counts.house - s.countSeats i ks SeatState.isHouse
      held := (s.showAt i).counts.held + ks.length } := by
  induction ks generalizing s with
  | nil => rfl
  | cons k ks ih =>
    obtain ⟨hk, hks⟩ := List.nodup_cons.1 hks
    have hmove := (s.showAt i).counts.move_held (hfree k List.mem_cons_self) p s.seats.leaseTime (s.seatAt i k).state.isHouse
    have hshow := s.showAt_setSeat i i k
      { s.seatAt i k with state := .held p s.seats.leaseTime (s.seatAt i k).state.isHouse }
    rw [if_pos rfl, hmove] at hshow
    have hsame : ∀ n ∈ ks,
        (s.setSeatState i k (.held p s.seats.leaseTime (s.seatAt i k).state.isHouse)).seatAt i n = s.seatAt i n :=
      fun n hn => by rw [State.seatAt_setSeatState, if_neg (ne_of_mem_of_not_mem hn hk)]
    have hcount : ∀ st, (s.setSeatState i k (.held p s.seats.leaseTime (s.seatAt i k).state.isHouse)).countSeats i ks st
        = s.countSeats i ks st := fun st => congrArg List.length (List.filter_congr fun n hn => by rw [hsame n hn])
    rw [State.takeSeats_cons, ih _ hks fun n hn => by rw [hsame n hn]; exact hfree n (List.mem_cons_of_mem _ hn), hcount, hcount,
      State.countSeats_cons, State.countSeats_cons, State.setSeatState, hshow]
    simp only [List.length_cons, SeatCounts.mk.injEq, true_and]
    omega

/-! ## The checks of HOLD (R26, R27) -/

theorem State.isNew_eq (s : State) (p : PortNo) (i : ShowNo) : s.isNew p i = fun k => match (s.seatAt i k).state with
    | .held o _ _ => decide (o ≠ p)
    | _ => true := by
  funext k
  unfold State.isNew SeatState.heldBy
  cases (s.seatAt i k).state with
  | held o _ _ => simp
  | free | house | pending _ _ | sold _ _ => rfl

theorem State.holdReason_goodFrame (s : State) (p : PortNo) (i : ShowNo) (k : Nat) :
    (s.goodFrame p).holdReason p i k = s.holdReason p i k := by
  unfold State.holdReason
  rw [State.role_goodFrame]
  rfl

theorem State.holdFailures_goodFrame (s : State) (p : PortNo) (i : ShowNo) (ks : List Nat) :
    (s.goodFrame p).holdFailures p i ks = s.holdFailures p i ks := by
  unfold State.holdFailures
  simp only [State.holdReason_goodFrame]

/-- R27: a listed seat that fails no check and is not yet the port's is FREE, or HOUSE at a box office. -/
theorem State.free_or_house_of_holdReason {s : State} {p : PortNo} {i : ShowNo} {k : Nat} (h : s.holdReason p i k = none)
    (hn : s.isNew p i k = true) : (s.seatAt i k).state = .free ∨ (s.seatAt i k).state = .house := by
  obtain ⟨hheld, -⟩ := State.unowned_of_holdReason h hn
  unfold State.holdReason at h
  split at h
  · cases h
  · cases hst : (s.seatAt i k).state with
    | free => exact .inl rfl
    | house => exact .inr rfl
    | held => rw [hst] at hheld; cases hheld
    | pending | sold => rw [hst] at h; cases h

/-- What a HOLD comes to once its layout has been read: its checks, the seats that fail, or its effect (R26 to R29). -/
def holdRead (p : PortNo) (h : Handle) (ks : List Nat) (s : State) : Answer :=
  match s.holdCheck p h ks with
  | some (r, content) => s.refuse r content
  | none => match s.holdFailures p h.index ks with
    | (k, r) :: rest => s.refuse r (failing ((k, r) :: rest))
    | [] =>
      let new := ks.filter (s.isNew p h.index)
      let s := if new = [] then s else s.holdSeats p h new
      (s, .ok, s.holdContent p h.index ks new)

theorem hold_bytes {p : PortNo} {h : Handle} {ks : List Nat} {s : State} (hseller : s.sellerCheck p = none)
    (hgen : h.generation < 256) (hks : goodSeatList ks) : hold p (h.bytes ++ seatList ks) s = holdRead p h ks s := by
  unfold hold
  rw [hseller]
  dsimp only
  rw [readHold_bytes hgen hks]
  rfl

section
variable {p : PortNo} {h : Handle} {ks : List Nat} {s : State} (hears : s.hears p = true)
  (hfoyer : s.control.foyer ≠ .unconfigured) (hrole : (s.port p).role ≠ .counter) (hgen : h.generation < 256)
  (hks : goodSeatList ks) (tag : Byte)
include hears hfoyer hrole hgen hks

theorem exec_hold_refused {r : Result} {content : Bytes} (hc : s.holdCheck p h ks = some (r, content)) :
    exec (.hold p tag (h.bytes ++ seatList ks)) s = .next (s.answered .hold p tag r content) := by
  have hc' : (s.goodFrame p).holdCheck p h ks = some (r, content) := hc
  refine congrArg Host.Outcome.next (State.request_refused hears .hold tag _ r content ?_)
  rw [hold_bytes (State.sellerCheck_goodFrame hfoyer hrole) hgen hks, holdRead, hc']
  rfl

theorem exec_hold_failing (hc : s.holdCheck p h ks = none) {k : Nat} {r : Result} {rest : List (Nat × Result)}
    (hf : s.holdFailures p h.index ks = (k, r) :: rest) :
    exec (.hold p tag (h.bytes ++ seatList ks)) s = .next (s.answered .hold p tag r (failing ((k, r) :: rest))) := by
  have hc' : (s.goodFrame p).holdCheck p h ks = none := hc
  refine congrArg Host.Outcome.next (State.request_refused hears .hold tag _ r _ ?_)
  rw [hold_bytes (State.sellerCheck_goodFrame hfoyer hrole) hgen hks, holdRead, hc', State.holdFailures_goodFrame, hf]
  rfl

theorem exec_hold_nothing (hc : s.holdCheck p h ks = none) (hf : s.holdFailures p h.index ks = [])
    (hnew : ks.filter (s.isNew p h.index) = []) :
    exec (.hold p tag (h.bytes ++ seatList ks)) s = .next (s.answered .hold p tag .ok (s.holdContent p h.index ks [])) := by
  have hc' : (s.goodFrame p).holdCheck p h ks = none := hc
  have hnew' : ks.filter ((s.goodFrame p).isNew p h.index) = [] := hnew
  refine congrArg Host.Outcome.next (State.request_refused hears .hold tag _ .ok _ ?_)
  rw [hold_bytes (State.sellerCheck_goodFrame hfoyer hrole) hgen hks, holdRead, hc', State.holdFailures_goodFrame, hf]
  dsimp only
  rw [hnew', if_pos rfl]
  rfl

theorem exec_hold_takes (hc : s.holdCheck p h ks = none) (hf : s.holdFailures p h.index ks = [])
    (hnew : ks.filter (s.isNew p h.index) ≠ []) :
    exec (.hold p tag (h.bytes ++ seatList ks)) s = .next ((s.holdSeats p h (ks.filter (s.isNew p h.index))).answered .hold p tag
      .ok ((s.holdSeats p h (ks.filter (s.isNew p h.index))).holdContent p h.index ks (ks.filter (s.isNew p h.index)))) := by
  have hc' : (s.goodFrame p).holdCheck p h ks = none := hc
  have hsame : (s.goodFrame p).isNew p h.index = s.isNew p h.index := rfl
  have heff : (s.goodFrame p).holdSeats p h (ks.filter (s.isNew p h.index))
      = (s.holdSeats p h (ks.filter (s.isNew p h.index))).goodFrame p := by
    unfold State.holdSeats
    rw [State.takeSeats_eq, State.takeSeats_eq, State.goodFrame_seats, State.eachSeat_goodFrame]
    rfl
  refine congrArg Host.Outcome.next (State.request_accepted hears .hold tag _ .ok _ ?_)
  rw [hold_bytes (State.sellerCheck_goodFrame hfoyer hrole) hgen hks, holdRead, hc', State.holdFailures_goodFrame, hf]
  dsimp only
  rw [hsame, if_neg hnew, heff]
  rfl

end

/-- Settles O12: the checks are the model's own in their order, and a HOLD past them fails on a seat, or takes none. -/
theorem holdIsAllOrNone : Obligations.HoldIsAllOrNone := by
  unfold Obligations.HoldIsAllOrNone
  intro p tag h ks s hears hfoyer hrole hgen hks
  have hrefused : ∀ {r content}, s.holdCheck p h ks = some (r, content) → s.holdCheck p h ks = some (r, content)
      ∧ exec (.hold p tag (h.bytes ++ seatList ks)) s = .next (s.answered .hold p tag r content) :=
    fun hc => ⟨hc, exec_hold_refused hears hfoyer hrole hgen hks tag hc⟩
  refine ⟨fun ho => hrefused ?closed, fun ho => ⟨fun hst => hrefused ?notOnSale, fun hst => ⟨fun hg => hrefused ?stale,
    fun hg => ⟨fun hb => hrefused ?outOfMap, fun hb => ⟨fun ha => hrefused ?busy, fun ha => ⟨fun hl hh => hrefused ?mixed,
      fun hl => ⟨fun hn => hrefused ?full, fun hn => ?passes⟩⟩⟩⟩⟩⟩, rfl,
    fun hc k r rest hf => exec_hold_failing hears hfoyer hrole hgen hks tag hc hf, fun hc hf hold => ?again⟩
  case again =>
    have hnew : ks.filter (s.isNew p h.index) = [] := List.filter_eq_nil_iff.2 fun k hk => by rw [hold k hk]; simp
    exact exec_hold_nothing hears hfoyer hrole hgen hks tag hc hf hnew
  -- Each check is taken off the cases behind it once it passes.
  all_goals unfold State.holdCheck; dsimp only
  case closed => rw [if_pos ho]
  all_goals rw [if_neg (not_not.2 ho)]
  case notOnSale => rw [if_pos hst]
  all_goals rw [if_neg (not_not.2 hst)]
  case stale => rw [if_pos]; simp [State.current, hg]
  all_goals rw [if_neg (by simp [State.current, hg, hst] : ¬ s.current h = false)]
  case outOfMap => rw [if_pos hb, failing, List.length_map, List.flatMap_map]
  all_goals rw [if_neg (not_not.2 hb)]
  case busy => rw [if_pos ha]
  all_goals rw [if_neg ha]
  case mixed => rw [if_pos ⟨hl, hh⟩]
  all_goals rw [if_neg (by rintro ⟨h1, h2⟩; exact hl.elim h1 h2)]
  all_goals rw [State.isNew_eq]
  case full => exact if_pos hn
  case passes => exact if_neg (not_lt.2 hn)

/-! ## What a HOLD takes (R28, R33) -/

theorem State.holdSeats_frame (s : State) (p : PortNo) (h : Handle) (new : List Nat) : s.holdSeats p h new =
    { s with
      seats := { s.seats with shows := (s.holdSeats p h new).seats.shows, pool := (s.holdSeats p h new).seats.pool }
      baskets := s.baskets.set p ((s.holdSeats p h new).basket p) } := by
  have hb := State.basket_setBasket (s.takeSeats p h.index new) p p
  unfold State.holdSeats
  dsimp only
  rw [hb, if_pos rfl, (s.takeSeats_seatStep p h.index new).frame]
  rfl

/-- R28, R47: a basket beside no line of another show gains the lines and one undo entry, and is BUILDING. -/
theorem State.basket_holdSeats {s : State} {p : PortNo} {h : Handle} {new : List Nat} (hnew : new ≠ [])
    (hh : (s.basket p).seatLines = [] ∨ (s.basket p).handle = h) : (s.holdSeats p h new).basket p = { s.basket p with
      handle := h
      seatLines := (s.basket p).seatLines ++ new.map (fun k => ({ seat := k, ticketType := 0 } : SeatLine))
      state := .building, undo := (UndoEntry.hold h new :: (s.basket p).undo).take 8, lapsed := false, snapshot := none } := by
  have hhandle : (if (s.basket p).seatLines.isEmpty then h else (s.basket p).handle) = h := by
    rcases hh with hh | hh
    · rw [hh]; rfl
    · rw [hh, ite_self]
  rw [State.holdSeats, State.basket_setBasket, if_pos rfl, hhandle]
  simp [Basket.edited, Basket.pushUndo, Basket.reopened, Basket.settled, Basket.holds, hnew]

/-- Settles O11: the new seats are FREE or HOUSE, each is taken once, and the rest is the basket's own edit. -/
theorem holdTakesSeats : Obligations.HoldTakesSeats := by
  unfold Obligations.HoldTakesSeats
  intro p tag h ks s hears hopen hrole hgen hks hc hf new hnew
  have hnd : new.Nodup := hks.nodup.filter _
  have hunowned : ∀ k ∈ new, (s.seatAt h.index k).state = .free ∨ (s.seatAt h.index k).state = .house := by
    intro k hk
    obtain ⟨hmem, hn⟩ := List.mem_filter.1 hk
    exact State.free_or_house_of_holdReason (Option.map_eq_none_iff.1 (List.filterMap_eq_nil_iff.1 hf k hmem)) hn
  obtain ⟨-, -, -, -, hmix⟩ := State.holdCheck_none hc
  have hstep := s.takeSeats_seatStep p h.index new
  refine ⟨_, exec_hold_takes hears (by rw [hopen]; simp) hrole hgen hks tag hc hf hnew, fun k hk => ?_, hstep.pool, hstep.dir,
    s.counts_takeSeats p h.index hnd hunowned, State.basket_holdSeats hnew hmix, ?_⟩
  · show (s.takeSeats p h.index new).seatAt h.index k = _
    rw [State.takeSeats_eq, State.seatAt_eachSeat_nodup _ _ _ hnd, if_pos hk, SeatState.taken_eq]
  · exact congrArg (fun u : State => u.answered .hold p tag .ok ((s.holdSeats p h new).holdContent p h.index ks new))
      (s.holdSeats_frame p h new)

/-! ## RELEASE (R30, R31) -/

theorem State.releaseSeats_frame (s : State) (p : PortNo) (ks : List Nat) : s.releaseSeats p ks =
    { s with
      seats := { s.seats with shows := (s.releaseSeats p ks).seats.shows, pool := (s.releaseSeats p ks).seats.pool }
      baskets := s.baskets.set p ((s.releaseSeats p ks).basket p) } := by
  rw [State.basket_releaseSeats]
  unfold State.releaseSeats
  dsimp only
  rw [(s.returnSeats_seatStep (s.basket p).handle.index ks).frame]
  rfl

/-- Settles O13: the seats listed that the basket holds return, each to FREE or HOUSE, and their lines go. -/
theorem releaseReturnsSeats : Obligations.ReleaseReturnsSeats := by
  unfold Obligations.ReleaseReturnsSeats
  intro p tag ks s hears hfoyer hrole hks hstate b released
  have hbody : release p (seatList ks) (s.goodFrame p) =
      if released = [] then (s.goodFrame p).refuse .notHeld (releaseContent b ks [])
      else ((s.goodFrame p).releaseSeats p released, .ok,
        releaseContent (((s.goodFrame p).releaseSeats p released).basket p) ks released) := by
    unfold release
    rw [State.sellerCheck_goodFrame hfoyer hrole]
    dsimp only
    rw [readSeatList_seatList hks]
    exact if_neg hstate
  have heff : (s.goodFrame p).releaseSeats p released = (s.releaseSeats p released).goodFrame p := by
    unfold State.releaseSeats
    dsimp only
    rw [State.returnSeats_eq, State.returnSeats_eq, State.eachSeat_goodFrame]
    rfl
  refine ⟨fun hnone => ?_, fun hsome => ⟨(s.releaseSeats p released).answered .release p tag .ok
    (releaseContent ((s.releaseSeats p released).basket p) ks released), ?_, ?_, ?_, ?_⟩⟩
  · refine congrArg Host.Outcome.next (State.request_refused hears .release tag _ .notHeld _ ?_)
    rw [hbody, if_pos hnone]
    rfl
  · refine congrArg Host.Outcome.next (State.request_accepted hears .release tag _ .ok _ ?_)
    rw [hbody, if_neg hsome, heff]
    rfl
  · exact s.returnSeats_returns b.handle.index released
  · exact s.basket_releaseSeats p released
  · exact congrArg (fun u : State => u.answered .release p tag .ok
      (releaseContent ((s.releaseSeats p released).basket p) ks released)) (s.releaseSeats_frame p released)

end Sys2Proof.Machine
end

section
/-! The collections that State.Bounded bounds (O55): what leaves them as they are, and what one port, basket, entry or print
queue may hold. -/

namespace Sys2Proof.Machine

/-- The collections that State.Bounded bounds, as they stand. -/
def State.collections (s : State) :
    Vector Port 16 × UplinkUnit × Vector Basket 16 × List AuthEntry × List Job × List OwedEntry × List Notice :=
  (s.ports, s.uplink, s.baskets, s.relay.entries, s.print.jobs, s.print.owed, s.control.notices)

/-! ## Operations that leave every collection -/

theorem foldl_collections {α : Type} {f : State → α → State} (hf : ∀ t a, (f t a).collections = t.collections) (xs : List α)
    (s : State) : (xs.foldl f s).collections = s.collections :=
  foldl_keeps (P := fun t => t.collections = s.collections) (fun t a ht => (hf t a).trans ht) xs rfl

theorem State.returnSeats_collections (s : State) (i : ShowNo) (ks : List Nat) :
    (s.returnSeats i ks).collections = s.collections :=
  foldl_collections (f := fun s k => s.giveUpSeat i k) (fun _ _ => rfl) ks s

theorem State.takeSeats_collections (s : State) (p : PortNo) (i : ShowNo) (ks : List Nat) :
    (s.takeSeats p i ks).collections = s.collections :=
  foldl_collections (f := fun s k => s.setSeatState i k _) (fun _ _ => rfl) ks s

theorem State.sellSeats_collections (s : State) (i : ShowNo) (sale : Nat) (ls : List PricedLine) :
    (s.sellSeats i sale ls).collections = s.collections :=
  foldl_collections (f := fun s (l : PricedLine) => s.setSeatState i l.seat _) (fun _ _ => rfl) ls s

theorem State.changeSlot_collections (s : State) (n : Nat) (f : Slot → Slot) :
    (s.changeSlot n f).collections = s.collections := by rw [s.changeSlot_frame]; rfl

theorem State.changeSlots_collections (s : State) (f : State → Slot → Slot) (ns : List Nat) :
    (ns.foldl (fun s n => s.changeSlot n (f s)) s).collections = s.collections :=
  foldl_collections (fun t n => t.changeSlot_collections n (f t)) ns s

theorem State.writeSeats_collections (s : State) (i : ShowNo) (k : Nat) (xs : List Seat) :
    (s.writeSeats i k xs).collections = s.collections := by
  induction xs generalizing s k with
  | nil => rfl
  | cons x xs ih => exact ih (s.setSeat i k x) (k + 1)

theorem State.issueSnacks_collections (s : State) (sale expiry : Nat) (cs : List (Fin 32)) :
    (s.issueSnacks sale expiry cs).1.collections = s.collections := by
  induction cs generalizing s with
  | nil => rfl
  | cons c cs ih => exact ih (s.issue (.snack c) sale expiry).1

/-- Seats given up wherever a test picks them. -/
theorem State.giveUpWhere_collections (s : State) (c : State → ShowNo → Nat → Bool) :
    (s.forSeats fun s i k => if c s i k then s.giveUpSeat i k else s).collections = s.collections := by
  refine State.forSeats_keeps (P := fun t => t.collections = s.collections) (fun t i k ht => ?_) rfl
  split
  · exact ht
  · exact ht

/-! ## Commands that leave every collection -/

/-- The commands that set prices, settings, shows, seats, a voucher, the Template Store or the Site Record, and nothing in a
collection. -/
def Command.quiet : Command → Bool
  | .defineShow | .loadSeats | .openShow | .closeShow | .removeShow | .setSeat | .markSold | .setLeaseTimes | .stageBand
  | .stageTicketType | .stageCombo | .stageTax | .stageCeiling | .reloadStaged | .commitPrices | .setAuthTimeout
  | .clearGatewayHold | .voidVoucher | .setPrintWaits | .writeEnable | .writeDisable | .eraseSector | .eraseAll
  | .programPage | .setProtect | .siteProgram | .siteLock | .openFoyer | .closeFoyer | .restart | .setClock
  | .loadCounters | .setNoticeEnables => true
  | _ => false

theorem noArgs_collections {body : State → Answer} {s : State} (hb : (body s).1.collections = s.collections) (args : Bytes) :
    (noArgs args body s).1.collections = s.collections := by
  unfold noArgs
  split
  · exact hb
  · rfl

theorem withShow_collections {h : Handle} {legal : List ShowState} {body : State → Answer} {s : State}
    (hb : (body s).1.collections = s.collections) : (withShow h legal body s).1.collections = s.collections :=
  withShow_fst_of_body (P := fun t => t.collections = s.collections) rfl fun _ => hb

theorem latched_collections {ok : Bool} {body : State → Answer} (hb : ∀ t : State, (body t).1.collections = t.collections)
    (s : State) : (latched ok body s).1.collections = s.collections := by
  unfold latched
  dsimp only
  repeat' split
  any_goals rfl
  exact hb _

theorem State.stage_collections (s : State) (ok : List Bool) (t : PriceTables) (echo : Bytes) :
    (s.stage ok t echo).1.collections = s.collections := by
  unfold State.stage
  split <;> rfl

theorem defineShow_collections (args : Bytes) (s : State) : (defineShow args s).1.collections = s.collections := by
  unfold defineShow
  repeat' split
  all_goals rfl

theorem loadSeats_collections (args : Bytes) (s : State) : (loadSeats args s).1.collections = s.collections := by
  unfold loadSeats
  split
  · rfl
  · refine withShow_collections ?_
    repeat' split
    any_goals rfl
    exact s.writeSeats_collections _ _ _

theorem openShow_collections (args : Bytes) (s : State) : (openShow args s).1.collections = s.collections := by
  unfold openShow
  split
  · rfl
  · exact withShow_collections rfl

theorem closeShow_collections (args : Bytes) (s : State) : (closeShow args s).1.collections = s.collections := by
  unfold closeShow
  split
  · rfl
  · exact withShow_collections rfl

theorem removeShow_collections (args : Bytes) (s : State) : (removeShow args s).1.collections = s.collections := by
  unfold removeShow
  split
  · rfl
  · refine withShow_collections ?_
    dsimp only
    split <;> rfl

theorem setSeatCommand_collections (args : Bytes) (s : State) : (setSeatCommand args s).1.collections = s.collections := by
  unfold setSeatCommand
  split
  · rfl
  · refine withShow_collections ?_
    repeat' split
    all_goals rfl

theorem markSold_collections (args : Bytes) (s : State) : (markSold args s).1.collections = s.collections := by
  unfold markSold
  split
  · rfl
  · refine withShow_collections ?_
    dsimp only
    repeat' split
    any_goals rfl
    exact foldl_collections (f := fun s k => s.setSeatState _ k _) (fun _ _ => rfl) _ s

theorem voidVoucher_collections (args : Bytes) (s : State) : (voidVoucher args s).1.collections = s.collections := by
  unfold voidVoucher
  repeat' split
  all_goals rfl

theorem eraseSector_collections (args : Bytes) (s : State) : (eraseSector args s).1.collections = s.collections := by
  unfold eraseSector
  split
  · rfl
  · split
    · exact latched_collections (fun _ => rfl) s
    · refine latched_collections (fun t => ?_) s
      unfold eraseSectorBody
      repeat' split
      all_goals rfl

theorem eraseAll_collections (args : Bytes) (s : State) : (eraseAll args s).1.collections = s.collections := by
  refine noArgs_collections (latched_collections (fun t => ?_) s) args
  unfold eraseAllBody
  repeat' split
  all_goals rfl

theorem programPage_collections (args : Bytes) (s : State) : (programPage args s).1.collections = s.collections := by
  unfold programPage
  split
  · rfl
  · split
    · refine latched_collections (fun t => ?_) s
      unfold programPageBody
      repeat' split
      all_goals rfl
    · exact latched_collections (fun _ => rfl) s

theorem setProtect_collections (args : Bytes) (s : State) : (setProtect args s).1.collections = s.collections := by
  unfold setProtect
  split
  · rfl
  · split
    · refine latched_collections (fun t => ?_) s
      unfold setProtectBody
      split <;> rfl
    · exact latched_collections (fun _ => rfl) s

theorem siteProgram_collections (args : Bytes) (s : State) : (siteProgram args s).1.collections = s.collections := by
  unfold siteProgram
  split
  · rfl
  · refine latched_collections (fun t => ?_) s
    unfold siteProgramBody
    split <;> rfl

theorem siteLock_collections (args : Bytes) (s : State) : (siteLock args s).1.collections = s.collections := by
  refine noArgs_collections (latched_collections (fun t => ?_) s) args
  unfold siteLockBody
  repeat' split
  all_goals rfl

theorem setLatch_collections (v : Bool) (args : Bytes) (s : State) : (setLatch v args s).1.collections = s.collections := by
  refine noArgs_collections ?_ args
  split <;> rfl

/-- A command that writes no collection leaves them all, whatever it carries. -/
theorem Command.body_collections {c : Command} (h : c.quiet = true) (args : Bytes) (s : State) :
    (c.body args s).1.collections = s.collections := by
  cases c
  case defineShow => exact defineShow_collections args s
  case loadSeats => exact loadSeats_collections args s
  case openShow => exact openShow_collections args s
  case closeShow => exact closeShow_collections args s
  case removeShow => exact removeShow_collections args s
  case setSeat => exact setSeatCommand_collections args s
  case markSold => exact markSold_collections args s
  case setLeaseTimes => simp only [Command.body, Machine.setLeaseTimes]; split <;> rfl
  case stageBand => simp only [Command.body, Machine.stageBand]; split; exacts [rfl, s.stage_collections _ _ _]
  case stageTicketType => simp only [Command.body, Machine.stageTicketType]; split; exacts [rfl, s.stage_collections _ _ _]
  case stageCombo => simp only [Command.body, Machine.stageCombo]; split; exacts [rfl, s.stage_collections _ _ _]
  case stageTax => simp only [Command.body, Machine.stageTax]; split; exacts [rfl, s.stage_collections _ _ _]
  case stageCeiling => simp only [Command.body, Machine.stageCeiling]; split; exacts [rfl, s.stage_collections _ _ _]
  case reloadStaged | commitPrices | clearGatewayHold | restart => exact noArgs_collections rfl args
  case setAuthTimeout => simp only [Command.body, Machine.setAuthTimeout]; split <;> rfl
  case voidVoucher => exact voidVoucher_collections args s
  case setPrintWaits => simp only [Command.body, Machine.setPrintWaits]; split <;> rfl
  case writeEnable => exact setLatch_collections true args s
  case writeDisable => exact setLatch_collections false args s
  case eraseSector => exact eraseSector_collections args s
  case eraseAll => exact eraseAll_collections args s
  case programPage => exact programPage_collections args s
  case setProtect => exact setProtect_collections args s
  case siteProgram => exact siteProgram_collections args s
  case siteLock => exact siteLock_collections args s
  case openFoyer =>
    refine noArgs_collections ?_ args
    repeat' split
    all_goals rfl
  case closeFoyer => refine noArgs_collections ?_ args; split <;> rfl
  case setClock =>
    simp only [Command.body, Machine.setClock]
    repeat' split
    all_goals rfl
  case loadCounters =>
    simp only [Command.body, Machine.loadCounters]
    repeat' split
    all_goals rfl
  case setNoticeEnables => simp only [Command.body, Machine.setNoticeEnables]; split <;> rfl
  all_goals exact absurd h Bool.false_ne_true

end Sys2Proof.Machine
end

section
/-! What one port, basket, entry and Print Engine may hold, and State.Bounded as all of it, with the places of the reply queues
free to be fewer while a request is served (O55). -/

namespace Sys2Proof.Machine

/-! ## Credit claims under UNDO -/

/-- Fewer claims fit wherever more do. -/
theorem claimsFit_of_subperm {l : List UndoEntry} {c c' : List Nat} (hc : c.Subperm c') (h : claimsFit c' l = true) :
    claimsFit c l = true := by
  induction l generalizing c c' with
  | nil =>
    rw [claimsFit, decide_eq_true_eq] at h ⊢
    exact hc.length_le.trans h
  | cons e l ih =>
    cases e with
    | applyCredit n =>
      simp only [claimsFit, Bool.and_eq_true, decide_eq_true_eq] at h ⊢
      exact ⟨hc.length_le.trans h.1, ih (hc.erase n) h.2⟩
    | removeCredit n =>
      simp only [claimsFit, Bool.and_eq_true, decide_eq_true_eq] at h ⊢
      exact ⟨hc.length_le.trans h.1, ih ((List.subperm_append_right [n]).2 hc) h.2⟩
    | hold | release | setType | addCombo | removeCombo => exact ih hc h

theorem length_le_of_claimsFit {l : List UndoEntry} {c : List Nat} (h : claimsFit c l = true) : c.length ≤ 2 := by
  induction l with
  | nil => simpa [claimsFit] using h
  | cons e l ih =>
    cases e with
    | applyCredit n | removeCredit n =>
      simp only [claimsFit, Bool.and_eq_true, decide_eq_true_eq] at h
      exact h.1
    | hold | release | setType | addCombo | removeCombo => exact ih h

/-- R53: a stack whose oldest entries are dropped still fits. -/
theorem claimsFit_take {l : List UndoEntry} {c : List Nat} (h : claimsFit c l = true) (n : Nat) :
    claimsFit c (l.take n) = true := by
  induction l generalizing c n with
  | nil => simpa using h
  | cons e l ih =>
    cases n with
    | zero => simpa [claimsFit] using length_le_of_claimsFit h
    | succ n =>
      rw [List.take_succ_cons]
      cases e with
      | applyCredit k | removeCredit k =>
        simp only [claimsFit, Bool.and_eq_true] at h ⊢
        exact ⟨h.1, ih h.2 n⟩
      | hold | release | setType | addCombo | removeCombo => exact ih h n

/-! ## One port, one basket, one entry, one queue -/

/-- A reply queue of so many places and a downward buffer of 4 (R181, R184). -/
structure Port.Fits (places : Nat) (x : Port) : Prop where
  places : x.places ≤ places
  downPass : x.downPass.length ≤ 4

/-- The lists of a basket within their capacities, its claims also under UNDO (R42, R53, R80). -/
structure Basket.Fits (b : Basket) : Prop where
  undo : b.undo.length ≤ 8
  seatLines : b.seatLines.length ≤ 10
  combos : b.combos.length ≤ 6
  claims : claimsFit b.claims b.undo = true
  snapshot : ∀ x, b.snapshot = some x → x.seats.length ≤ 10

/-- An entry with no more lines and claims than a basket (R91). -/
def AuthEntry.Fits (e : AuthEntry) : Prop := e.seatLines.length ≤ 10 ∧ e.combos.length ≤ 6 ∧ e.claims.length ≤ 2

/-- 32 jobs and 64 owed entries of 16 documents each (R130 to R132, R146). -/
structure PrintEngine.Fits (x : PrintEngine) : Prop where
  documents : ∀ j ∈ x.jobs, j.docs.length ≤ 16
  owedDocuments : ∀ e ∈ x.owed, e.docs.length ≤ 16
  jobs : x.jobs.length ≤ 32
  owed : x.owed.length ≤ 64

/-- State.Bounded with as many places in each reply queue, and as many management replies, as given. -/
structure State.Within (places : PortNo → Nat) (replies : Nat) (s : State) : Prop where
  ports : ∀ p, (s.port p).Fits (places p)
  upwardPass : ∀ p, (s.upwardOf p).length ≤ 4
  baskets : ∀ p, (s.basket p).Fits
  entries : s.relay.entries.length ≤ 24
  entryLines : ∀ e ∈ s.relay.entries, e.Fits
  print : s.print.Fits
  notices : s.control.notices.length ≤ 32
  replies : s.uplink.replies.length ≤ replies

/-- The reply queue of every port has its 8 places (R181). -/
def allPlaces : PortNo → Nat := fun _ => 8

/-- One place of this port's reply queue is free, for the reply to the request being served (R177). -/
def placeFree (p : PortNo) : PortNo → Nat := fun q => if q = p then 7 else 8

theorem State.within_iff (s : State) : s.Within allPlaces 16 ↔ s.Bounded := by
  constructor
  · intro h
    exact {
      places := fun p => (h.ports p).places
      downPass := fun p => (h.ports p).downPass
      upwardPass := h.upwardPass
      undo := fun p => (h.baskets p).undo
      seatLines := fun p => (h.baskets p).seatLines
      combos := fun p => (h.baskets p).combos
      claims := fun p => length_le_of_claimsFit (h.baskets p).claims
      undoneClaims := fun p => (h.baskets p).claims
      snapshots := fun p => (h.baskets p).snapshot
      entries := h.entries
      entryLines := h.entryLines
      documents := h.print.documents
      owedDocuments := h.print.owedDocuments
      jobs := h.print.jobs
      owed := h.print.owed
      notices := h.notices
      replies := h.replies }
  · intro h
    exact {
      ports := fun p => ⟨h.places p, h.downPass p⟩
      upwardPass := h.upwardPass
      baskets := fun p => ⟨h.undo p, h.seatLines p, h.combos p, h.undoneClaims p, h.snapshots p⟩
      entries := h.entries
      entryLines := h.entryLines
      print := ⟨h.documents, h.owedDocuments, h.jobs, h.owed⟩
      notices := h.notices
      replies := h.replies }

/-! ## Baskets -/

namespace Basket.Fits

variable {b : Basket}

theorem reopened (h : b.Fits) : b.reopened.Fits := ⟨h.undo, h.seatLines, h.combos, h.claims, fun _ hx => nomatch hx⟩

/-- R47: an edit keeps the capacities where its lines do and its undo entry fits the claims it leaves. -/
theorem edited {e : UndoEntry} (hseats : b.seatLines.length ≤ 10) (hcombos : b.combos.length ≤ 6)
    (hclaims : claimsFit b.claims (e :: b.undo) = true) : (b.edited e).Fits :=
  ⟨List.length_take_le 8 _, hseats, hcombos, claimsFit_take hclaims 8, fun _ hx => nomatch hx⟩

theorem cleared (b : Basket) : b.cleared.Fits := ⟨Nat.zero_le _, Nat.zero_le _, Nat.zero_le _, rfl, fun _ hx => nomatch hx⟩

/-- Seat lines that leave, whatever becomes of the State and Lapsed; a snapshot stays or goes. -/
theorem filterSeats (h : b.Fits) (f : SeatLine → Bool) : ({ b with seatLines := b.seatLines.filter f } : Basket).Fits :=
  { h with seatLines := (List.length_filter_le _ _).trans h.seatLines }

/-- R21, R59: a seat line lost. -/
theorem loseSeat (h : b.Fits) (k : Nat) : (b.loseSeat k).Fits := by
  have h' := h.filterSeats fun l => decide (l.seat ≠ k)
  unfold Basket.loseSeat
  dsimp only
  split
  · exact { h' with snapshot := fun _ hx => nomatch hx }
  · split
    · exact { h' with snapshot := fun _ hx => nomatch hx }
    · exact h'

/-- R93, R99: a basket whose Undo Stack is emptied. -/
theorem noUndo (h : b.Fits) (st : BasketState) : ({ b with state := st, undo := [], lapsed := false } : Basket).Fits :=
  { h with undo := Nat.zero_le _, claims := claimsFit_take h.claims 0 }

end Basket.Fits

/-! ## Ports -/

namespace Port.Fits

variable {n : Nat} {x : Port}

theorem mono {m : Nat} (h : x.Fits n) (hn : n ≤ m) : x.Fits m := ⟨h.places.trans hn, h.downPass⟩

/-- R181: a reply takes one place. -/
theorem push (h : x.Fits n) (f : KioskFrame) : ({ x with replies := x.replies ++ [f] } : Port).Fits (n + 1) := by
  have hp := h.places
  refine ⟨?_, h.downPass⟩
  simp only [Port.places, List.length_append, List.length_singleton] at hp ⊢
  omega

/-- R88: a kept place takes one place. -/
theorem keep (h : x.Fits n) (tag : Byte) : ({ x with kept := some tag } : Port).Fits (n + 1) := by
  have hp := h.places
  refine ⟨?_, h.downPass⟩
  simp only [Port.places, Option.isSome_some, if_true] at hp ⊢
  omega

/-- R181: a kept place that is freed makes room for a reply. -/
theorem free {tag : Byte} (h : x.Fits n) (hk : x.kept = some tag) : ({ x with kept := none } : Port).Fits (n - 1) ∧ 1 ≤ n := by
  have hp := h.places
  simp only [Port.places, hk, Option.isSome_some, if_true] at hp
  refine ⟨⟨?_, h.downPass⟩, by omega⟩
  simp only [Port.places, Option.isSome_none]
  exact Nat.le_sub_of_add_le hp

/-- R179: a port that loses its state keeps at most its kept place. -/
theorem lose (h : x.Fits n) (st : PortState) : (x.lose st).Fits n :=
  ⟨(Nat.add_le_add_right (Nat.zero_le _) _).trans h.places, Nat.zero_le _⟩

theorem dropReply (h : x.Fits n) : ({ x with replies := x.replies.drop 1 } : Port).Fits n := by
  have hp := h.places
  refine ⟨?_, h.downPass⟩
  simp only [Port.places, List.length_drop] at hp ⊢
  omega

theorem dropPass (h : x.Fits n) : ({ x with downPass := x.downPass.drop 1 } : Port).Fits n :=
  ⟨h.places, ((List.drop_sublist _ _).length_le).trans h.downPass⟩

end Port.Fits

/-! ## The operations the blocks share -/

namespace State.Within

variable {places : PortNo → Nat} {replies : Nat} {s : State}

/-- Being within the capacities rests on the collections alone. -/
theorem kept {t : State} (h : s.Within places replies) (hk : t.collections = s.collections) : t.Within places replies := by
  simp only [State.collections, Prod.mk.injEq] at hk
  obtain ⟨hports, huplink, hbaskets, hentries, hjobs, howed, hnotices⟩ := hk
  exact {
    ports := fun p => by rw [State.port_of_ports hports]; exact h.ports p
    upwardPass := fun p => by rw [State.upwardOf, huplink]; exact h.upwardPass p
    baskets := fun p => by rw [State.basket_of_baskets hbaskets]; exact h.baskets p
    entries := by rw [hentries]; exact h.entries
    entryLines := by rw [hentries]; exact h.entryLines
    print := ⟨by rw [hjobs]; exact h.print.documents, by rw [howed]; exact h.print.owedDocuments,
      by rw [hjobs]; exact h.print.jobs, by rw [howed]; exact h.print.owed⟩
    notices := by rw [hnotices]; exact h.notices
    replies := by rw [huplink]; exact h.replies }

theorem mono {places' : PortNo → Nat} (h : s.Within places replies) (hp : ∀ q, places q ≤ places' q) :
    s.Within places' replies :=
  { h with ports := fun q => (h.ports q).mono (hp q) }

theorem full {p : PortNo} (h : s.Within (placeFree p) replies) : s.Within allPlaces replies :=
  h.mono fun q => by unfold placeFree allPlaces; split <;> decide

theorem setVouchers (h : s.Within places replies) (v : VoucherTable) : State.Within places replies { s with vouchers := v } :=
  h.kept rfl

theorem setControl (h : s.Within places replies) {c : FoyerControl} (hc : c.notices = s.control.notices) :
    (s.setControl c).Within places replies :=
  { h with notices := by rw [State.setControl, hc]; exact h.notices }

theorem setSeatState (h : s.Within places replies) (i : ShowNo) (k : Nat) (x : SeatState) :
    (s.setSeatState i k x).Within places replies := h.kept rfl

theorem setChannel (h : s.Within places replies) (c : ChannelNo) (x : Channel) : (s.setChannel c x).Within places replies :=
  h.kept rfl

/-- A port replaced by one that fits, its place free before. -/
theorem setPortFull {p : PortNo} (h : s.Within (placeFree p) replies) {x : Port} (hx : x.Fits 8) :
    (s.setPort p x).Within allPlaces replies :=
  { h.full with
    ports := fun q => by
      rw [State.port_setPort]
      split
      · exact hx
      · exact h.full.ports q }

theorem setPort (h : s.Within places replies) {p : PortNo} {x : Port} (hx : x.Fits (places p)) :
    (s.setPort p x).Within places replies :=
  { h with
    ports := fun q => by
      rw [State.port_setPort]
      split
      · rename_i hq; rw [hq]; exact hx
      · exact h.ports q }

theorem setBasket (h : s.Within places replies) (p : PortNo) {b : Basket} (hb : b.Fits) :
    (s.setBasket p b).Within places replies :=
  { h with
    baskets := fun q => by
      rw [State.basket_setBasket]
      split
      · exact hb
      · exact h.baskets q }

theorem clearBasket (h : s.Within places replies) (p : PortNo) (b : Basket) :
    (s.setBasket p b.cleared).Within places replies := h.setBasket p (.cleared b)

/-- R201: a full Notice Queue loses its oldest. -/
theorem pushNotice (h : s.Within places replies) (code : Nat) (content : Bytes) :
    (s.pushNotice code content).Within places replies := by
  have hn := State.pushNotice_length h.notices code content
  rw [s.pushNotice_frame]
  exact { h with notices := hn }

theorem raise (h : s.Within places replies) (k : NoticeKind) (content : Bytes) : (s.raise k content).Within places replies := by
  unfold State.raise
  split
  · exact h.pushNotice _ _
  · exact h

theorem checkLow (h : s.Within places replies) : s.checkLow.Within places replies := by
  unfold State.checkLow
  dsimp only
  split
  · split
    · exact (h.setVouchers _).raise _ _
    · exact h
  · exact h.kept rfl

theorem start (h : s.Within places replies) : s.start.Within places replies := (h.setControl (c := { s.control with running := true, tickRunning := true }) rfl).pushNotice _ _

theorem goodFrame (h : s.Within places replies) (p : PortNo) : (s.goodFrame p).Within places replies :=
  h.setPort { h.ports p with }

/-- R181: the reply to a request takes the place that was free. -/
theorem answer {p : PortNo} (h : s.Within (placeFree p) replies) (c : KioskClass) (tag : Byte) (r : Result) (content : Bytes) :
    (s.answer c p tag r content).Within allPlaces replies := by
  have hp := h.ports p
  rw [placeFree, if_pos rfl] at hp
  exact h.setPortFull (hp.push _)

/-- R88, R181: a PAY_RESULT takes the place its PAY kept, or frees it. -/
theorem answerKept (h : s.Within places replies) (p : PortNo) (make : Bool) (r : Result) (content : Bytes) :
    (s.answerKept p make r content).Within places replies := by
  unfold State.answerKept
  split
  · exact h
  · rename_i tag hk
    obtain ⟨hfree, hn⟩ := (h.ports p).free hk
    cases make with
    | false => exact h.setPort (hfree.mono (Nat.sub_le _ _))
    | true =>
      have hpush := hfree.push { cls := KioskClass.pay.replyCode, tag := tag, payload := r.code :: content }
      rw [Nat.sub_add_cancel hn] at hpush
      simp only [if_true, State.answer, State.pushReply, State.port_setPort, State.setPort_setPort]
      exact h.setPort hpush

/-- R205: a management reply joins those that wait. -/
theorem mgmtAnswer (h : s.Within places replies) (code tag : Byte) (r : Result) (content : Bytes) :
    (s.mgmtAnswer code tag r content).Within places (replies + 1) :=
  { h with
    replies := by
      show (s.uplink.replies ++ [_]).length ≤ _
      rw [List.length_append]
      exact Nat.add_le_add_right h.replies 1 }

theorem setEntries (h : s.Within places replies) {r : PaymentRelay} (hn : r.entries.length ≤ 24)
    (he : ∀ e ∈ r.entries, e.Fits) : State.Within places replies { s with relay := r } :=
  { h with entries := hn, entryLines := he }

theorem dropEntry (h : s.Within places replies) (tag : Nat) : (s.dropEntry tag).Within places replies :=
  h.setEntries ((List.length_eraseP_le).trans h.entries) fun e he => h.entryLines e (List.mem_of_mem_eraseP he)

theorem withdrawRequest (h : s.Within places replies) (tag : Nat) : (s.withdrawRequest tag).Within places replies := { h with }

theorem voidBasket (h : s.Within places replies) (p : PortNo) : (s.voidBasket p).Within places replies :=
  ((h.kept (s.returnSeats_collections _ _)).kept (State.changeSlots_collections _ (fun _ => Slot.unclaim) _)).clearBasket p _

theorem voidUnlessAuthorising (h : s.Within places replies) (p : PortNo) :
    (s.voidUnlessAuthorising p).Within places replies := by
  unfold State.voidUnlessAuthorising
  split
  · exact h
  · exact h.voidBasket p

theorem loseHeld (h : s.Within places replies) (i : ShowNo) (k : Nat) : (s.loseHeld i k).Within places replies := by
  unfold State.loseHeld
  split
  · rename_i p _ _ _
    exact (h.setSeatState i k _).setBasket p ((h.baskets p).loseSeat k)
  · exact h

/-! ## The Print Engine -/

theorem setPrint (h : s.Within places replies) {x : PrintEngine} (hx : x.Fits) :
    State.Within places replies { s with print := x } := { h with print := hx }

/-- Jobs that leave the queue, or stay with the documents they have. -/
theorem filterJobs (h : s.Within places replies) (f : Job → Bool) :
    (s.setJobs (s.print.jobs.filter f)).Within places replies :=
  h.setPrint { h.print with
    documents := fun j hj => h.print.documents j (List.mem_filter.1 hj).1
    jobs := (List.length_filter_le _ _).trans h.print.jobs }

theorem changeJob (h : s.Within places replies) (n : Nat) {f : Job → Job} (hf : ∀ j, (f j).docs = j.docs) :
    (s.changeJob n f).Within places replies :=
  h.setPrint { h.print with
    documents := fun j hj => by
      obtain ⟨k, hk, rfl⟩ := List.mem_map.1 hj
      split
      · rw [hf]; exact h.print.documents k hk
      · exact h.print.documents k hk
    jobs := (List.length_map _).trans_le h.print.jobs }

/-- R130, R132: a queue with room takes a job of at most 16 documents. -/
theorem addJob (h : s.Within places replies) (hroom : s.print.jobs.length < 32) {w : JobWork}
    (hw : ∀ r sale origin dest docs, w = .print r sale origin dest docs → docs.length ≤ 16) :
    (s.addJob w).1.Within places replies :=
  h.setPrint { h.print with
    documents := fun j hj => by
      rcases List.mem_append.1 hj with hj | hj
      · exact h.print.documents j hj
      · rw [List.mem_singleton.1 hj]
        cases w with
        | print r sale origin dest docs => exact hw r sale origin dest docs rfl
        | proof k => exact Nat.zero_le _
    jobs := by simpa using hroom }

/-- R146: a list of 64 discards what more it is given. -/
theorem owe (h : s.Within places replies) {e : OwedEntry} (he : e.docs.length ≤ 16) : (s.owe e).Within places replies := by
  unfold State.owe
  refine State.Within.raise ?_ _ _
  split
  · rename_i hroom
    rw [State.owedRoom, decide_eq_true_eq] at hroom
    exact h.setPrint { h.print with
      owedDocuments := fun x hx => by
        rcases List.mem_append.1 hx with hx | hx
        · exact h.print.owedDocuments x hx
        · rw [List.mem_singleton.1 hx]; exact he
      owed := by simpa using hroom }
  · exact h

theorem dropOwedFor (h : s.Within places replies) (sale : Nat) : (s.dropOwedFor sale).Within places replies :=
  h.setPrint { h.print with
    owedDocuments := fun e he => h.print.owedDocuments e (List.mem_of_mem_eraseP he)
    owed := List.length_eraseP_le.trans h.print.owed }

/-- A job found by its number, or by the channel that serves it, is one of the queue. -/
theorem docs_of_jobNumbered (h : s.Within places replies) {n : Nat} {j : Job} (hj : s.jobNumbered n = some j) :
    j.docs.length ≤ 16 := h.print.documents j (List.mem_of_find?_eq_some hj)

theorem docs_of_jobOn (h : s.Within places replies) {c : ChannelNo} {j : Job} (hj : s.jobOn c = some j) : j.docs.length ≤ 16 := by
  unfold State.jobOn at hj
  split at hj
  · exact h.docs_of_jobNumbered hj
  · cases hj

theorem setOffer (h : s.Within places replies) (p : PortNo) (o : Option PrintOffer) :
    (s.setPort p { s.port p with printOffer := o }).Within places replies := h.setPort { h.ports p with }

theorem offer (h : s.Within places replies) (c : ChannelNo) : (s.offer c).Within places replies := by
  unfold State.offer
  repeat' split
  any_goals exact h
  exact h.setOffer _ _

theorem endJob (h : s.Within places replies) (c : ChannelNo) (n : Nat) : (s.endJob c n).Within places replies :=
  (h.filterJobs _).setChannel c _

theorem failJob (h : s.Within places replies) (c : ChannelNo) (why : FailReason) : (s.failJob c why).Within places replies := by
  unfold State.failJob
  split
  · exact h
  · rename_i j hj
    have hdocs := h.docs_of_jobOn hj
    split
    · exact h
    · rename_i docs hw
      rw [Job.docs, hw] at hdocs
      refine State.Within.endJob (State.Within.setOffer (State.Within.owe (h.raise _ _) ?_) _ _) _ _
      exact (List.drop_sublist _ _).length_le.trans hdocs

theorem readSector (h : s.Within places replies) (c : ChannelNo) : (s.readSector c).Within places replies := by
  unfold State.readSector
  split
  · exact h
  · split
    · exact (h.raise _ _).endJob _ _
    · split
      · exact h.endJob _ _
      · split
        · exact h.failJob _ _
        · exact (h.setChannel c _).offer c

theorem enterFetch (h : s.Within places replies) (c : ChannelNo) : (s.enterFetch c).Within places replies := by
  unfold State.enterFetch
  dsimp only
  split
  · exact h.kept rfl
  · exact (h.setChannel c _).readSector c

theorem takeJob (h : s.Within places replies) (c : ChannelNo) (j : Job) : (s.takeJob c j).Within places replies := by
  have h1 := h.changeJob j.number (f := fun k => { k with channel := some c }) fun _ => rfl
  exact (h1.setChannel c _).enterFetch c

theorem assign (h : s.Within places replies) (n : Nat) : (State.assign n s).Within places replies := by
  induction n generalizing s with
  | zero => exact h
  | succ n ih =>
    unfold State.assign
    split
    · exact ih (h.takeJob _ _)
    · exact h

theorem runArbiter (h : s.Within places replies) : s.runArbiter.Within places replies := h.assign _

theorem readSectors (h : s.Within places replies) (cs : List ChannelNo) :
    (cs.foldl (fun s c => s.readSector c) s).Within places replies := foldl_keeps (fun _ c ht => ht.readSector c) cs h

/-! ## Resets -/

theorem resetPart (s : State) (cause : ResetCause) : (s.resetPart cause).Within allPlaces 16 :=
  { State.reset.within_iff.2 State.reset_bounded with }

theorem restartNow (s : State) : s.restartNow.Within allPlaces 16 := (resetPart s .command).start

theorem settleRestart (h : s.Within allPlaces 16) : s.settleRestart.Within allPlaces 16 := by
  unfold State.settleRestart
  split
  · exact restartNow s
  · exact h

theorem beginStart (h : s.Within places replies) : s.beginStart.Within places replies := by
  unfold State.beginStart
  split
  · exact h
  · exact h.start

end State.Within

end Sys2Proof.Machine
end

section
/-! Sales, the ends of an authorisation and the management commands keep every collection within its capacity (O55). -/

namespace Sys2Proof.Machine

/-! ## Documents of a sale (R131) -/

theorem State.ticketDocs_length (s : State) (sale : Nat) (h : Handle) (i : Nat) (ls : List PricedLine) :
    (s.ticketDocs sale h i ls).length = ls.length := by
  induction ls generalizing i with
  | nil => rfl
  | cons l ls ih => exact congrArg (· + 1) (ih (i + 1))

theorem State.voucherDocs_length (s : State) (sale expiry i : Nat) (xs : List (Fin 32 × Nat)) :
    (s.voucherDocs sale expiry i xs).length = xs.length := by
  induction xs generalizing i with
  | nil => rfl
  | cons x xs ih => exact congrArg (· + 1) (ih (i + 1))

/-- A sale of at most 10 seat lines and 6 combo lines. -/
def Sale.Fits (x : Sale) : Prop := x.seatLines.length ≤ 10 ∧ x.combos.length ≤ 6

theorem Sale.Fits.docs {x : Sale} (h : x.Fits) (s : State) (sale : Nat) (serials : List Nat) :
    (s.saleDocs x sale serials).length ≤ 16 := by
  obtain ⟨hseats, hcombos⟩ := h
  rw [State.saleDocs, List.length_append, State.ticketDocs_length, State.voucherDocs_length, List.length_zip]
  omega

theorem AuthEntry.Fits.sale {e : AuthEntry} (h : e.Fits) : e.sale.Fits := ⟨h.1, h.2.1⟩

/-- R148: a job sent to another port keeps its documents. -/
theorem Job.docs_redirect (p : PortNo) (j : Job) : Job.docs { j with work := j.work.redirect p } = j.docs := by
  obtain ⟨number, work, next, channel⟩ := j
  cases work <;> rfl

namespace State.Within

variable {places : PortNo → Nat} {replies : Nat} {s : State}

/-! ## Sales and the ends of an authorisation -/

theorem completeSale (h : s.Within places replies) (x : Sale) (code : Bytes) :
    (s.completeSale x code).1.Within places replies := by
  unfold State.completeSale
  dsimp only
  refine State.Within.raise (h.kept ?_) _ _
  refine (State.changeSlots_collections _ (fun s => Slot.redeem x.origin s.control.day s.control.seconds) _).trans ?_
  exact (State.issueSnacks_collections _ _ _ _).trans (State.sellSeats_collections _ _ _ _)

theorem printSale (h : s.Within places replies) {x : Sale} (hx : x.Fits) (sale : Nat) (serials : List Nat) :
    (s.printSale x sale serials).1.Within places replies := by
  unfold State.printSale
  dsimp only
  split
  · rename_i hroom
    refine h.addJob hroom fun _ _ _ _ docs hw => ?_
    cases hw
    exact hx.docs s sale serials
  · exact h.owe (hx.docs s sale serials)

theorem approve (h : s.Within places replies) {e : AuthEntry} (he : e.Fits) (code : Bytes) :
    (s.approve e code).Within places replies := by
  have h1 := ((h.completeSale e.sale code).dropEntry e.tag).withdrawRequest e.tag
  exact (((h1.clearBasket e.origin _).printSale he.sale _ _).answerKept _ _ _ _).runArbiter

/-- R93, R99: a basket whose Undo Stack is emptied. -/
theorem emptyUndo (h : s.Within places replies) (p : PortNo) (st : BasketState) :
    (s.setBasket p { s.basket p with state := st, undo := [], lapsed := false }).Within places replies :=
  h.setBasket p ((h.baskets p).noUndo st)

theorem decline (h : s.Within places replies) (e : AuthEntry) (fault : Bool) : (s.decline e fault).Within places replies := by
  have h1 : (((s.dropEntry e.tag).withdrawRequest e.tag).freeReservation e.reservation).Within places replies :=
    ((h.dropEntry e.tag).withdrawRequest e.tag).setVouchers _
  unfold State.decline
  dsimp only
  refine (State.Within.answerKept ?_ _ _ _ _).checkLow
  split
  · refine State.Within.emptyUndo (h1.kept ?_) _ _
    refine (State.changeSlots_collections _ (fun _ => Slot.claim (.port e.origin)) _).trans ?_
    exact foldl_collections (f := fun s k => s.setSeatState e.handle.index k _) (fun _ _ => rfl) _ _
  · refine State.Within.clearBasket (h1.kept ?_) _ _
    exact (State.changeSlots_collections _ (fun _ => Slot.unclaim) _).trans (State.returnSeats_collections _ _ _)

theorem approveLate (h : s.Within places replies) {e : AuthEntry} (he : e.Fits) (code : Bytes) (source : Nat) :
    (s.approveLate e code source).1.Within places replies :=
  (((h.completeSale e.sale code).dropEntry e.tag).owe (he.sale.docs _ _ _)).raise _ _

theorem releaseLate (h : s.Within places replies) (e : AuthEntry) (source : Nat) :
    (s.releaseLate e source).Within places replies := by
  have h1 : ((s.returnSeats e.handle.index (e.seatLines.map (·.seat))).returnClaims e.claims).Within places replies :=
    h.kept ((State.changeSlots_collections _ (fun _ => Slot.unclaim) _).trans (s.returnSeats_collections _ _))
  exact (((h1.setVouchers _).dropEntry e.tag).raise _ _).checkLow

theorem resolve (h : s.Within places replies) {e : AuthEntry} (he : e.Fits) (o : AuthOutcome) (code : Bytes) :
    (s.resolve e o code).Within places replies := by
  have hg : s.holdGateway.Within places replies := h.kept rfl
  unfold State.resolve
  split
  · exact h.approve he code
  · exact h.decline e false
  · exact hg.decline e true
  · exact h.approveLate he code 1
  · exact h.releaseLate e 1
  · exact hg.releaseLate e 1

theorem entry (h : s.Within places replies) {tag : Nat} {e : AuthEntry} (he : s.entryTagged tag = some e) : e.Fits :=
  h.entryLines e (List.mem_of_find?_eq_some he)

theorem authResponse (h : s.Within places replies) (payload : Bytes) : (s.authResponse payload).Within places replies := by
  unfold State.authResponse
  split
  · exact h
  · split
    · exact h.raise _ _
    · split
      · exact h.raise _ _
      · rename_i e he
        exact h.resolve (h.entry he) _ _

/-- Entries that change their state alone. -/
theorem mapEntries (h : s.Within places replies) {f : AuthEntry → AuthEntry} (hf : ∀ e, e.Fits → (f e).Fits) :
    State.Within places replies { s with relay := { s.relay with entries := s.relay.entries.map f } } :=
  h.setEntries ((List.length_map _).trans_le h.entries) fun e he => by
    obtain ⟨x, hx, rfl⟩ := List.mem_map.1 he
    exact hf x (h.entryLines x hx)

theorem timeOut (h : s.Within places replies) (e : AuthEntry) : (s.timeOut e).Within places replies := by
  have h1 := h.mapEntries (f := fun x => if x.tag = e.tag then { x with state := .lost } else x) fun x hx => by
    split
    · exact hx
    · exact hx
  exact (((h1.clearBasket e.origin _).answerKept _ _ _ _).withdrawRequest _).raise _ _

theorem expireAuths (h : s.Within places replies) : s.expireAuths.Within places replies :=
  foldl_keeps (fun _ e ht => ht.timeOut e) _ h

theorem expireLeases (h : s.Within places replies) : s.expireLeases.Within places replies := by
  refine State.forSeats_keeps (fun t i k ht => ?_) h
  split
  · exact ht.loseHeld i k
  · exact ht

/-! ## Printing -/

theorem expirePrinterWait (h : s.Within places replies) (c : ChannelNo) : (s.expirePrinterWait c).Within places replies := by
  unfold State.expirePrinterWait
  split
  · exact h.failJob _ _
  · exact h

theorem expirePaperWait (h : s.Within places replies) (c : ChannelNo) : (s.expirePaperWait c).Within places replies := by
  unfold State.expirePaperWait
  split
  · exact h.failJob _ _
  · exact h

theorem expireWaits (h : s.Within places replies) : s.expireWaits.Within places replies :=
  State.Within.runArbiter (foldl_keeps (fun _ c ht => (ht.expirePrinterWait c).expirePaperWait c) allChannels h)

/-- R145: the documents that are left of a stopped job are owed. -/
theorem stopJob (h : s.Within places replies) (p : PortNo) : (s.stopJob p).Within places replies := by
  unfold State.stopJob
  split
  · exact h
  · split
    · exact h
    · rename_i j hj
      have hdocs := h.docs_of_jobOn hj
      split
      · exact h
      · rename_i docs hw
        rw [Job.docs, hw] at hdocs
        exact (h.owe ((List.drop_sublist _ _).length_le.trans hdocs)).endJob _ _

theorem documentDone (h : s.Within places replies) (c : ChannelNo) (j : Job) : (s.documentDone c j).Within places replies := by
  unfold State.documentDone
  split
  · exact (h.changeJob j.number (f := fun k => { k with next := k.next + 1 }) fun _ => rfl).enterFetch c
  · exact h.endJob _ _

theorem enterSend (h : s.Within places replies) (c : ChannelNo) (r : Rendered) : (s.enterSend c r).Within places replies :=
  (h.setChannel c _).offer c

theorem resend (h : s.Within places replies) (c : ChannelNo) : (s.resend c).Within places replies := by
  unfold State.resend
  split
  · exact h.enterSend c _
  · exact h.enterFetch c

theorem report (h : s.Within places replies) (c : ChannelNo) (p : PortNo) (j : Job) (r : PrinterReport) (index : Nat) :
    (s.report c p j r index).Within places replies := by
  unfold State.report
  split
  · split
    · exact (h.documentDone c j).runArbiter
    · exact h
  · exact h.setChannel c _
  · exact h.setChannel c _
  · exact (h.setOffer p _).setChannel c _
  · exact h.setChannel c _
  · exact (h.resend c).runArbiter
  · exact h
  · exact (h.failJob c _).runArbiter
  · exact h

theorem printerStatus (h : s.Within places replies) (p : PortNo) (payload : Bytes) :
    (s.printerStatus p payload).Within places replies := by
  unfold State.printerStatus
  repeat' split
  any_goals exact h
  exact h.report _ _ _ _ _

/-! ## Ports and Foyer Control -/

/-- R179: a port that leaves ACTIVE loses its replies and frames, and its basket. -/
theorem leaveActive (h : s.Within places replies) (p : PortNo) (st : PortState) : (s.leaveActive p st).Within places replies := by
  have h1 := (h.setPort ((h.ports p).lose st)).voidUnlessAuthorising p
  exact ((h1.kept (State.giveUpWhere_collections _ fun s i k => (s.seatAt i k).state.heldBy p)).stopJob p).runArbiter

theorem activate (h : s.Within places replies) (p : PortNo) (n : Nat) : (s.activate p n).Within places replies := by
  have hx := (h.ports p).lose .active
  have h1 : (s.setPort p { (s.port p).lose .active with errorCount := n }).Within places replies := h.setPort { hx with }
  exact h1.runArbiter

theorem runFailed (h : s.Within places replies) (p : PortNo) (e : FramingError) : (s.runFailed p e).Within places replies := by
  have h1 : (s.setPort p { s.port p with errorCount := min 255 ((s.port p).errorCount + 8), lastError := e }).Within
      places replies := h.setPort { h.ports p with }
  have h2 : ∀ c : Prop, [Decidable c] → ∀ t : State, t.Within places replies → ∀ content,
      (if c then t.raise .portWarn content else t).Within places replies := by
    intro c _ t ht content
    split
    · exact ht.raise _ _
    · exact ht
  unfold State.runFailed
  dsimp only
  split
  · exact ((h2 _ _ h1 _).raise _ _).leaveActive _ _
  · exact h2 _ _ h1 _

/-- Every port changed, its replies and its kept place left, and no frame added to its buffer. -/
theorem mapPorts (h : s.Within places replies) {f : Port → Port} (hf : ∀ x n, x.Fits n → (f x).Fits n) :
    State.Within places replies { s with ports := s.ports.map f } :=
  { h with
    ports := fun q => by
      simp only [State.port, Fin.getElem_fin, Vector.getElem_map]
      exact hf _ _ (h.ports q) }

theorem enterFoyer (h : s.Within places replies) (f : FoyerState) : (s.enterFoyer f).1.Within places replies := h.kept rfl

theorem daybreak (h : s.Within places replies) : s.daybreak.Within places replies := by
  have h1 := h.mapPorts (f := Port.awaken) fun x n hx => by
    unfold Port.awaken
    split
    · exact { hx with }
    · exact hx
  exact h1.setControl rfl

theorem nightfall (h : s.Within places replies) : s.nightfall.Within places replies := by
  have h1 : (allPorts.foldl (fun s p => s.voidBasket p) s).Within places replies :=
    foldl_keeps (fun t p ht => ht.voidBasket p) _ h
  unfold State.nightfall
  generalize allPorts.foldl _ s = t at h1
  have h2 : t.freeAllHeld.Within places replies :=
    h1.kept (State.giveUpWhere_collections _ fun s i k => (s.seatAt i k).state.isHeld)
  dsimp only
  generalize t.freeAllHeld = u at h2
  have h3 := h2.mapPorts (f := Port.emptyPass) fun _ _ hx => ⟨hx.places, Nat.zero_le _⟩
  exact { h3 with upwardPass := fun _ => Nat.zero_le _ }

/-! ## Management commands -/

theorem noArgs (h : s.Within places replies) {body : State → Answer} (hb : (body s).1.Within places replies) (args : Bytes) :
    (Machine.noArgs args body s).1.Within places replies := by
  unfold Machine.noArgs
  split
  · exact hb
  · exact h

theorem releaseBlock (h : s.Within places replies) (args : Bytes) : (releaseBlock args s).1.Within places replies := by
  unfold Machine.releaseBlock
  split
  · exact h
  · refine withShow_fst_of_body h fun _ => ?_
    dsimp only
    split
    · exact h
    · exact foldl_keeps (fun _ k ht => ht.loseHeld _ k) _ h

theorem reconcile (h : s.Within places replies) (args : Bytes) : (reconcile args s).1.Within places replies := by
  unfold Machine.reconcile
  split
  · exact h
  · split
    · exact h
    · rename_i e he
      split
      · exact h
      · split
        · exact h.approveLate (h.entry he) _ _
        · exact h.releaseLate e _

theorem issueCredit (h : s.Within places replies) (args : Bytes) : (issueCredit args s).1.Within places replies := by
  unfold Machine.issueCredit
  repeat' split
  any_goals exact h
  exact (h.setVouchers _).checkLow

theorem rollDay (h : s.Within places replies) (d : Nat) : (s.rollDay d).Within places replies := by
  have h1 : State.Within places replies
      { s with control := { s.control with day := d }, vouchers := s.vouchers.reclaim d } := h.kept rfl
  exact h1.checkLow

theorem dayRoll (h : s.Within places replies) (args : Bytes) : (dayRoll args s).1.Within places replies := by
  unfold Machine.dayRoll
  repeat' split
  any_goals exact h
  exact h.rollDay _

theorem redirectJob (h : s.Within places replies) (args : Bytes) : (redirectJob args s).1.Within places replies := by
  unfold Machine.redirectJob
  repeat' split
  any_goals exact h
  exact (h.changeJob _ (f := fun k => { k with work := k.work.redirect _ }) (Job.docs_redirect _)).runArbiter

theorem cancelJob (h : s.Within places replies) (args : Bytes) : (cancelJob args s).1.Within places replies := by
  unfold Machine.cancelJob
  split
  · exact h
  · split
    · exact h
    · rename_i j hj
      have hdocs := h.docs_of_jobNumbered hj
      split
      · exact h
      · rename_i docs hw
        rw [Job.docs, hw] at hdocs
        repeat' split
        any_goals exact h
        exact (h.filterJobs _).owe ((List.drop_sublist _ _).length_le.trans hdocs)

theorem dropOwed (h : s.Within places replies) (args : Bytes) : (dropOwed args s).1.Within places replies := by
  unfold Machine.dropOwed
  repeat' split
  any_goals exact h
  exact h.dropOwedFor _

theorem proofTemplate (h : s.Within places replies) (args : Bytes) : (proofTemplate args s).1.Within places replies := by
  unfold Machine.proofTemplate
  split
  · exact h
  · split
    · exact h
    · rename_i hroom
      exact (h.addJob (not_le.1 hroom) fun _ _ _ _ _ hw => by cases hw).runArbiter

theorem configurePort (h : s.Within places replies) (args : Bytes) : (configurePort args s).1.Within places replies := by
  unfold Machine.configurePort
  repeat' split
  any_goals exact h
  exact h.setPort { h.ports _ with }

theorem enablePort (h : s.Within places replies) (args : Bytes) : (enablePort args s).1.Within places replies := by
  unfold Machine.enablePort
  repeat' split
  any_goals exact h
  exact h.activate _ _

theorem disablePort (h : s.Within places replies) (args : Bytes) : (disablePort args s).1.Within places replies := by
  unfold Machine.disablePort State.disable
  split
  · exact h
  · dsimp only
    split
    · exact h.voidUnlessAuthorising _
    · exact h.leaveActive _ _
    · exact h.setPort { h.ports _ with }

theorem restorePort (h : s.Within places replies) (args : Bytes) : (restorePort args s).1.Within places replies := by
  unfold Machine.restorePort
  split
  · exact h
  · split
    · exact h
    · exact h.activate _ _

theorem clearErrorCode (h : s.Within places replies) (args : Bytes) : (clearErrorCode args s).1.Within places replies := by
  unfold Machine.clearErrorCode
  split
  · exact h
  · exact h.setPort { h.ports _ with }

theorem night (h : s.Within places replies) (args : Bytes) : (night args s).1.Within places replies := by
  refine h.noArgs ?_ args
  split
  · exact h
  · split
    · exact h
    · exact h.nightfall.enterFoyer .night

theorem wake (h : s.Within places replies) (args : Bytes) : (wake args s).1.Within places replies := by
  refine h.noArgs ?_ args
  split
  · exact h
  · exact h.daybreak.enterFoyer .closed

/-- Every management command keeps the capacities. -/
theorem body (h : s.Within places replies) (c : Command) (args : Bytes) : (c.body args s).1.Within places replies := by
  cases hr : c.reports with
  | true => rw [Command.body_fst_of_reports hr]; exact h
  | false =>
    cases hq : c.quiet with
    | true => exact h.kept (Command.body_collections hq args s)
    | false =>
      have hrest : (c.reports || c.quiet) = false := by rw [hr, hq]; rfl
      cases c
      case releaseBlock => exact h.releaseBlock args
      case reconcile => exact h.reconcile args
      case issueCredit => exact h.issueCredit args
      case redirectJob => exact h.redirectJob args
      case cancelJob => exact h.cancelJob args
      case dropOwed => exact h.dropOwed args
      case proofTemplate => exact h.proofTemplate args
      case configurePort => exact h.configurePort args
      case enablePort => exact h.enablePort args
      case disablePort => exact h.disablePort args
      case restorePort => exact h.restorePort args
      case clearErrorCode => exact h.clearErrorCode args
      case night => exact h.night args
      case wake => exact h.wake args
      case dayRoll => exact h.dayRoll args
      all_goals exact absurd hrest.symm Bool.false_ne_true

/-- While a command can be taken, one reply more can wait (R200). -/
theorem room {c : Option Command} (h : s.Within places 16) (hc : s.takesCommand c = true) : s.Within places 15 := by
  simp only [State.takesCommand, Bool.and_eq_true, decide_eq_true_eq] at hc
  exact { h with replies := Nat.le_of_lt_succ hc.1.2 }

theorem manage (h : s.Within allPlaces 16) (c : Command) (tag : Byte) (args : Bytes) :
    (s.manage c tag (c.body args)).Within allPlaces 16 := by
  unfold State.manage
  split
  · exact h
  · rename_i hc
    exact (((h.room (Bool.of_not_eq_false hc)).body c args).mgmtAnswer _ _ _ _).settleRestart

theorem unknownCode (h : s.Within allPlaces 16) (tag code : Byte) : (s.unknownCode tag code).Within allPlaces 16 := by
  unfold State.unknownCode
  split
  · exact h
  · rename_i hc
    exact (h.room (Bool.of_not_eq_false hc)).mgmtAnswer _ _ _ _

theorem emptyCommand (h : s.Within allPlaces 16) (tag : Byte) : (s.emptyCommand tag).Within allPlaces 16 := by
  unfold State.emptyCommand
  split
  · exact h
  · rename_i hc
    have h1 : State.Within allPlaces 15 { s with freeCount := s.freeCount + 1 } :=
      (h.room (Bool.of_not_eq_false hc)).kept rfl
    exact h1.mgmtAnswer _ _ _ _

end State.Within

end Sys2Proof.Machine
end

section
/-! Kiosk requests, links and events keep every collection within its capacity, and so every step does (O55). -/

namespace Sys2Proof.Machine

@[simp] theorem State.setBasket_basket (s : State) (p : PortNo) : s.setBasket p (s.basket p) = s := by
  simp [State.setBasket, State.basket]

/-! ## What the checks leave room for -/

/-- R26, check 7: the seats a HOLD adds find room among the basket's lines. -/
theorem State.room_of_holdCheck {s : State} {p : PortNo} {h : Handle} {ks : List Nat} (hc : s.holdCheck p h ks = none) :
    (s.basket p).seatLines.length + (ks.filter (s.isNew p h.index)).length ≤ 10 := by
  by_contra hroom
  unfold State.holdCheck at hc
  dsimp only at hc
  rw [if_pos (not_le.1 hroom)] at hc
  repeat' split at hc
  all_goals cases hc

/-- R89, check 7: an entry that a PAY adds finds room in the Authorisation List. -/
theorem State.room_of_payRefusal {s : State} {b : Basket} {x : Snapshot} (hc : s.payRefusal b x = none) (hnet : x.net ≠ 0) :
    s.relay.entries.length < 24 := by
  by_contra hroom
  unfold State.payRefusal at hc
  rw [if_pos (⟨Nat.pos_of_ne_zero hnet, not_lt.1 hroom⟩ : 0 < x.net ∧ 24 ≤ s.relay.entries.length)] at hc
  repeat' split at hc
  all_goals cases hc

/-- R56: a seat held again finds room among the basket's lines. -/
theorem State.room_of_undoReleaseSeat {s : State} {p : PortNo} {h : Handle} {k : Nat}
    (hr : s.undoReleaseSeat p h k = .reversed) : (s.basket p).seatLines.length < 10 := by
  by_contra hroom
  unfold State.undoReleaseSeat at hr
  simp only [if_neg hroom] at hr
  repeat' split at hr
  all_goals cases hr

namespace State.Within

variable {places : PortNo → Nat} {replies : Nat} {s : State}

/-! ## HOLD, RELEASE and the edits of a basket -/

theorem holdSeats (h : s.Within places replies) {p : PortNo} {hd : Handle} {new : List Nat}
    (hroom : (s.basket p).seatLines.length + new.length ≤ 10) : (s.holdSeats p hd new).Within places replies := by
  have hb := h.baskets p
  refine (h.kept (s.takeSeats_collections p hd.index new)).setBasket p (.edited ?_ hb.combos hb.claims)
  rwa [List.length_append, List.length_map]

theorem hold (h : s.Within places replies) (p : PortNo) (payload : Bytes) : (hold p payload s).1.Within places replies := by
  unfold Machine.hold
  split
  · exact h
  · split
    · exact h
    · split
      · exact h
      · rename_i hc
        split
        · exact h
        · dsimp only
          split
          · exact h
          · exact h.holdSeats (State.room_of_holdCheck hc)

theorem release (h : s.Within places replies) (p : PortNo) (payload : Bytes) :
    (release p payload s).1.Within places replies := by
  have hb := h.baskets p
  unfold Machine.release
  dsimp only
  repeat' split
  any_goals exact h
  exact (h.kept (s.returnSeats_collections _ _)).setBasket p (.edited (hb.filterSeats _).seatLines hb.combos hb.claims)

theorem setTypeBody (h : s.Within places replies) (p : PortNo) (a : Nat × Fin 8) :
    (setTypeBody p a s).1.Within places replies := by
  have hb := h.baskets p
  unfold Machine.setTypeBody
  dsimp only
  repeat' split
  any_goals exact h
  exact h.setBasket p (.edited ((List.length_map _).trans_le hb.seatLines) hb.combos hb.claims)

theorem addComboBody (h : s.Within places replies) (p : PortNo) (c : Fin 32) :
    (addComboBody p c s).1.Within places replies := by
  have hb := h.baskets p
  unfold Machine.addComboBody
  dsimp only
  split
  · exact h
  · split
    · exact h
    · rename_i hroom
      refine h.setBasket p (.edited hb.seatLines ?_ hb.claims)
      rw [List.length_append, List.length_singleton]
      exact not_le.1 hroom

theorem removeComboBody (h : s.Within places replies) (p : PortNo) (n : Nat) :
    (removeComboBody p n s).1.Within places replies := by
  have hb := h.baskets p
  unfold Machine.removeComboBody
  dsimp only
  split
  · exact h
  · exact h.setBasket p (.edited hb.seatLines ((List.length_eraseIdx_le _ _).trans hb.combos) hb.claims)

/-- R51: undoing the claim just made leaves the claims of before, which fit. -/
theorem applyCreditBody (h : s.Within places replies) (p : PortNo) (n : Nat) :
    (applyCreditBody p n s).1.Within places replies := by
  have hb := h.baskets p
  unfold Machine.applyCreditBody
  dsimp only
  split
  · exact h
  · rename_i hn
    split
    · exact h
    · rename_i hroom
      split
      · exact h
      · refine (h.kept (s.changeSlot_collections _ _)).setBasket p (.edited hb.seatLines hb.combos ?_)
        have hback : ((s.basket p).claims ++ [n]).erase n = (s.basket p).claims := by
          rw [List.erase_append_right _ (by simpa using hn), List.erase_cons_head, List.append_nil]
        rw [claimsFit, hback, hb.claims, Bool.and_true, decide_eq_true_eq, List.length_append]
        exact not_le.1 hroom

/-- R52: undoing the return of a claim leaves the claims of before, in another order. -/
theorem removeCreditBody (h : s.Within places replies) (p : PortNo) (n : Nat) :
    (removeCreditBody p n s).1.Within places replies := by
  have hb := h.baskets p
  unfold Machine.removeCreditBody
  dsimp only
  split
  · exact h
  · rename_i hn
    have hmem : n ∈ (s.basket p).claims := by simpa using hn
    refine (h.kept (s.changeSlot_collections _ _)).setBasket p (.edited hb.seatLines hb.combos ?_)
    have hback : ((s.basket p).claims.erase n ++ [n]).Subperm (s.basket p).claims :=
      (List.perm_append_singleton n _ |>.trans (List.perm_cons_erase hmem).symm).subperm
    rw [claimsFit, claimsFit_of_subperm hback hb.claims, Bool.and_true, decide_eq_true_eq]
    exact ((s.basket p).claims.erase_sublist).length_le.trans (length_le_of_claimsFit hb.claims)

/-! ## UNDO (R54 to R58) -/

theorem undoHold (h : s.Within places replies) (p : PortNo) (hd : Handle) (seats : List Nat) :
    (s.undoHold p hd seats).1.Within places replies :=
  (h.kept (s.returnSeats_collections _ _)).setBasket p ((h.baskets p).filterSeats _)

theorem undoReleaseSeats (h : s.Within places replies) (p : PortNo) (hd : Handle) (ls : List SeatLine) :
    (s.undoReleaseSeats p hd ls).1.Within places replies := by
  induction ls generalizing s with
  | nil => exact h
  | cons l ls ih =>
    refine ih ?_
    split
    · rename_i hr
      refine (h.kept (s.takeSeats_collections _ _ _)).setBasket p { h.baskets p with seatLines := ?_ }
      rw [List.length_append, List.length_singleton]
      exact State.room_of_undoReleaseSeat hr
    · exact h

/-- The state an UNDO works on: with the entry back on its stack it is within the capacities. -/
theorem reverse {p : PortNo} {e : UndoEntry}
    (h : (s.setBasket p { s.basket p with undo := e :: (s.basket p).undo }).Within places replies) :
    (s.reverse p e).1.Within places replies := by
  have hb : ({ s.basket p with undo := e :: (s.basket p).undo } : Basket).Fits := by simpa using h.baskets p
  obtain ⟨hstack, hseats, hcombos, hclaims, hsnap⟩ := hb
  have hundo : (s.basket p).undo.length ≤ 8 := (Nat.le_succ _).trans hstack
  have hset : ∀ {b : Basket}, b.Fits → (s.setBasket p b).Within places replies := fun {b} hb => by
    simpa using h.setBasket p hb
  have hself : claimsFit (s.basket p).claims (s.basket p).undo = true → s.Within places replies := fun hc => by
    rw [← s.setBasket_basket p]
    exact hset ⟨hundo, hseats, hcombos, hc, hsnap⟩
  cases e with
  | hold hd seats => exact (hself hclaims).undoHold p hd seats
  | release hd lines =>
    unfold State.reverse State.undoRelease
    dsimp only
    split
    · exact hself hclaims
    · exact (hself hclaims).undoReleaseSeats p hd lines
  | setType k t =>
    unfold State.reverse State.undoSetType
    dsimp only
    split
    · exact hset ⟨hundo, (List.length_map _).trans_le hseats, hcombos, hclaims, hsnap⟩
    · exact hself hclaims
  | addCombo n =>
    unfold State.reverse State.undoAddCombo
    dsimp only
    split
    · exact hset ⟨hundo, hseats, (List.length_eraseIdx_le _ _).trans hcombos, hclaims, hsnap⟩
    · exact hself hclaims
  | removeCombo c n =>
    unfold State.reverse State.undoRemoveCombo
    dsimp only
    split
    · exact hself hclaims
    · split
      · exact hself hclaims
      · rename_i hroom
        refine hset ⟨hundo, hseats, ?_, hclaims, hsnap⟩
        simp only [List.length_append, List.length_cons, List.length_take, List.length_drop]
        omega
  | applyCredit n =>
    simp only [claimsFit, Bool.and_eq_true] at hclaims
    unfold State.reverse State.undoApplyCredit
    dsimp only
    split
    · have h1 := hset (b := { s.basket p with claims := (s.basket p).claims.erase n })
        ⟨hundo, hseats, hcombos, hclaims.2, hsnap⟩
      exact h1.kept (by rw [s.changeSlot_frame]; rfl)
    · rename_i hn
      refine hself ?_
      rw [← List.erase_of_not_mem (by simpa using hn : n ∉ (s.basket p).claims)]
      exact hclaims.2
  | removeCredit n =>
    simp only [claimsFit, Bool.and_eq_true] at hclaims
    have hskip := hself (claimsFit_of_subperm (List.sublist_append_left _ _).subperm hclaims.2)
    unfold State.reverse State.undoRemoveCredit
    dsimp only
    split
    · exact hskip
    · split
      · exact hskip
      · exact (hskip.kept (s.changeSlot_collections _ _)).setBasket p ⟨hundo, hseats, hcombos, hclaims.2, hsnap⟩

theorem undoBody (h : s.Within places replies) (p : PortNo) (u : Unit) : (undoBody p u s).1.Within places replies := by
  unfold Machine.undoBody
  split
  · exact h
  · rename_i e rest hundo
    have hback : ((s.setBasket p { s.basket p with undo := rest }).setBasket p
        { (s.setBasket p { s.basket p with undo := rest }).basket p with
          undo := e :: ((s.setBasket p { s.basket p with undo := rest }).basket p).undo }) = s := by
      simp only [State.basket_setBasket, if_true, State.setBasket_setBasket, ← hundo]
      exact s.setBasket_basket p
    rw [← hback] at h
    have h1 := reverse h
    exact h1.setBasket p (h1.baskets p).reopened

/-! ## PRICE, PAY, REDEEM and REPRINT -/

theorem price (h : s.Within places replies) (p : PortNo) (payload : Bytes) : (price p payload s).1.Within places replies := by
  unfold Machine.price
  dsimp only
  repeat' split
  any_goals exact h
  refine h.setBasket p { h.baskets p with snapshot := fun x hx => ?_ }
  cases hx
  exact (List.length_map _).trans_le (h.baskets p).seatLines

theorem redeem (h : s.Within places replies) (p : PortNo) (payload : Bytes) : (redeem p payload s).1.Within places replies := by
  unfold Machine.redeem
  repeat' split
  any_goals exact h
  exact h.kept (s.changeSlot_collections _ _)

theorem reprint (h : s.Within places replies) (p : PortNo) (payload : Bytes) :
    (reprint p payload s).1.Within places replies := by
  unfold Machine.reprint
  split
  · exact h
  · split
    · exact h
    · split
      · exact h
      · split
        · exact h
        · rename_i e he
          split
          · exact h
          · rename_i hroom
            have hdocs := h.print.owedDocuments e (List.mem_of_find?_eq_some he)
            refine (State.Within.addJob (h.dropOwedFor _) (not_le.1 hroom) fun _ _ _ _ docs hw => ?_).runArbiter
            cases hw
            exact hdocs

/-- R106: a sale with nothing to pay takes its snapshot's seat lines. -/
theorem zeroTotal {p : PortNo} (h : s.Within (placeFree p) replies) (tag : Byte) {x : Snapshot}
    (hx : (s.basket p).snapshot = some x) : (s.zeroTotal p tag x).Within allPlaces replies := by
  have hsale : ((s.basket p).zeroSale p x).Fits := ⟨(h.baskets p).snapshot x hx, (h.baskets p).combos⟩
  exact ((((h.completeSale _ []).clearBasket p _).printSale hsale _ _).answer _ _ _ _).runArbiter.checkLow

/-- R88: an accepted PAY keeps the place of its reply. -/
theorem keepPlace {p : PortNo} (h : s.Within (placeFree p) replies) (tag : Byte) :
    (s.setPort p { s.port p with kept := some tag }).Within allPlaces replies := by
  have hp := h.ports p
  rw [placeFree, if_pos rfl] at hp
  exact h.setPortFull (hp.keep tag)

theorem setRequests (h : s.Within places replies) (rs : List AuthRequest) :
    State.Within places replies { s with uplink := { s.uplink with authRequests := rs } } := { h with }

/-- R91, R93: an entry takes its snapshot's seat lines and its basket's combo lines and claims. -/
theorem acceptPay {p : PortNo} (h : s.Within (placeFree p) replies) (tag : Byte) (token : Bytes) {x : Snapshot}
    (hx : (s.basket p).snapshot = some x) (hroom : s.relay.entries.length < 24) :
    (s.acceptPay p tag token x).Within allPlaces replies := by
  have hb := h.baskets p
  have he : (s.newEntry p x).Fits := ⟨hb.snapshot x hx, hb.combos, length_le_of_claimsFit hb.claims⟩
  have h1 : State.Within (placeFree p) replies { s with relay := s.relay.accept (s.newEntry p x) } := by
    refine h.setEntries (by simpa [PaymentRelay.accept] using hroom) fun e hm => ?_
    rcases List.mem_append.1 hm with hm | hm
    · exact h.entryLines e hm
    · rw [List.mem_singleton.1 hm]; exact he
  refine State.Within.checkLow (State.Within.setRequests (State.Within.keepPlace (State.Within.setBasket (h1.kept ?_) p
    (hb.noUndo .authorising)) tag) _)
  refine (State.changeSlots_collections _ (fun _ => Slot.claim (.tag (s.newEntry p x).tag)) _).trans ?_
  exact foldl_collections (f := fun s (l : PricedLine) => s.setSeatState _ l.seat _) (fun _ _ => rfl) _ _

theorem pay {p : PortNo} (h : s.Within (placeFree p) replies) (tag : Byte) (token : Bytes) :
    (s.pay p tag token).Within allPlaces replies := by
  unfold State.pay
  split
  · exact h.answer _ _ _ _
  · split
    · rename_i x _ hx
      split
      · refine State.Within.answer ?_ _ _ _ _
        unfold State.payRefused
        split
        · exact h.setBasket p { h.baskets p with snapshot := fun _ hx => nomatch hx }
        · exact h
      · rename_i hc
        split
        · exact h.zeroTotal tag hx
        · rename_i hnet
          exact h.acceptPay tag token hx (State.room_of_payRefusal hc hnet)
    · exact h.answer _ _ _ _

/-! ## Every kiosk frame -/

/-- R174, R177: a request that is served finds a place free for its reply. -/
theorem takeRequest (h : s.Within allPlaces replies) (p : PortNo) {owner : State → State}
    (ho : ∀ t : State, t.Within (placeFree p) replies → (owner t).Within allPlaces replies) :
    (s.takeRequest p owner).Within allPlaces replies := by
  unfold State.takeRequest
  split
  · exact h
  · split
    · exact h
    · rename_i hroom
      refine ho _ (State.Within.goodFrame { h with ports := fun q => ?_ } p)
      unfold placeFree
      split
      · rename_i hq
        rw [hq]
        exact ⟨Nat.le_of_lt_succ (not_le.1 hroom), (h.ports p).downPass⟩
      · exact h.ports q

theorem request (h : s.Within allPlaces replies) (c : KioskClass) (p : PortNo) (tag : Byte) {body : State → Answer}
    (hb : ∀ t : State, t.Within (placeFree p) replies → (body t).1.Within (placeFree p) replies) :
    (s.request c p tag body).Within allPlaces replies :=
  h.takeRequest p fun t ht => (hb t ht).answer c tag _ _

theorem basketRequest {α : Type} {p : PortNo} {served : Bool} {arg : Option α} {body : α → State → Answer}
    (hb : ∀ (a : α) (t : State), t.Within places replies → (body a t).1.Within places replies) (t : State)
    (h : t.Within places replies) : (basketRequest p served arg body t).1.Within places replies := by
  unfold Machine.basketRequest
  repeat' split
  any_goals exact h
  exact hb _ _ h

theorem passUp (h : s.Within places replies) (p : PortNo) (tag : Byte) (payload : Bytes) :
    (s.passUp p tag payload).Within places replies := by
  unfold State.passUp
  split
  · rename_i hc
    simp only [Bool.and_eq_true, decide_eq_true_eq] at hc
    refine { h with upwardPass := fun q => ?_ }
    show List.length (List.filter _ (s.uplink.upwardPass ++ [_])) ≤ 4
    rw [List.filter_append, List.length_append]
    by_cases hq : p = q
    · rw [← hq]
      exact (Nat.add_le_add_left (List.length_filter_le _ _) _).trans hc.2
    · rw [List.filter_cons_of_neg (by simpa using hq)]
      exact h.upwardPass q
  · exact h

theorem runClass (h : s.Within allPlaces replies) (c : KioskClass) (p : PortNo) (tag : Byte) (payload : Bytes) :
    Reaches (runClass c p tag payload s) (State.Within allPlaces replies) := by
  cases c
  case seatQuery => exact ⟨_, rfl, h.request .seatQuery p tag fun t ht => by rw [seatQuery_fst]; exact ht⟩
  case hold => exact ⟨_, rfl, h.request .hold p tag fun _ ht => ht.hold p payload⟩
  case release => exact ⟨_, rfl, h.request .release p tag fun _ ht => ht.release p payload⟩
  case setType => exact ⟨_, rfl, h.request .setType p tag (basketRequest fun a _ ht => ht.setTypeBody p a)⟩
  case addCombo => exact ⟨_, rfl, h.request .addCombo p tag (basketRequest fun a _ ht => ht.addComboBody p a)⟩
  case removeCombo => exact ⟨_, rfl, h.request .removeCombo p tag (basketRequest fun a _ ht => ht.removeComboBody p a)⟩
  case applyCredit => exact ⟨_, rfl, h.request .applyCredit p tag (basketRequest fun a _ ht => ht.applyCreditBody p a)⟩
  case removeCredit => exact ⟨_, rfl, h.request .removeCredit p tag (basketRequest fun a _ ht => ht.removeCreditBody p a)⟩
  case undo => exact ⟨_, rfl, h.request .undo p tag (basketRequest fun a _ ht => ht.undoBody p a)⟩
  case cancel => exact ⟨_, rfl, h.request .cancel p tag (basketRequest fun _ _ ht => ht.voidBasket p)⟩
  case price => exact ⟨_, rfl, h.request .price p tag fun _ ht => ht.price p payload⟩
  case pay => exact ⟨_, rfl, h.takeRequest p fun _ ht => ht.pay tag payload⟩
  case redeem => exact ⟨_, rfl, h.request .redeem p tag fun _ ht => ht.redeem p payload⟩
  case reprint => exact ⟨_, rfl, h.request .reprint p tag fun _ ht => ht.reprint p payload⟩
  case printerStatus =>
    refine ⟨_, rfl, ?_⟩
    split
    · exact h
    · exact (h.goodFrame p).printerStatus p payload
  case pass =>
    refine ⟨_, rfl, ?_⟩
    split
    · exact h
    · exact (h.goodFrame p).passUp p tag payload

/-! ## Links, time, the store and resets -/

theorem uplinkPass (h : s.Within places replies) (port tag : Byte) (payload : Bytes) :
    (s.uplinkPass port tag payload).Within places replies := by
  unfold State.uplinkPass State.passDown
  dsimp only
  split
  · exact h
  · split
    · split
      · rename_i p _ _ hc
        simp only [Bool.and_eq_true, decide_eq_true_eq] at hc
        refine h.setPort { h.ports p with downPass := ?_ }
        rw [List.length_append]
        exact hc.2
      · exact h
    · exact h

theorem printFrameEnd (h : s.Within places replies) (p : PortNo) (o : PrintOffer) :
    (s.printFrameEnd p o).Within places replies := by
  have h1 := h.setOffer p none
  unfold State.printFrameEnd State.printSent
  dsimp only
  split
  · exact h1
  · split
    · split
      · exact h1.setChannel _ _
      · exact (h1.setChannel _ _).offer _
    · exact h1.offer _

theorem kioskFrameEnd (h : s.Within places replies) (p : PortNo) : (s.kioskFrameEnd p).Within places replies := by
  have h1 : (s.setPort p { s.port p with sending := none }).Within places replies := h.setPort { h.ports p with }
  unfold State.kioskFrameEnd
  dsimp only
  split
  · exact h
  · split
    · exact h1.setPort (h1.ports p).dropReply
    · exact h1.setPort (h1.ports p).dropPass
    · split
      · exact h1.printFrameEnd p _
      · exact h1
    · exact h1

theorem setSending (h : s.Within places replies) (x : Option UplinkSending) :
    State.Within places replies { s with uplink := { s.uplink with sending := x } } := { h with }

theorem uplinkStart (h : s.Within places replies) : s.uplinkStart.Within places replies := by
  unfold State.uplinkStart State.startNotice State.uplinkStarts
  split
  · exact h.setSending _
  · split
    · exact h.setSending _
    · split
      · rename_i n rest hn
        have hlen := h.notices
        rw [hn] at hlen
        exact { h with notices := hlen }
      · split
        · exact h.setSending _
        · exact h

theorem uplinkFrameEnd (h : s.Within allPlaces 16) : s.uplinkFrameEnd.Within allPlaces 16 := by
  have h1 := h.setSending none
  unfold State.uplinkFrameEnd State.replySent
  dsimp only
  split
  · exact h
  · split
    · exact { h1 with }
    · split
      · exact restartNow _
      · exact { h1 with replies := (List.drop_sublist _ _).length_le.trans h.replies }
    · exact { h1 with notices := (List.drop_sublist _ _).length_le.trans h.notices }
    · exact { h1 with upwardPass := fun q => ((List.drop_sublist _ _).filter _).length_le.trans (h.upwardPass q) }
    · exact h1

theorem completeStore (h : s.Within places replies) : s.completeStore.Within places replies := by
  unfold State.completeStore
  split
  · exact h
  · refine State.Within.runArbiter (State.Within.readSectors (State.Within.raise ?_ _ _) _)
    exact h.kept rfl

theorem countAuths (h : s.Within places replies) : s.countAuths.Within places replies :=
  h.mapEntries (f := fun e => { e with state := e.state.second }) fun _ he => he

theorem tickWaits (h : s.Within places replies) : s.tickWaits.Within places replies := by
  have h1 : s.countWaits.Within places replies := h.kept rfl
  exact h1.expireWaits

theorem tick (h : s.Within places replies) : s.tick.Within places replies := by
  have h1 : (s.setControl s.control.second).countLeases.Within places replies := h.kept rfl
  exact h1.expireLeases.countAuths.expireAuths.tickWaits

theorem resetInputAsserted (h : s.Within allPlaces 16) :
    Reaches (execResetInputAsserted s) (State.Within allPlaces 16) := by
  refine ⟨_, rfl, ?_⟩
  split
  · exact h
  · exact (resetPart s .line).setControl rfl

theorem resetInputReleased (h : s.Within allPlaces 16) :
    Reaches (execResetInputReleased s) (State.Within allPlaces 16) := by
  refine ⟨_, rfl, ?_⟩
  split
  · exact (h.setControl (c := { s.control with resetLow := false }) rfl).beginStart
  · exact h

/-- An event acts on a running part, or leaves the state. -/
theorem next_ite {t : State} (h : s.Within places replies) (c : Bool) (ht : t.Within places replies) :
    Reaches (.next (if c then t else s)) (State.Within places replies) := by
  refine ⟨_, rfl, ?_⟩
  split
  · exact ht
  · exact h

/-- Every event keeps the capacities. -/
theorem event (h : s.Within allPlaces 16) (c : Instr) (hc : isEvent c = true) :
    Reaches (exec c s) (State.Within allPlaces 16) := by
  cases c
  case kioskFrameStart p => exact h.next_ite _ (h.setPort { h.ports p with })
  case kioskFrameEnd p => exact ⟨_, rfl, h.kioskFrameEnd p⟩
  case uplinkFrameStart => exact h.next_ite _ h.uplinkStart
  case uplinkFrameEnd => exact ⟨_, rfl, h.uplinkFrameEnd⟩
  case uplinkLinkDown =>
    exact ⟨_, rfl, State.Within.settleRestart { h with upwardPass := fun _ => Nat.zero_le _ }⟩
  case uplinkLinkUp => exact h.next_ite _ { h with }
  case tick => exact h.next_ite _ h.tick
  case leaseExpiry => exact h.next_ite _ h.expireLeases
  case authTimeout => exact h.next_ite _ h.expireAuths
  case printerWaitExpiry c => exact h.next_ite _ (h.expirePrinterWait c).runArbiter
  case paperWaitExpiry c => exact h.next_ite _ (h.expirePaperWait c).runArbiter
  case storeOperationCompletion => exact h.next_ite _ h.completeStore
  case powerOn => exact ⟨_, rfl, resetPart s .power⟩
  case resetInputAsserted => exact h.resetInputAsserted
  case resetInputReleased => exact h.resetInputReleased
  case startUp => exact ⟨_, rfl, h.beginStart⟩
  case keyInputChange active => exact ⟨_, rfl, h.setControl rfl⟩
  case lineIdle p => exact h.next_ite _ (h.setPort { h.ports p with })
  all_goals exact absurd hc Bool.false_ne_true

end State.Within

/-! ## Every step -/

theorem within_keeps : Keeps (State.Within allPlaces 16) where
  queue := fun _ _ h => h.kept rfl
  request := fun c p tag payload _ h => h.runClass c p tag payload
  command := fun c tag args _ h => h.manage c tag args
  unknownCode := fun tag code _ h => h.unknownCode tag code
  emptyCommand := fun tag _ h => h.emptyCommand tag
  runFailed := fun p e _ h => h.runFailed p e
  authResponse := fun payload _ h => h.authResponse payload
  uplinkPass := fun port tag payload _ h => h.uplinkPass port tag payload
  event := fun c _ hc h => h.event c hc

/-- Settles O55: every command that adds to a collection finds room in it, discards, or drops the oldest; and an UNDO gives back
no more claims than the stack was checked for. -/
theorem collectionsStayBounded : Obligations.CollectionsStayBounded := by
  unfold Obligations.CollectionsStayBounded
  intro s t h hs
  exact t.within_iff.1 (within_keeps.step (s.within_iff.2 h) hs)

end Sys2Proof.Machine
end

section
/-! Basket requests on the bytes that carry them: what an AUTHORISING basket refuses (O19), the edits of lines and claims (O15,
O16) and CANCEL (O17). -/

namespace Sys2Proof.Machine

/-! ## An AUTHORISING basket (R43, R46, R78, R88) -/

section
variable {s : State} {p : PortNo}

theorem State.HoldingsKept.basket {t : State} (h : s.HoldingsKept t) (q : PortNo) : t.basket q = s.basket q :=
  State.basket_of_baskets h.baskets q

theorem State.basket_takeRequest {owner : State → State} {b : Basket} (hs : s.basket p = b)
    (ho : ∀ t : State, t.basket p = b → (owner t).basket p = b) : (s.takeRequest p owner).basket p = b := by
  unfold State.takeRequest
  split
  · exact hs
  · split
    · exact hs
    · exact ho _ hs

theorem State.basket_request {b : Basket} (hs : s.basket p = b) (c : KioskClass) (tag : Byte) {body : State → Answer}
    (hb : ∀ t : State, t.basket p = b → (body t).1.basket p = b) : (s.request c p tag body).basket p = b :=
  State.basket_takeRequest hs fun t ht => hb t ht

variable (ha : (s.basket p).state = .authorising)
include ha

theorem basket_hold_authorising (payload : Bytes) : (hold p payload s).1.basket p = s.basket p := by
  unfold hold
  split
  · rfl
  · split
    · rfl
    · split
      · rfl
      · rename_i hc
        obtain ⟨-, -, -, hn, -⟩ := State.holdCheck_none hc
        exact absurd ha hn

theorem basket_release_authorising (payload : Bytes) : (release p payload s).1.basket p = s.basket p := by
  unfold release
  split
  · rfl
  · split
    · rfl
    · dsimp only
      rw [if_pos ha]
      rfl

/-- R46, check 5: an edit, an UNDO or a CANCEL does not come to its body. -/
theorem basket_basketRequest_authorising {α : Type} (served : Bool) (arg : Option α) (body : α → State → Answer) :
    (basketRequest p served arg body s).1.basket p = s.basket p := by
  unfold basketRequest
  split
  · rfl
  · split
    · rfl
    · split
      · rfl
      · rename_i hc
        rw [State.basketCheck, if_pos ha] at hc
        split at hc <;> cases hc

theorem basket_price_authorising (payload : Bytes) : (price p payload s).1.basket p = s.basket p := by
  unfold price
  split
  · rfl
  · split
    · rfl
    · split
      · rfl
      · rename_i hc
        rw [State.priceCheck, if_pos ha] at hc
        split at hc <;> cases hc

theorem basket_pay_authorising (tag : Byte) (token : Bytes) : (s.pay p tag token).basket p = s.basket p := by
  unfold State.pay
  split
  · rfl
  · rename_i hc
    rw [State.payFormCheck, if_pos ha] at hc
    repeat' split at hc
    all_goals cases hc

end

theorem basket_redeem (p q : PortNo) (payload : Bytes) (s : State) : (redeem p payload s).1.basket q = s.basket q := by
  unfold redeem
  repeat' split
  any_goals rfl
  exact State.basket_of_baskets (s.changeSlot_baskets _ _) q

/-- Settles O19: each request of the port is refused before its effect, or writes no basket. -/
theorem authorisingBasketIsFrozen : Obligations.AuthorisingBasketIsFrozen := by
  unfold Obligations.AuthorisingBasketIsFrozen
  intro c p tag payload s t ha hrun
  have hauth : ∀ {u : State}, u.basket p = s.basket p → (u.basket p).state = .authorising := fun hu => by rw [hu]; exact ha
  have hask : ∀ {α : Type} {served : Bool} {arg : Option α} {body : α → State → Answer} (u : State),
      u.basket p = s.basket p → (basketRequest p served arg body u).1.basket p = s.basket p :=
    fun u hu => (basket_basketRequest_authorising (hauth hu) _ _ _).trans hu
  cases c <;> cases hrun
  case seatQuery => exact State.basket_request rfl _ tag fun u hu => by rw [seatQuery_fst]; exact hu
  case hold => exact State.basket_request rfl _ tag fun u hu => (basket_hold_authorising (hauth hu) payload).trans hu
  case release => exact State.basket_request rfl _ tag fun u hu => (basket_release_authorising (hauth hu) payload).trans hu
  case price => exact State.basket_request rfl _ tag fun u hu => (basket_price_authorising (hauth hu) payload).trans hu
  case pay => exact State.basket_takeRequest rfl fun u hu => (basket_pay_authorising (hauth hu) tag payload).trans hu
  case redeem => exact State.basket_request rfl _ tag fun u hu => (basket_redeem p p payload u).trans hu
  case reprint => exact State.basket_request rfl _ tag fun u hu => ((reprint_keeps p payload u).basket p).trans hu
  case printerStatus =>
    split
    · rfl
    · exact ((s.goodFrame_keeps p).trans (State.printerStatus_keeps _ _ _)).basket p
  case pass =>
    split
    · rfl
    · exact ((s.goodFrame_keeps p).trans (State.passUp_keeps _ _ _ _)).basket p
  case setType | addCombo | removeCombo | applyCredit | removeCredit | undo | cancel =>
    exact State.basket_request rfl _ tag hask

/-! ## Basket requests that are served (R46, R47) -/

/-- The parts of a state that a basket request can change, taken from another: the seats of shows, the slots of vouchers and its
port's basket. -/
def State.basketParts (s t : State) (p : PortNo) : State :=
  { s with
    seats := { s.seats with shows := t.seats.shows, pool := t.seats.pool }
    vouchers := { s.vouchers with slots := t.vouchers.slots }
    baskets := s.baskets.set p (t.basket p) }

/-- What a basket request can change. -/
def State.BasketStep (s t : State) (p : PortNo) : Prop := t = s.basketParts t p

theorem State.basket_basketParts (s t : State) (p : PortNo) : (s.basketParts t p).basket p = t.basket p := by
  simp [State.basketParts, State.basket]

theorem State.BasketStep.refl (s : State) (p : PortNo) : s.BasketStep s p := by
  simp [State.BasketStep, State.basketParts, State.basket]

theorem State.BasketStep.setBasket {s t : State} {p : PortNo} (h : s.BasketStep t p) (b : Basket) :
    s.BasketStep (t.setBasket p b) p := by
  unfold State.BasketStep State.basketParts at h ⊢
  rw [State.basket_setBasket, if_pos rfl]
  conv_lhs => rw [h]
  simp [State.setBasket]

theorem State.BasketStep.seatStep {s t u : State} {p : PortNo} {i : ShowNo} {ks : List Nat} (h : s.BasketStep t p)
    (hu : t.SeatStep u i ks) : s.BasketStep u p := by
  have hb := State.basket_of_baskets (s := t) (t := u) (by rw [hu.frame]) p
  unfold State.BasketStep State.basketParts at h ⊢
  rw [hb]
  conv_lhs => rw [hu.frame, h]
  rw [hu.frame]

theorem State.BasketStep.eachSlot {s t : State} {p : PortNo} (h : s.BasketStep t p) (f : Slot → Slot) (ns : List Nat) :
    s.BasketStep (t.eachSlot f ns) p := by
  have hframe := t.eachSlot_frame f ns
  have hb := State.basket_of_baskets (s := t) (t := t.eachSlot f ns) (by rw [hframe]) p
  generalize t.eachSlot f ns = u at hframe hb
  unfold State.BasketStep State.basketParts at h ⊢
  rw [hb]
  conv_lhs => rw [hframe, h]
  rw [hframe]

/-- A served request's reply, after a basket step from the good frame, is a reply after the same step from the state before. -/
theorem State.BasketStep.answer {s t : State} {p : PortNo} (h : (s.goodFrame p).BasketStep t p) (c : KioskClass) (tag : Byte)
    (r : Result) (content : Bytes) :
    t.answer c p tag r content = (s.basketParts t p).answered c p tag r content := by
  unfold State.BasketStep at h
  conv_lhs => rw [h]
  exact State.goodFrame_answer (s.basketParts t p) p c tag r content

section
variable {s : State} {p : PortNo} (hears : s.hears p = true) (hfoyer : s.control.foyer ≠ .unconfigured)
  (hrole : (s.port p).role ≠ .counter) (hstate : (s.basket p).state ≠ .authorising)
include hears hfoyer hrole hstate

/-- R46: a request that passes every check comes to its own rule. -/
theorem request_basketRequest {α : Type} {served : Bool} {arg : Option α} {a : α} (harg : arg = some a)
    (hserved : s.control.foyer = .closed → served = true) (c : KioskClass) (tag : Byte) (body : α → State → Answer) :
    s.request c p tag (basketRequest p served arg body) =
      (body a (s.goodFrame p)).1.answer c p tag (body a (s.goodFrame p)).2.1 (body a (s.goodFrame p)).2.2 := by
  have hcheck : (s.goodFrame p).basketCheck p served = none := by
    have hopen : ¬ (s.control.foyer = .closed ∧ served = false) := fun ⟨hc, hs⟩ => by simp [hserved hc] at hs
    rw [State.basketCheck, State.goodFrame_control, if_neg hopen]
    exact if_neg hstate
  rw [State.request_hears hears]
  unfold basketRequest
  rw [State.sellerCheck_goodFrame hfoyer hrole, harg]
  dsimp only
  rw [hcheck]

/-- A request that writes its port's basket alone. -/
theorem request_writes_basket {α : Type} {served : Bool} {arg : Option α} {a : α} (harg : arg = some a)
    (hserved : s.control.foyer = .closed → served = true) (c : KioskClass) (tag : Byte) {body : α → State → Answer}
    {b : Basket} (hb : body a (s.goodFrame p) = ((s.goodFrame p).setBasket p b).basketOk p) :
    s.request c p tag (basketRequest p served arg body) =
      ({ s with baskets := s.baskets.set p b } : State).answered c p tag .ok b.summary := by
  rw [request_basketRequest hears hfoyer hrole hstate harg hserved, hb]
  simp only [State.basketOk, State.basket_setBasket, if_true, List.nil_append]
  exact State.goodFrame_answer (s.setBasket p b) p c tag .ok b.summary

end

/-! ## Edits of the lines (R47 to R50) -/

/-- R47: an edit that leaves a line or a claim. -/
theorem Basket.edited_of_holds {b : Basket} (h : b.holds = true) (e : UndoEntry) : b.edited e =
    { b with undo := (e :: b.undo).take 8, state := .building, lapsed := false, snapshot := none } := by
  have h' : ({ b.pushUndo e with snapshot := none, lapsed := false } : Basket).holds = true := h
  rw [Basket.edited, Basket.reopened, Basket.settled, h']
  rfl

theorem Basket.holds_iff (b : Basket) : b.holds = true ↔ b.seatLines ≠ [] ∨ b.combos ≠ [] ∨ b.claims ≠ [] := by
  simp [Basket.holds, or_assoc]

theorem readSetType_bytes {k : Nat} (hk : k ≤ 1023) (ty : Fin 8) : readSetType (u16 k ++ u8 ty.val) = some (k, ty) := by
  simp [readSetType, Nat.mod_eq_of_lt (show k < 65536 by omega), Nat.mod_eq_of_lt (show ty.val < 256 by omega), hk]

theorem readComboCode_bytes (c : Fin 32) : readComboCode (u8 c.val) = some c := by
  simp [readComboCode, Nat.mod_eq_of_lt (show c.val < 256 by omega)]

theorem readPosition_bytes {n : Nat} (hn : n ≤ 5) : readPosition (u8 n) = some n := by
  simp [readPosition, Nat.mod_eq_of_lt (show n < 256 by omega), hn]

theorem setTypeBody_eq {s : State} {p : PortNo} {k : Nat} {ty : Fin 8} {l : SeatLine} (hl : (s.basket p).lineOf k = some l)
    (hvalid : (s.prices.live.types[ty]).valid = true)
    (hbox : (s.prices.live.types[ty]).boxOfficeOnly = false ∨ (s.port p).role = .boxOffice) (hne : l.ticketType ≠ ty) :
    setTypeBody p (k, ty) s = (s.setBasket p
      (({ s.basket p with seatLines := retype (s.basket p).seatLines k ty } : Basket).edited
        (.setType k l.ticketType))).basketOk p := by
  have hbox' : ¬ ((s.prices.live.types[ty]).boxOfficeOnly = true ∧ (s.port p).role ≠ .boxOffice) := by
    rintro ⟨hb, hr⟩
    exact hbox.elim (fun h => Bool.noConfusion (h.symm.trans hb)) hr
  unfold setTypeBody
  dsimp only
  rw [hl]
  dsimp only
  rw [if_neg (Bool.ne_false_iff.2 hvalid), if_neg hbox', if_neg hne]

/-- Settles O15: each edit passes its checks, writes its basket alone, and leaves a line wherever the statement says BUILDING. -/
theorem basketLineEdits : Obligations.BasketLineEdits := by
  unfold Obligations.BasketLineEdits
  intro p tag s hears hrole hstate b
  refine ⟨fun k ty l hfoyer hk hl hvalid hbox hne => congrArg Host.Outcome.next ?setType,
    fun c hopen hvalid hroom => congrArg Host.Outcome.next ?addCombo,
    fun n c hfoyer hn hc => congrArg Host.Outcome.next ?removeCombo⟩
  case setType =>
    refine request_writes_basket hears hfoyer hrole hstate (readSetType_bytes hk ty) (fun _ => rfl) .setType tag ?_
    have hmem : l ∈ b.seatLines := List.mem_of_find?_eq_some hl
    rw [setTypeBody_eq (s := s.goodFrame p) hl hvalid (by rwa [State.role_goodFrame]) hne, Basket.edited_of_holds]
    · rfl
    · exact (Basket.holds_iff _).2 (.inl fun h => List.ne_nil_of_mem hmem (List.map_eq_nil_iff.1 h))
  case addCombo =>
    refine request_writes_basket hears (by rw [hopen]; decide) hrole hstate (readComboCode_bytes c)
      (fun h => by rw [hopen] at h; cases h) .addCombo tag ?_
    unfold addComboBody
    dsimp only
    rw [State.goodFrame_prices, if_neg (Bool.ne_false_iff.2 hvalid), Basket.edited_of_holds, if_neg]
    · rfl
    · exact not_le.2 hroom
    · exact (Basket.holds_iff _).2 (.inr (.inl (by simp)))
  case removeCombo =>
    refine request_writes_basket hears hfoyer hrole hstate (readPosition_bytes hn) (fun _ => rfl) .removeCombo tag ?_
    have hc' : ((s.goodFrame p).basket p).combos[n]? = some c := hc
    unfold removeComboBody
    dsimp only
    rw [hc']
    rfl

/-! ## What a comparison of states looks at -/

theorem State.seatsReturned_of_seats {s t s' t' : State} {i : ShowNo} {ks : List Nat} (h : s.seatsReturned t i ks)
    (hs : s'.seats = s.seats) (ht : t'.seats = t.seats) : s'.seatsReturned t' i ks := by
  have haddress : s'.seatAddress i = s.seatAddress i := by funext k; rw [State.seatAddress, State.showAt, hs]; rfl
  simpa only [State.seatsReturned, State.seatAt, State.poolKept, State.poolSeat, State.showsKept, State.showAt,
    State.seatAddresses, haddress, hs, ht] using h

theorem State.slotBecomes_of_vouchers {s t s' t' : State} {serial : Nat} {f : Slot → Slot} (h : s.slotBecomes t serial f)
    (hs : s'.vouchers = s.vouchers) (ht : t'.vouchers = t.vouchers) : s'.slotBecomes t' serial f := by
  simpa only [State.slotBecomes, State.slotOf, State.indexed, State.slotAt, hs, ht] using h

theorem State.slotsKept_of_vouchers {s t s' t' : State} {serials : List Nat} (h : s.slotsKept t serials)
    (hs : s'.vouchers = s.vouchers) (ht : t'.vouchers = t.vouchers) : s'.slotsKept t' serials := by
  simpa only [State.slotsKept, State.indexed, State.slotAt, hs, ht] using h

/-! ## Claims (R51, R52, R118) -/

theorem readSerial_bytes {n : Nat} (h1 : 1 ≤ n) (h : n < 16777216) : readSerial (u24 n) = some n := by
  simp [readSerial, Nat.mod_eq_of_lt h, show n ≠ 0 by omega]

/-- R118: a credit voucher that is ISSUED and not expired passes the test. -/
theorem State.testVoucher_credit {s : State} {serial n value : Nat} {v : Voucher} (hslot : s.slotOf serial = some (n, .issued v))
    (hkind : v.kind = .credit value) (hday : s.control.day ≤ v.expiryDay) : s.testVoucher false serial = .inr v := by
  unfold State.testVoucher
  rw [hslot]
  dsimp only
  rw [hkind]
  exact if_neg (not_lt.2 hday)

theorem applyCreditBody_eq {s : State} {p : PortNo} {serial : Nat} {v : Voucher} (hnew : serial ∉ (s.basket p).claims)
    (hroom : (s.basket p).claims.length < 2) (htest : s.testVoucher false serial = .inr v) :
    applyCreditBody p serial s = ((s.changeSlot serial (Slot.claim (.port p))).setBasket p { s.basket p with
      claims := (s.basket p).claims ++ [serial], undo := (UndoEntry.applyCredit serial :: (s.basket p).undo).take 8
      state := .building, lapsed := false, snapshot := none }).basketOk p (u24 v.kind.value) := by
  unfold applyCreditBody
  dsimp only
  rw [if_neg (by simpa using hnew), if_neg (not_le.2 hroom), htest,
    Basket.edited_of_holds ((Basket.holds_iff _).2 (.inr (.inr (by simp))))]

theorem removeCreditBody_eq {s : State} {p : PortNo} {serial : Nat} (hmem : serial ∈ (s.basket p).claims) :
    removeCreditBody p serial s = ((s.changeSlot serial Slot.unclaim).setBasket p ({ s.basket p with
      claims := (s.basket p).claims.erase serial, undo := (UndoEntry.removeCredit serial :: (s.basket p).undo).take 8
      lapsed := false, snapshot := none } : Basket).settled).basketOk p := by
  unfold removeCreditBody
  dsimp only
  rw [if_neg (by simpa using hmem)]
  rfl

section
variable {s : State} {p : PortNo} (hears : s.hears p = true) (hfoyer : s.control.foyer ≠ .unconfigured)
  (hrole : (s.port p).role ≠ .counter) (hstate : (s.basket p).state ≠ .authorising)
include hears hfoyer hrole hstate

/-- A request that is served, by a basket step. -/
theorem request_basketStep {α : Type} {served : Bool} {arg : Option α} {a : α} (harg : arg = some a)
    (hserved : s.control.foyer = .closed → served = true) (c : KioskClass) (tag : Byte) {body : α → State → Answer}
    {t : State} {content : Bytes} (ht : (s.goodFrame p).BasketStep t p) (hb : body a (s.goodFrame p) = t.basketOk p content) :
    s.request c p tag (basketRequest p served arg body) =
      (s.basketParts t p).answered c p tag .ok (content ++ (t.basket p).summary) := by
  rw [request_basketRequest hears hfoyer hrole hstate harg hserved, hb]
  exact ht.answer c tag .ok _

/-- The reply leaves what the step gave. -/
theorem reaches_basketStep {α : Type} {served : Bool} {arg : Option α} {a : α} (harg : arg = some a)
    (hserved : s.control.foyer = .closed → served = true) (c : KioskClass) (tag : Byte) {body : α → State → Answer}
    {t : State} {content : Bytes} (ht : (s.goodFrame p).BasketStep t p) (hb : body a (s.goodFrame p) = t.basketOk p content)
    {effect : State → Prop}
    (heffect : ∀ u : State, u.seats = t.seats → u.vouchers = t.vouchers → u.basket p = t.basket p → effect u) :
    Reaches (.next (s.request c p tag (basketRequest p served arg body))) fun u =>
      effect u ∧ u = (s.basketParts u p).answered c p tag .ok (content ++ (u.basket p).summary) := by
  have hbasket : ((s.basketParts t p).answered c p tag .ok (content ++ (t.basket p).summary)).basket p = t.basket p :=
    s.basket_basketParts t p
  refine ⟨_, congrArg Host.Outcome.next (request_basketStep hears hfoyer hrole hstate harg hserved c tag ht hb), ?_, ?_⟩
  · refine heffect _ ?_ ?_ hbasket
    · exact (congrArg State.seats ht).symm
    · exact (congrArg State.vouchers ht).symm
  · rw [hbasket]
    exact congrArg (fun b => ({ s.basketParts t p with baskets := s.baskets.set p b } : State).answered c p tag .ok _)
      hbasket.symm

/-- A request that changes the slot of one serial and its port's basket. -/
theorem request_changes_slot {α : Type} {served : Bool} {arg : Option α} {a : α} (harg : arg = some a)
    (hserved : s.control.foyer = .closed → served = true) (c : KioskClass) (tag : Byte) {body : α → State → Answer}
    {b : Basket} {content : Bytes} {serial n : Nat} {x : Slot} {f : Slot → Slot} (hslot : s.slotOf serial = some (n, x))
    (hb : body a (s.goodFrame p) = (((s.goodFrame p).changeSlot serial f).setBasket p b).basketOk p content) :
    Reaches (.next (s.request c p tag (basketRequest p served arg body))) fun t =>
      t.slotAt n = f x ∧ (∀ m, m ≠ n → t.slotAt m = s.slotAt m)
      ∧ t = ({ s with
            vouchers := { s.vouchers with slots := t.vouchers.slots }
            baskets := s.baskets.set p b } : State).answered c p tag .ok (content ++ b.summary) := by
  obtain ⟨hindex, hx⟩ := State.slotOf_eq_some.1 hslot
  have hat : ∀ m, ((s.goodFrame p).changeSlot serial f).slotAt m =
      if s.indexed serial = some m then f (s.slotAt m) else s.slotAt m :=
    fun m => State.slotAt_changeSlot (s.goodFrame p) serial m f
  have hstep : (s.goodFrame p).BasketStep (((s.goodFrame p).changeSlot serial f).setBasket p b) p :=
    ((State.BasketStep.refl _ p).eachSlot f [serial]).setBasket b
  refine ⟨_, congrArg Host.Outcome.next (request_basketStep hears hfoyer hrole hstate harg hserved c tag hstep hb), ?_,
    fun m hm => ?_, ?_⟩
  · exact (hat n).trans (by rw [if_pos hindex, hx])
  · exact (hat m).trans (if_neg fun h => hm (Option.some.inj (h.symm.trans hindex)))
  · rw [State.basketParts, State.basket_setBasket, if_pos rfl, State.setBasket_seats, State.changeSlot_seats]
    rfl

end

/-- Settles O16: the slot of the serial and the basket are all that either request writes. -/
theorem creditClaimsFollowTheBasket : Obligations.CreditClaimsFollowTheBasket := by
  unfold Obligations.CreditClaimsFollowTheBasket
  intro p tag serial s hears hrole hstate hlow hhigh b
  refine ⟨fun n v value hopen hnew hroom hslot hkind hday => ?apply, fun n v o hfoyer hmem hslot => ?remove⟩
  case apply =>
    refine request_changes_slot hears (by rw [hopen]; decide) hrole hstate (readSerial_bytes hlow hhigh)
      (fun h => by rw [hopen] at h; cases h) .applyCredit tag (f := Slot.claim (.port p)) hslot ?_
    have htest : (s.goodFrame p).testVoucher false serial = .inr v := State.testVoucher_credit hslot hkind hday
    rw [applyCreditBody_eq (s := s.goodFrame p) hnew hroom htest, hkind]
    rfl
  case remove =>
    exact request_changes_slot hears hfoyer hrole hstate (readSerial_bytes hlow hhigh) (fun _ => rfl) .removeCredit tag hslot
      (removeCreditBody_eq (s := s.goodFrame p) hmem)

/-! ## CANCEL (R60, R61) -/

/-- R60: a void of the basket is a basket step. -/
theorem State.basketStep_voidBasket (s : State) (p : PortNo) : s.BasketStep (s.voidBasket p) p :=
  (((State.BasketStep.refl s p).seatStep (s.returnSeats_seatStep _ _)).eachSlot Slot.unclaim _).setBasket _

/-- Settles O17: the void returns the seats of the lines and then the claims, and the rest of the state is kept. -/
theorem cancelVoidsTheBasket : Obligations.CancelVoidsTheBasket := by
  unfold Obligations.CancelVoidsTheBasket
  intro p tag s hears hfoyer hrole hstate b
  let g := s.goodFrame p
  let returned := g.returnSeats b.handle.index (b.seatLines.map (·.seat))
  have hseats : (g.voidBasket p).seats = returned.seats := 
    (congrArg State.seats (returned.eachSlot_frame Slot.unclaim b.claims) :)
  have hvouchers : returned.vouchers = s.vouchers :=
    (congrArg State.vouchers (g.returnSeats_seatStep b.handle.index (b.seatLines.map (·.seat))).frame :)
  have hbasket : (g.voidBasket p).basket p = { Basket.reset with handle := b.handle } := by
    rw [State.voidBasket, State.basket_setBasket, if_pos rfl]
    rfl
  obtain ⟨hbecome, hkept⟩ := returned.eachSlot_spec Slot.unclaim_unclaim b.claims
  have hreach := reaches_basketStep hears hfoyer hrole hstate (arg := readEmpty []) rfl (fun _ => rfl) .cancel tag
    (g.basketStep_voidBasket p) (body := cancelBody p) rfl
    (effect := fun t => s.seatsReturned t b.handle.index (b.seatLines.map (·.seat))
      ∧ (∀ k ∈ b.claims, s.slotBecomes t k Slot.unclaim) ∧ s.slotsKept t b.claims
      ∧ t.basket p = { Basket.reset with handle := b.handle })
    fun u hs hv hb => ⟨State.seatsReturned_of_seats (g.returnSeats_returns _ _) rfl (hs.trans hseats),
      fun k hk => State.slotBecomes_of_vouchers (hbecome k hk) hvouchers.symm hv,
      State.slotsKept_of_vouchers hkept hvouchers.symm hv, hb.trans hbasket⟩
  obtain ⟨t, ht, ⟨hret, hbec, hkeep, hempty⟩, hframe⟩ := hreach
  exact ⟨t, ht, hret, hbec, hkeep, hempty, hframe⟩

end Sys2Proof.Machine
end

section
/-! UNDO (O18): reversing an entry as a step of seats, slots and the port's basket, and what each kind of entry comes to. -/

namespace Sys2Proof.Machine

/-! ## Reversing an entry keeps the stack (R54) -/

theorem State.BasketStep.trans {s t u : State} {p : PortNo} (h : s.BasketStep t p) (h' : t.BasketStep u p) :
    s.BasketStep u p := by
  have hstack : t.basketParts u p = s.basketParts u p := by
    unfold State.BasketStep at h
    rw [h]
    simp [State.basketParts]
  exact Eq.trans h' hstack

/-- A basket step that leaves the Undo Stack. -/
structure State.UndoStep (s t : State) (p : PortNo) : Prop where
  step : s.BasketStep t p
  undo : (t.basket p).undo = (s.basket p).undo

section
variable {s t u : State} {p : PortNo}

theorem State.UndoStep.refl (s : State) (p : PortNo) : s.UndoStep s p := ⟨.refl s p, rfl⟩

theorem State.UndoStep.trans (h : s.UndoStep t p) (h' : t.UndoStep u p) : s.UndoStep u p :=
  ⟨h.step.trans h'.step, h'.undo.trans h.undo⟩

theorem State.BasketStep.undoStep (h : s.BasketStep t p) {b : Basket} (hb : b.undo = (s.basket p).undo) :
    s.UndoStep (t.setBasket p b) p :=
  ⟨h.setBasket b, by rw [State.basket_setBasket, if_pos rfl, hb]⟩

theorem State.rehold_undoStep (s : State) (p : PortNo) (h : Handle) (l : SeatLine) : s.UndoStep (s.rehold p h l) p :=
  ((State.BasketStep.refl s p).seatStep (s.takeSeats_seatStep p h.index [l.seat])).undoStep rfl

theorem State.undoReleaseSeats_undoStep (p : PortNo) (h : Handle) (ls : List SeatLine) (s : State) :
    s.UndoStep (s.undoReleaseSeats p h ls).1 p := by
  induction ls generalizing s with
  | nil => exact .refl s p
  | cons l ls ih =>
    refine State.UndoStep.trans ?_ (ih _)
    split
    · exact s.rehold_undoStep p h l
    · exact .refl s p

theorem State.reverse_undoStep (s : State) (p : PortNo) (e : UndoEntry) : s.UndoStep (s.reverse p e).1 p := by
  have hskip := State.UndoStep.refl s p
  have hset : ∀ {b : Basket}, b.undo = (s.basket p).undo → s.UndoStep (s.setBasket p b) p := hskip.step.undoStep
  have hslot : ∀ {n : Nat} {f : Slot → Slot} {b : Basket}, b.undo = (s.basket p).undo →
      s.UndoStep ((s.changeSlot n f).setBasket p b) p := fun {n f _} => (hskip.step.eachSlot f [n]).undoStep
  cases e with
  | hold h ks => exact (hskip.step.seatStep (s.returnSeats_seatStep h.index _)).undoStep rfl
  | release h ls =>
    unfold State.reverse State.undoRelease
    dsimp only
    split
    · exact hskip
    · exact s.undoReleaseSeats_undoStep p h ls
  | setType k ty =>
    unfold State.reverse State.undoSetType
    dsimp only
    split
    · exact hset rfl
    · exact hskip
  | addCombo n =>
    unfold State.reverse State.undoAddCombo
    dsimp only
    split
    · exact hset rfl
    · exact hskip
  | removeCombo c n =>
    unfold State.reverse State.undoRemoveCombo
    dsimp only
    split
    · exact hskip
    · split
      · exact hskip
      · exact hset rfl
  | applyCredit n =>
    unfold State.reverse State.undoApplyCredit
    dsimp only
    split
    · exact hslot rfl
    · exact hskip
  | removeCredit n =>
    unfold State.reverse State.undoRemoveCredit
    dsimp only
    split
    · exact hskip
    · split
      · exact hskip
      · exact hslot rfl

end

/-! ## UNDO as its entry reversed (R54) -/

/-- The state that an entry is reversed in: the request's good frame, and the entry off the stack. -/
def State.popped (s : State) (p : PortNo) (rest : List UndoEntry) : State :=
  (s.goodFrame p).setBasket p { s.basket p with undo := rest }

theorem State.basket_popped (s : State) (p : PortNo) (rest : List UndoEntry) :
    (s.popped p rest).basket p = { s.basket p with undo := rest } := by
  rw [State.popped, State.basket_setBasket, if_pos rfl]

/-- R54: what every UNDO leaves and reports, whatever its entry. -/
def State.Undone (s : State) (p : PortNo) (tag : Byte) (e : UndoEntry) (rest : List UndoEntry) (items : List UndoItem)
    (t : State) : Prop :=
  (t.basket p).undo = rest ∧ (t.basket p).lapsed = false ∧ (t.basket p).snapshot = none
  ∧ (t.basket p).state = (if (t.basket p).holds then .building else .empty)
  ∧ t = (s.basketParts t p).answered .undo p tag .ok
      (u8 e.code ++ u8 items.length ++ items.flatMap (fun x => u24 x.1 ++ [x.2.code]) ++ (t.basket p).summary)

/-- An UNDO that R46 lets through to its entry. -/
structure State.TakesUndo (s : State) (p : PortNo) (e : UndoEntry) (rest : List UndoEntry) : Prop where
  hears : s.hears p = true
  foyer : s.control.foyer ≠ .unconfigured
  role : (s.port p).role ≠ .counter
  state : (s.basket p).state ≠ .authorising
  undo : (s.basket p).undo = e :: rest

/-- The UNDO of an entry reports these items and has this effect. -/
def State.UndoGoesTo (s : State) (p : PortNo) (tag : Byte) (e : UndoEntry) (rest : List UndoEntry) (items : List UndoItem)
    (effect : State → Prop) : Prop :=
  Reaches (exec (.undo p tag []) s) fun t => s.Undone p tag e rest items t ∧ effect t

/-- The seats and vouchers of one state, and the contents of a basket. -/
structure State.LeftAs (t : State) (p : PortNo) (x : State) (b : Basket) : Prop where
  seats : t.seats = x.seats
  vouchers : t.vouchers = x.vouchers
  seatLines : (t.basket p).seatLines = b.seatLines
  handle : (t.basket p).handle = b.handle
  combos : (t.basket p).combos = b.combos
  claims : (t.basket p).claims = b.claims

theorem undo_goesTo {s : State} {p : PortNo} {e : UndoEntry} {rest : List UndoEntry} (hu : s.TakesUndo p e rest) {tag : Byte}
    {x : State} {b : Basket} {items : List UndoItem} (hrev : (s.popped p rest).reverse p e = (x.setBasket p b, items))
    {effect : State → Prop} (heffect : ∀ t : State, t.LeftAs p x b → effect t) :
    s.UndoGoesTo p tag e rest items effect := by
  have hstep := (s.popped p rest).reverse_undoStep p e
  rw [hrev] at hstep
  have hbasket : (x.setBasket p b).basket p = b := by rw [State.basket_setBasket, if_pos rfl]
  have hrest : b.undo = rest := by
    have h := hstep.undo
    rwa [hbasket, State.basket_popped] at h
  have hbody : undoBody p () (s.goodFrame p) =
      ((x.setBasket p b).setBasket p b.reopened).basketOk p
        (u8 e.code ++ u8 items.length ++ items.flatMap (fun x => u24 x.1 ++ [x.2.code])) := by
    have hundo' : ((s.goodFrame p).basket p).undo = e :: rest := hu.undo
    have hrev' : ((s.goodFrame p).setBasket p { (s.goodFrame p).basket p with undo := rest }).reverse p e =
      (x.setBasket p b, items) := hrev
    unfold undoBody
    rw [hundo']
    dsimp only
    rw [hrev', hbasket]
  have hreach := reaches_basketStep hu.hears hu.foyer hu.role hu.state (arg := readEmpty []) rfl (fun _ => rfl) .undo tag
    ((((State.BasketStep.refl _ p).setBasket _).trans hstep.step).setBasket b.reopened) hbody
    (effect := fun t => t.basket p = b.reopened ∧ effect t) fun t hs hv hb => by
      have hb' : t.basket p = b.reopened := by rw [hb, State.basket_setBasket, if_pos rfl]
      exact ⟨hb', heffect t ⟨hs, hv, by rw [hb']; rfl, by rw [hb']; rfl, by rw [hb']; rfl, by rw [hb']; rfl⟩⟩
  obtain ⟨t, ht, ⟨hb, heff⟩, hframe⟩ := hreach
  refine ⟨t, ht, ⟨?_, ?_, ?_, ?_, hframe⟩, heff⟩
  · rw [hb]; exact hrest
  · rw [hb]; rfl
  · rw [hb]; rfl
  · rw [hb]; rfl

/-! ## A RELEASE undone (R56) -/

/-- R56: a seat the port may hold again, room apart. -/
def State.mayRehold (s : State) (p : PortNo) (h : Handle) (l : SeatLine) : Bool :=
  decide (l.seat < (s.showAt h.index).seatCount) && (match (s.seatAt h.index l.seat).state with
    | .free => true
    | .house => decide ((s.port p).role = .boxOffice)
    | _ => false)

/-- R56: why any other seat is skipped. -/
def State.skipReason (s : State) (p : PortNo) (h : Handle) (k : Nat) : Result :=
  if (s.showAt h.index).seatCount ≤ k then .outOfMap
  else match (s.seatAt h.index k).state with
    | .house => .houseOnly
    | .held o _ _ => if o = p ∧ (s.basket p).hasSeat k then .already else .taken
    | _ => .taken

/-- R56: what is reported of a released line where the lines of `back` are held again. -/
def State.reholdResult (s : State) (p : PortNo) (h : Handle) (back : List SeatLine) (l : SeatLine) : Result :=
  if back.contains l then .reversed else if s.mayRehold p h l then .basketFull else s.skipReason p h l.seat

/-- The seats of some lines held again, and the lines after those the basket has. -/
def State.heldAgain (s : State) (p : PortNo) (h : Handle) (back : List SeatLine) : State :=
  (s.takeSeats p h.index (back.map (·.seat))).setBasket p { s.basket p with
    handle := if back = [] then (s.basket p).handle else h, seatLines := (s.basket p).seatLines ++ back }

/-- The seats that are held again: those the port may hold, while the basket has room. -/
def State.rejoining (s : State) (p : PortNo) (h : Handle) (ls : List SeatLine) : List SeatLine :=
  (ls.filter (s.mayRehold p h)).take (10 - (s.basket p).seatLines.length)

section
variable {s : State} {p : PortNo} {h : Handle}

theorem State.undoReleaseSeat_eq (l : SeatLine) : s.undoReleaseSeat p h l.seat =
    if s.mayRehold p h l then (if (s.basket p).seatLines.length < 10 then .reversed else .basketFull)
    else s.skipReason p h l.seat := by
  unfold State.undoReleaseSeat State.mayRehold State.skipReason
  by_cases hmap : (s.showAt h.index).seatCount ≤ l.seat
  · simp [hmap, not_lt.2 hmap]
  · cases (s.seatAt h.index l.seat).state with
    | house => by_cases hrole : (s.port p).role = .boxOffice <;> simp [hmap, not_le.1 hmap, hrole]
    | _ => simp [hmap, not_le.1 hmap]

theorem State.mem_rejoining {ls : List SeatLine} {l : SeatLine} (hl : l ∈ s.rejoining p h ls) :
    l ∈ ls ∧ s.mayRehold p h l = true := List.mem_filter.1 (List.mem_of_mem_take hl)

theorem State.takeSeats_setBasket (s : State) (p q : PortNo) (b : Basket) (i : ShowNo) (ks : List Nat) :
    (s.setBasket q b).takeSeats p i ks = (s.takeSeats p i ks).setBasket q b := by
  induction ks generalizing s with
  | nil => rfl
  | cons k ks ih => exact ih (s.setSeatState i k ((s.seatAt i k).state.taken p s.seats.leaseTime))

theorem State.heldAgain_nil (s : State) (p : PortNo) (h : Handle) : s.heldAgain p h [] = s := by
  simp only [State.heldAgain, State.takeSeats, List.map_nil, List.foldl_nil, if_true, List.append_nil]
  exact State.setBasket_basket s p

theorem State.basket_rehold (hmix : (s.basket p).seatLines = [] ∨ (s.basket p).handle = h) (l : SeatLine) :
    (s.rehold p h l).basket p = { s.basket p with handle := h, seatLines := (s.basket p).seatLines ++ [l] } := by
  rw [State.rehold, State.basket_setBasket, if_pos rfl]
  rcases hmix with hnone | hsame
  · simp [hnone]
  · simp [hsame]

theorem State.heldAgain_cons (hmix : (s.basket p).seatLines = [] ∨ (s.basket p).handle = h) (l : SeatLine)
    (back : List SeatLine) : s.heldAgain p h (l :: back) = (s.rehold p h l).heldAgain p h back := by
  rw [State.heldAgain, State.heldAgain, State.basket_rehold hmix, State.rehold, State.takeSeats_setBasket,
    State.setBasket_setBasket]
  simp only [List.map_cons, reduceCtorEq, if_false, ite_self, List.append_assoc, List.singleton_append]
  rfl

/-- Holding one seat again does not bear on the other seats. -/
theorem State.rehold_other (hmix : (s.basket p).seatLines = [] ∨ (s.basket p).handle = h) {l m : SeatLine}
    (hm : m.seat ≠ l.seat) : (s.rehold p h l).mayRehold p h m = s.mayRehold p h m
      ∧ (s.rehold p h l).skipReason p h m.seat = s.skipReason p h m.seat := by
  have hcount : ((s.rehold p h l).showAt h.index).seatCount = (s.showAt h.index).seatCount :=
    (congrArg Show.seatCount (s.takeSeats_seatStep p h.index [l.seat]).dir.2 :)
  have hseat : (s.rehold p h l).seatAt h.index m.seat = s.seatAt h.index m.seat :=
    (State.seatAt_setSeatState s _ _ _ _).trans (if_neg hm)
  have hline : ((s.rehold p h l).basket p).hasSeat m.seat = (s.basket p).hasSeat m.seat := by
    rw [State.basket_rehold hmix]
    simp [Basket.hasSeat, Ne.symm hm]
  unfold State.mayRehold State.skipReason
  rw [hcount, hseat, hline]
  exact ⟨rfl, rfl⟩

end

/-- The rest of a list whose first seat is held again. -/
theorem State.rejoining_cons {s : State} {p : PortNo} {h : Handle} {l : SeatLine} {ls : List SeatLine}
    (hmix : (s.basket p).seatLines = [] ∨ (s.basket p).handle = h) (hother : ∀ m ∈ ls, m.seat ≠ l.seat)
    (hmay : s.mayRehold p h l = true) (hroom : (s.basket p).seatLines.length < 10) :
    s.rejoining p h (l :: ls) = l :: (s.rehold p h l).rejoining p h ls := by
  have hfilter : ls.filter ((s.rehold p h l).mayRehold p h) = ls.filter (s.mayRehold p h) :=
    List.filter_congr fun m hm => (State.rehold_other hmix (hother m hm)).1
  obtain ⟨n, hn⟩ : ∃ n, 10 - (s.basket p).seatLines.length = n + 1 := ⟨9 - (s.basket p).seatLines.length, by omega⟩
  have hn' : 10 - ((s.basket p).seatLines ++ [l]).length = n := by rw [List.length_append, List.length_singleton]; omega
  rw [State.rejoining, State.rejoining, hfilter, State.basket_rehold hmix, List.filter_cons_of_pos hmay, hn, hn',
    List.take_succ_cons]

theorem State.rejoining_cons_of_not {s : State} {p : PortNo} {h : Handle} {l : SeatLine} {ls : List SeatLine}
    (hnot : ¬ (s.mayRehold p h l = true ∧ (s.basket p).seatLines.length < 10)) :
    s.rejoining p h (l :: ls) = s.rejoining p h ls := by
  unfold State.rejoining
  by_cases hmay : s.mayRehold p h l = true
  · have hfull : 10 - (s.basket p).seatLines.length = 0 := by
      have hfull : ¬ (s.basket p).seatLines.length < 10 := fun hroom => hnot ⟨hmay, hroom⟩
      omega
    rw [hfull, List.take_zero, List.take_zero]
  · rw [List.filter_cons_of_neg hmay]

theorem State.skipReason_ne_reversed (s : State) (p : PortNo) (h : Handle) (k : Nat) : s.skipReason p h k ≠ .reversed := by
  unfold State.skipReason
  repeat' split
  all_goals decide

theorem State.reholdResult_ne_reversed {s : State} {p : PortNo} {h : Handle} {back : List SeatLine} {l : SeatLine}
    (hout : l ∉ back) : s.reholdResult p h back l ≠ .reversed := by
  rw [State.reholdResult, if_neg (by simpa using hout)]
  split
  · decide
  · exact s.skipReason_ne_reversed p h l.seat

/-- A seat that is not held again is reported by what it is. -/
theorem State.undoReleaseSeat_of_not_joins {s : State} {p : PortNo} {h : Handle} {back : List SeatLine} {l : SeatLine}
    (hnot : ¬ (s.mayRehold p h l = true ∧ (s.basket p).seatLines.length < 10)) (hout : l ∉ back) :
    s.undoReleaseSeat p h l.seat = s.reholdResult p h back l := by
  have hout' : ¬ back.contains l = true := by simpa using hout
  rw [State.undoReleaseSeat_eq, State.reholdResult, if_neg hout']
  by_cases hmay : s.mayRehold p h l = true
  · rw [if_pos hmay, if_pos hmay, if_neg fun hroom => hnot ⟨hmay, hroom⟩]
  · rw [if_neg hmay, if_neg hmay]

/-- R56: the seats in the entry's order come to holding those that rejoin, each reported by what it was at the start. -/
theorem State.undoReleaseSeats_eq {p : PortNo} {h : Handle} {ls : List SeatLine} (hnodup : (ls.map (·.seat)).Nodup) {s : State}
    (hmix : (s.basket p).seatLines = [] ∨ (s.basket p).handle = h) : s.undoReleaseSeats p h ls =
      (s.heldAgain p h (s.rejoining p h ls), ls.map fun l => (l.seat, s.reholdResult p h (s.rejoining p h ls) l)) := by
  induction ls generalizing s with
  | nil => simp [State.undoReleaseSeats, State.rejoining, State.heldAgain_nil]
  | cons l ls ih =>
    obtain ⟨hl, hls⟩ := List.nodup_cons.1 hnodup
    have hother : ∀ m ∈ ls, m.seat ≠ l.seat := fun m hm he => hl (List.mem_map.2 ⟨m, hm, he⟩)
    unfold State.undoReleaseSeats
    dsimp only
    rw [State.undoReleaseSeat_eq]
    by_cases hjoins : s.mayRehold p h l = true ∧ (s.basket p).seatLines.length < 10
    · obtain ⟨hmay, hroom⟩ := hjoins
      have hresult : ∀ m ∈ ls, (s.rehold p h l).reholdResult p h ((s.rehold p h l).rejoining p h ls) m =
          s.reholdResult p h (l :: (s.rehold p h l).rejoining p h ls) m := fun m hm => by
        have hne : m ≠ l := fun he => hother m hm (congrArg SeatLine.seat he)
        obtain ⟨hmay', hskip⟩ := State.rehold_other hmix (hother m hm)
        simp [State.reholdResult, hmay', hskip, hne]
      have hmix' : ((s.rehold p h l).basket p).handle = h := by rw [State.basket_rehold hmix]
      rw [if_pos hmay, if_pos hroom, if_pos rfl, ih hls (.inr hmix'), State.rejoining_cons hmix hother hmay hroom,
        State.heldAgain_cons hmix, List.map_cons, List.map_congr_left fun m hm => by rw [hresult m hm]]
      simp [State.reholdResult]
    · have hout : l ∉ s.rejoining p h ls := fun hmem => hother l (State.mem_rejoining hmem).1 rfl
      have hresult := State.undoReleaseSeat_of_not_joins hjoins hout
      rw [← State.undoReleaseSeat_eq, hresult, if_neg (State.reholdResult_ne_reversed hout), ih hls hmix,
        State.rejoining_cons_of_not hjoins]
      rfl

/-- R56: the conditions on the whole entry, where a current handle is its show's Generation. -/
theorem State.undoReleaseCheck_eq (s : State) (p : PortNo) (h : Handle) : s.undoReleaseCheck p h =
    if s.control.foyer ≠ .opened then some .closed
    else if (s.showAt h.index).state ≠ .onSale then some .notOnSale
    else if (s.showAt h.index).generation ≠ h.generation then some .staleShow
    else if (s.basket p).seatLines ≠ [] ∧ (s.basket p).handle ≠ h then some .mixedShow
    else none := by
  unfold State.undoReleaseCheck State.current
  by_cases hsale : (s.showAt h.index).state = .onSale
  · simp [hsale]
  · simp [hsale]

theorem State.undoReleaseCheck_none {s : State} {p : PortNo} {h : Handle} (hnone : s.undoReleaseCheck p h = none) :
    (s.basket p).seatLines = [] ∨ (s.basket p).handle = h := by
  unfold State.undoReleaseCheck at hnone
  dsimp only at hnone
  repeat' split at hnone
  any_goals cases hnone
  rename_i hmix
  exact or_iff_not_imp_left.2 fun hne => not_not.1 fun hh => hmix ⟨hne, hh⟩

theorem State.poolSeat_of_seats {s t : State} (h : t.seats = s.seats) (a : Nat) : t.poolSeat a = s.poolSeat a := by
  rw [State.poolSeat, h]
  rfl

/-- R56: a taken seat is HELD for the Lease Time. -/
theorem State.seatAt_takeSeats {s : State} {i : ShowNo} {ks : List Nat} (hnodup : ks.Nodup) (p : PortNo) {k : Nat}
    (hk : k ∈ ks) :
    (s.takeSeats p i ks).seatAt i k = { s.seatAt i k with
      state := .held p s.seats.leaseTime (s.seatAt i k).state.isHouse } := by
  rw [State.takeSeats_eq, State.seatAt_eachSeat_nodup s i _ hnodup, if_pos hk, SeatState.taken_eq]

/-! ## A claim undone (R58) -/

/-- R58, R118: why a voucher is not claimed again. -/
def State.creditTrouble (s : State) (serial : Nat) : Option Result :=
  match s.slotOf serial with
  | none => some .unknown
  | some (_, .free) => some .unknown
  | some (_, .redeemed _ _ _ _) => some .alreadyRedeemed
  | some (_, .void _ _) => some .voided
  | some (_, .claimed _ _) => some .inUse
  | some (_, .issued v) => match v.kind with
    | .snack _ => some .wrongKind
    | .credit _ => if v.expiryDay < s.control.day then some .expired else none

theorem State.testVoucher_eq_trouble (s : State) (serial : Nat) :
    (∃ r content, s.creditTrouble serial = some r ∧ s.testVoucher false serial = .inl (r, content))
      ∨ ∃ v, s.creditTrouble serial = none ∧ s.testVoucher false serial = .inr v := by
  unfold State.creditTrouble State.testVoucher
  rcases s.slotOf serial with _ | ⟨n, x⟩
  · simp
  · cases x with
    | issued v =>
      cases hkind : v.kind with
      | snack _ => simp [hkind]
      | credit _ => by_cases hday : v.expiryDay < s.control.day <;> simp [hkind, hday]
    | _ => simp

theorem State.undoRemoveCredit_of_trouble {s : State} {serial : Nat} {r : Result} (hopen : s.control.foyer = .opened)
    (htrouble : s.creditTrouble serial = some r) (p : PortNo) : s.undoRemoveCredit p serial = (s, [(serial, r)]) := by
  unfold State.undoRemoveCredit
  rcases s.testVoucher_eq_trouble serial with ⟨r', content, hr, htest⟩ | ⟨v, hnone, -⟩
  · obtain rfl := Option.some.inj (hr.symm.trans htrouble)
    simp [hopen, htest]
  · simp [hnone] at htrouble

theorem State.undoRemoveCredit_of_usable {s : State} {serial : Nat} (hopen : s.control.foyer = .opened)
    (husable : s.creditTrouble serial = none) (p : PortNo) : s.undoRemoveCredit p serial =
      ((s.changeSlot serial (Slot.claim (.port p))).setBasket p { s.basket p with claims := (s.basket p).claims ++ [serial] },
        [(serial, .reversed)]) := by
  unfold State.undoRemoveCredit
  rcases s.testVoucher_eq_trouble serial with ⟨r', content, hr, -⟩ | ⟨v, -, htest⟩
  · simp [hr] at husable
  · simp [hopen, htest]

/-! ## Each kind of entry -/

/-- The lines of a port's basket, their handle and every seat are as they were. -/
def State.linesKept (s : State) (p : PortNo) (t : State) : Prop :=
  (t.basket p).seatLines = (s.basket p).seatLines ∧ (t.basket p).handle = (s.basket p).handle ∧ t.seats = s.seats

/-- The combo lines of a port's basket are as they were. -/
def State.combosKept (s : State) (p : PortNo) (t : State) : Prop := (t.basket p).combos = (s.basket p).combos

/-- The claims of a port's basket and every voucher are as they were. -/
def State.claimsKept (s : State) (p : PortNo) (t : State) : Prop :=
  (t.basket p).claims = (s.basket p).claims ∧ t.vouchers = s.vouchers

/-- No content of the basket changes: what a skipped item comes to. -/
def State.contentsKept (s : State) (p : PortNo) (t : State) : Prop :=
  s.linesKept p t ∧ s.combosKept p t ∧ s.claimsKept p t

section
variable {s : State} {p : PortNo} {tag : Byte} {rest : List UndoEntry}

theorem undo_skips {e : UndoEntry} (hu : s.TakesUndo p e rest) {items : List UndoItem}
    (hrev : (s.popped p rest).reverse p e = (s.popped p rest, items)) :
    s.UndoGoesTo p tag e rest items (s.contentsKept p) :=
  undo_goesTo hu hrev fun _ ht => ⟨⟨ht.seatLines, ht.handle, ht.seats⟩, ht.combos, ht.claims, ht.vouchers⟩

/-- R55: a HOLD undone. -/
theorem undo_hold {h : Handle} {ks : List Nat} (hu : s.TakesUndo p (.hold h ks) rest) {mine : Nat → Bool}
    (hmine : mine = fun k => (s.basket p).hasSeat k && decide ((s.basket p).handle = h)) :
    s.UndoGoesTo p tag (.hold h ks) rest (ks.map fun k => (k, if mine k then .reversed else .notHeld)) fun t =>
      s.seatsReturned t h.index (ks.filter mine)
      ∧ (t.basket p).seatLines = (s.basket p).seatLines.filter (fun l => !(ks.filter mine).contains l.seat)
      ∧ (t.basket p).handle = (s.basket p).handle ∧ s.combosKept p t ∧ s.claimsKept p t := by
  have hrev : (s.popped p rest).reverse p (.hold h ks) = (((s.popped p rest).returnSeats h.index (ks.filter mine)).setBasket p
      { s.basket p with
        undo := rest, seatLines := (s.basket p).seatLines.filter (fun l => !(ks.filter mine).contains l.seat) },
      ks.map fun k => (k, if mine k then .reversed else .notHeld)) := by
    rw [State.reverse, State.undoHold, State.basket_popped, hmine]
    rfl
  have hframe := ((s.popped p rest).returnSeats_seatStep h.index (ks.filter mine)).frame
  exact undo_goesTo hu hrev fun t ht => ⟨State.seatsReturned_of_seats ((s.popped p rest).returnSeats_returns _ _) rfl ht.seats,
    ht.seatLines, ht.handle, ht.combos, ht.claims, ht.vouchers.trans (congrArg State.vouchers hframe :)⟩

/-- R56: an entry that is skipped whole. -/
theorem undo_release_whole {h : Handle} {released : List SeatLine} (hu : s.TakesUndo p (.release h released) rest) {r : Result}
    (hr : (s.popped p rest).undoReleaseCheck p h = some r) :
    s.UndoGoesTo p tag (.release h released) rest (released.map fun l => (l.seat, r)) (s.contentsKept p) :=
  undo_skips hu (by rw [State.reverse, State.undoRelease, hr])

/-- R56: the seats of an entry, in its order. -/
theorem undo_release_seats {h : Handle} {released : List SeatLine} (hu : s.TakesUndo p (.release h released) rest)
    (hnone : (s.popped p rest).undoReleaseCheck p h = none) (hnodup : (released.map (·.seat)).Nodup) {back : List SeatLine}
    (hback : (s.popped p rest).rejoining p h released = back) :
    s.UndoGoesTo p tag (.release h released) rest
      (released.map fun l => (l.seat, (s.popped p rest).reholdResult p h back l)) fun t =>
      (∀ l ∈ back, t.seatAt h.index l.seat = { s.seatAt h.index l.seat with
        state := .held p s.seats.leaseTime (s.seatAt h.index l.seat).state.isHouse })
      ∧ s.poolKept t (s.seatAddresses h.index (back.map (·.seat))) ∧ s.showsKept t h.index
      ∧ (t.basket p).seatLines = (s.basket p).seatLines ++ back
      ∧ (t.basket p).handle = (if back = [] then (s.basket p).handle else h)
      ∧ s.combosKept p t ∧ s.claimsKept p t := by
  have hmix := State.undoReleaseCheck_none hnone
  have hstep := (s.popped p rest).takeSeats_seatStep p h.index (back.map (·.seat))
  have hnodup' : (back.map (·.seat)).Nodup :=
    hnodup.sublist (by rw [← hback]; exact ((List.take_sublist _ _).trans List.filter_sublist).map _)
  have hrev : (s.popped p rest).reverse p (.release h released) = ((s.popped p rest).heldAgain p h back,
      released.map fun l => (l.seat, (s.popped p rest).reholdResult p h back l)) := by
    rw [State.reverse, State.undoRelease, hnone, ← hback]
    exact State.undoReleaseSeats_eq hnodup hmix
  rw [State.heldAgain, State.basket_popped] at hrev
  refine undo_goesTo hu hrev fun t ht => ⟨fun l hl => ?_, ?_, ?_, ht.seatLines, ht.handle, ht.combos, ht.claims, ?_⟩
  · rw [State.seatAt_of_seats ht.seats, State.seatAt_takeSeats hnodup' p (List.mem_map_of_mem hl)]
    rfl
  · exact fun a ha => (State.poolSeat_of_seats ht.seats a).trans (hstep.pool a ha)
  · obtain ⟨hother, hcounts⟩ := hstep.dir
    refine ⟨fun j hj => (State.showAt_of_seats ht.seats j).trans (hother j hj), ?_⟩
    rw [State.showAt_of_seats ht.seats]
    exact hcounts
  · exact ht.vouchers.trans (congrArg State.vouchers hstep.frame :)

/-- R57: a SET_TYPE undone. -/
theorem undo_setType {k : Nat} {ty : Fin 8} (hu : s.TakesUndo p (.setType k ty) rest) :
    ((s.basket p).hasSeat k = true → s.UndoGoesTo p tag (.setType k ty) rest [(k, .reversed)] fun t =>
        (t.basket p).seatLines = retype (s.basket p).seatLines k ty ∧ (t.basket p).handle = (s.basket p).handle
        ∧ t.seats = s.seats ∧ s.combosKept p t ∧ s.claimsKept p t)
      ∧ ((s.basket p).hasSeat k = false → s.UndoGoesTo p tag (.setType k ty) rest [(k, .notHeld)] (s.contentsKept p)) := by
  refine ⟨fun hmine => undo_goesTo (x := s.popped p rest)
    (b := { s.basket p with undo := rest, seatLines := retype (s.basket p).seatLines k ty }) hu ?_ fun t ht =>
    ⟨ht.seatLines, ht.handle, ht.seats, ht.combos, ht.claims, ht.vouchers⟩, fun hnot => undo_skips hu ?_⟩
  all_goals rw [State.reverse, State.undoSetType, State.basket_popped]
  · exact if_pos hmine
  · exact if_neg fun hmine => Bool.noConfusion (hnot.symm.trans hmine)

/-- R57: an ADD_COMBO undone. -/
theorem undo_addCombo {n : Nat} (hu : s.TakesUndo p (.addCombo n) rest) :
    (n < (s.basket p).combos.length → s.UndoGoesTo p tag (.addCombo n) rest [(n, .reversed)] fun t =>
        (t.basket p).combos = (s.basket p).combos.eraseIdx n ∧ s.linesKept p t ∧ s.claimsKept p t)
      ∧ ((s.basket p).combos.length ≤ n → s.UndoGoesTo p tag (.addCombo n) rest [(n, .noLine)] (s.contentsKept p)) := by
  refine ⟨fun hn => undo_goesTo (x := s.popped p rest)
    (b := { s.basket p with undo := rest, combos := (s.basket p).combos.eraseIdx n }) hu ?_ fun t ht =>
    ⟨ht.combos, ⟨ht.seatLines, ht.handle, ht.seats⟩, ht.claims, ht.vouchers⟩, fun hn => undo_skips hu ?_⟩
  all_goals rw [State.reverse, State.undoAddCombo, State.basket_popped]
  · exact if_pos hn
  · exact if_neg (not_lt.2 hn)

/-- R57: a REMOVE_COMBO undone. -/
theorem undo_removeCombo {c : Fin 32} {n : Nat} (hu : s.TakesUndo p (.removeCombo c n) rest) :
    (s.control.foyer = .closed → s.UndoGoesTo p tag (.removeCombo c n) rest [(n, .closed)] (s.contentsKept p))
      ∧ (s.control.foyer = .opened → 6 ≤ (s.basket p).combos.length →
        s.UndoGoesTo p tag (.removeCombo c n) rest [(n, .basketFull)] (s.contentsKept p))
      ∧ (s.control.foyer = .opened → (s.basket p).combos.length < 6 →
        s.UndoGoesTo p tag (.removeCombo c n) rest [(n, .reversed)] fun t =>
          (t.basket p).combos = (s.basket p).combos.take n ++ c :: (s.basket p).combos.drop n
          ∧ s.linesKept p t ∧ s.claimsKept p t) := by
  have hserved : s.control.foyer = .opened → ¬ (s.popped p rest).control.foyer = .closed := fun hopen hclosed =>
    FoyerState.noConfusion (hopen.symm.trans hclosed)
  refine ⟨fun hclosed => undo_skips hu (if_pos hclosed), fun hopen hfull => undo_skips hu ?_, fun hopen hroom =>
    undo_goesTo (x := s.popped p rest) (b := { s.basket p with
      undo := rest, combos := (s.basket p).combos.take n ++ c :: (s.basket p).combos.drop n }) hu ?_ fun t ht =>
    ⟨ht.combos, ⟨ht.seatLines, ht.handle, ht.seats⟩, ht.claims, ht.vouchers⟩⟩
  all_goals rw [State.reverse, State.undoRemoveCombo, State.basket_popped]; dsimp only; rw [if_neg (hserved hopen)]
  · exact if_pos hfull
  · exact if_neg (not_le.2 hroom)

/-- R58, R118: the slot of one serial, as the Voucher Table is compared. -/
theorem State.changeSlot_spec (s : State) (serial : Nat) {f : Slot → Slot} (hf : ∀ x, f (f x) = f x) :
    s.slotBecomes (s.changeSlot serial f) serial f ∧ s.slotsKept (s.changeSlot serial f) [serial] := by
  obtain ⟨hbecome, hkept⟩ := s.eachSlot_spec hf [serial]
  exact ⟨hbecome serial (List.mem_singleton_self serial), hkept⟩

/-- R58: an APPLY_CREDIT undone. -/
theorem undo_applyCredit {serial : Nat} (hu : s.TakesUndo p (.applyCredit serial) rest) :
    (serial ∈ (s.basket p).claims → s.UndoGoesTo p tag (.applyCredit serial) rest [(serial, .reversed)] fun t =>
        (t.basket p).claims = (s.basket p).claims.erase serial ∧ s.claimsReturned t [serial]
        ∧ s.linesKept p t ∧ s.combosKept p t)
      ∧ (serial ∉ (s.basket p).claims →
        s.UndoGoesTo p tag (.applyCredit serial) rest [(serial, .notClaimed)] (s.contentsKept p)) := by
  refine ⟨fun hmem => undo_goesTo (x := (s.popped p rest).changeSlot serial Slot.unclaim)
    (b := { s.basket p with undo := rest, claims := (s.basket p).claims.erase serial }) hu ?reversed fun t ht => ?effect,
    fun hnot => undo_skips hu ?skipped⟩
  case reversed =>
    rw [State.reverse, State.undoApplyCredit, State.basket_popped]
    exact if_pos (by simpa using hmem)
  case skipped =>
    rw [State.reverse, State.undoApplyCredit, State.basket_popped]
    exact if_neg (by simpa using hnot)
  case effect =>
    obtain ⟨hbecome, hkept⟩ := (s.popped p rest).changeSlot_spec serial Slot.unclaim_unclaim
    have hslots := congrArg State.vouchers ((s.popped p rest).changeSlot_frame serial Slot.unclaim)
    have hseats : t.seats = s.seats := ht.seats.trans (State.changeSlot_seats _ _ _)
    refine ⟨ht.claims, ⟨fun k hk => ?_, State.slotsKept_of_vouchers hkept rfl ht.vouchers, ?_⟩,
      ⟨ht.seatLines, ht.handle, hseats⟩, ht.combos⟩
    · rw [List.mem_singleton.1 hk]
      exact State.slotBecomes_of_vouchers hbecome rfl ht.vouchers
    · rw [ht.vouchers]
      exact hslots

/-- R58: a REMOVE_CREDIT undone. -/
theorem undo_removeCredit {serial : Nat} (hu : s.TakesUndo p (.removeCredit serial) rest) :
    (s.control.foyer = .closed → s.UndoGoesTo p tag (.removeCredit serial) rest [(serial, .closed)] (s.contentsKept p))
      ∧ (s.control.foyer = .opened →
        (∀ r, s.creditTrouble serial = some r →
          s.UndoGoesTo p tag (.removeCredit serial) rest [(serial, r)] (s.contentsKept p))
        ∧ (s.creditTrouble serial = none →
          s.UndoGoesTo p tag (.removeCredit serial) rest [(serial, .reversed)] fun t =>
            (t.basket p).claims = (s.basket p).claims ++ [serial] ∧ s.slotBecomes t serial (Slot.claim (.port p))
            ∧ s.slotsKept t [serial] ∧ s.linesKept p t ∧ s.combosKept p t)) := by
  refine ⟨fun hclosed => undo_skips hu (if_pos hclosed), fun hopen =>
    ⟨fun r hr => undo_skips hu (State.undoRemoveCredit_of_trouble (s := s.popped p rest) hopen hr p), fun hnone => ?_⟩⟩
  have hrev := State.undoRemoveCredit_of_usable (s := s.popped p rest) hopen hnone p
  rw [State.basket_popped] at hrev
  obtain ⟨hbecome, hkept⟩ := (s.popped p rest).changeSlot_spec serial (Slot.claim_claim (.port p))
  exact undo_goesTo hu hrev fun t ht => ⟨ht.claims, State.slotBecomes_of_vouchers hbecome rfl ht.vouchers,
    State.slotsKept_of_vouchers hkept rfl ht.vouchers,
    ⟨ht.seatLines, ht.handle, ht.seats.trans (State.changeSlot_seats _ _ _)⟩, ht.combos⟩

end

/-- Settles O18: each kind of entry is reversed in the popped state, as a write of the port's basket on seats returned, seats held
again, one voucher's slot changed, or nothing else. -/
theorem undoPopsItsEntry : Obligations.UndoPopsItsEntry := by
  unfold Obligations.UndoPopsItsEntry
  intro p tag e rest s hears hfoyer hrole hstate hundo
  have hu : s.TakesUndo p e rest := ⟨hears, hfoyer, hrole, hstate, hundo⟩
  refine ⟨?hold, ?release, ?setType, ?addCombo, ?removeCombo, ?applyCredit, ?removeCredit⟩
  case hold => rintro h ks rfl; exact undo_hold hu rfl
  case release =>
    rintro h released rfl
    have hcheck := (s.popped p rest).undoReleaseCheck_eq p h
    rw [State.basket_popped] at hcheck
    refine ⟨fun r hr => undo_release_whole hu (hcheck.trans hr), fun hnone hnodup => ?_⟩
    intro may back result
    have hmay : (s.popped p rest).mayRehold p h = may := by
      have hrole : ((s.popped p rest).port p).role = (s.port p).role := s.role_goodFrame p
      funext l
      rw [State.mayRehold, hrole]
      rfl
    have hback : (s.popped p rest).rejoining p h released = back := by rw [State.rejoining, hmay, State.basket_popped]
    have hresult : (s.popped p rest).reholdResult p h back = result := by
      funext l
      rw [State.reholdResult, State.skipReason, hmay, State.basket_popped]
      rfl
    have hseats := undo_release_seats (tag := tag) hu (hcheck.trans hnone) hnodup hback
    rw [hresult] at hseats
    exact hseats
  case setType => rintro k ty rfl; exact undo_setType hu
  case addCombo => rintro n rfl; exact undo_addCombo hu
  case removeCombo => rintro c n rfl; exact undo_removeCombo hu
  case applyCredit => rintro serial rfl; exact undo_applyCredit hu
  case removeCredit => rintro serial rfl; exact undo_removeCredit hu

end Sys2Proof.Machine
end

section
/-! Staging, Commit Prices and Reload Staged on the bytes that carry them (O20, O21): each layout is read back, and R71's check of
the arguments passes or finds one out of range. -/

namespace Sys2Proof.Machine

/-! ## Arguments in range or not (R71) -/

/-- Every argument in range: the tables are staged and echoed. -/
theorem State.stage_accepted (s : State) {ok : List Bool} (hok : ∀ b ∈ ok, b = true) (t : PriceTables) (echo : Bytes) :
    s.stage ok t echo = (s.setStaged t, .ok, echo) := by
  have hnone : firstBad ok = none := List.findIdx?_eq_none_iff.2 fun b hb => by rw [hok b hb]; rfl
  rw [State.stage, hnone]

/-- An argument out of range: BAD_ARG, and nothing is staged. -/
theorem State.stage_refused (s : State) {ok : List Bool} (hbad : false ∈ ok) (t : PriceTables) (echo : Bytes) :
    ∃ content, s.stage ok t echo = (s, .badArg, content) := by
  unfold State.stage
  split
  · exact ⟨_, rfl⟩
  · rename_i hnone
    exact absurd (List.findIdx?_eq_none_iff.1 hnone false hbad) (by decide)

section
variable {α : Type}

theorem bind_readText_text {t : Bytes} (h : t.length < 256) (rest : Bytes) (f : Bytes × Bytes → Option α) :
    (readText (text t ++ rest) >>= f) = f (t, rest) := by rw [readText_text t rest h]; rfl

theorem bind_readNat_flag (b : Bool) (rest : Bytes) (f : Nat × Bytes → Option α) :
    (readNat 1 (flag b ++ rest) >>= f) = f (b.toNat, rest) := by cases b <;> rfl

end

theorem goodFlag_toNat (b : Bool) : goodFlag b.toNat = true := by cases b <;> rfl

theorem decide_toNat_eq_one (b : Bool) : decide (b.toNat = 1) = b := by cases b <;> rfl

theorem setIfInBounds_fin {α : Type} {n : Nat} (v : Vector α n) (i : Fin n) (x : α) :
    v.setIfInBounds i.val x = v.set i x :=
  Vector.ext fun j hj => by rw [Vector.getElem_setIfInBounds, Vector.getElem_set]

/-! ## Stage Band and Stage Ticket Type (R72) -/

theorem readStageBand_bytes {band : Fin 8} {p0 p1 p2 p3 : Nat} (h0 : p0 ≤ 65535) (h1 : p1 ≤ 65535) (h2 : p2 ≤ 65535)
    (h3 : p3 ≤ 65535) :
    readStageBand (u8 band.val ++ u24 p0 ++ u24 p1 ++ u24 p2 ++ u24 p3) = some (band.val, p0, p1, p2, p3) := by
  have hband : band.val % 256 = band.val := Nat.mod_eq_of_lt (by omega)
  have hp : ∀ {p : Nat}, p ≤ 65535 → p % 16777216 = p := fun h => Nat.mod_eq_of_lt (by omega)
  simp [readStageBand, List.append_assoc, hband, hp h0, hp h1, hp h2, hp h3]

theorem stageBand_eq {p0 p1 p2 p3 : Nat} (h0 : p0 ≤ 65535) (h1 : p1 ≤ 65535) (h2 : p2 ≤ 65535) (h3 : p3 ≤ 65535)
    (band : Fin 8) (s : State) : stageBand (u8 band.val ++ u24 p0 ++ u24 p1 ++ u24 p2 ++ u24 p3) s =
      (s.setStaged { s.prices.staged with base := s.prices.staged.base.set band #v[p0, p1, p2, p3] }, .ok,
        u24 p0 ++ u24 p1 ++ u24 p2 ++ u24 p3) := by
  rw [stageBand, readStageBand_bytes h0 h1 h2 h3]
  dsimp only
  rw [State.stage_accepted, setIfInBounds_fin]
  simp [goodPrice, h0, h1, h2, h3]

theorem readStageType_bytes {k : Fin 8} {f : Nat} {name : Bytes} (hf : f < 65536) (hname : name.length ≤ 8) (valid box : Bool) :
    readStageType (u8 k.val ++ u16 f ++ flag valid ++ flag box ++ text name) =
      some (k.val, f, valid.toNat, box.toNat, name) := by
  have hk : k.val % 256 = k.val := Nat.mod_eq_of_lt (by omega)
  simp only [List.append_assoc]
  simp only [readStageType, ↓bind_readNat_u8, ↓bind_readNat_u16, ↓bind_readNat_flag, hk, Nat.mod_eq_of_lt hf,
    readText_text_end name (by omega), Option.bind_eq_bind, Option.bind_some, done_nil]

theorem stageTicketType_eq {f : Nat} {name : Bytes} (hf : f < 65536) (hname : name.length ≤ 8) (hprint : printable name = true)
    (k : Fin 8) (valid box : Bool) (s : State) :
    stageTicketType (u8 k.val ++ u16 f ++ flag valid ++ flag box ++ text name) s =
      (s.setStaged { s.prices.staged with
          types := s.prices.staged.types.set k
            { factor := min 2000 f, valid := valid, boxOfficeOnly := box, name := name } }, .ok,
        u16 (min 2000 f) ++ flag valid ++ flag box ++ text name) := by
  rw [stageTicketType, readStageType_bytes hf hname]
  dsimp only
  rw [State.stage_accepted, setIfInBounds_fin, decide_toNat_eq_one, decide_toNat_eq_one]
  · rfl
  · simp [goodFlag_toNat, goodName, hname, hprint]

/-! ## Stage Combo (R73) -/

theorem readStageCombo_bytes {code : Fin 32} {price d m template : Nat} {name : Bytes} (hprice : price ≤ 65535) (hd : d < 65536)
    (hm : m < 256) (htemplate : template < 256) (hname : name.length ≤ 16) (valid : Bool) :
    readStageCombo (u8 code.val ++ u24 price ++ u16 d ++ u8 m ++ u8 template ++ text name ++ flag valid) =
      some { code := code.val, price := price, discount := d, minSeats := m, template := template, name := name,
             valid := valid.toNat } := by
  have hcode : code.val % 256 = code.val := Nat.mod_eq_of_lt (by omega)
  have hp : price % 16777216 = price := Nat.mod_eq_of_lt (by omega)
  have hflag : readNat 1 (flag valid) = some (valid.toNat, []) := by cases valid <;> rfl
  simp only [List.append_assoc]
  simp only [readStageCombo, ↓bind_readNat_u8, ↓bind_readNat_u16, ↓bind_readNat_u24,
    ↓bind_readText_text (show name.length < 256 by omega), hcode, hp, Nat.mod_eq_of_lt hd, Nat.mod_eq_of_lt hm,
    Nat.mod_eq_of_lt htemplate, hflag, Option.bind_eq_bind, Option.bind_some, done_nil]

section
variable {code : Fin 32} {price d m template : Nat} {name : Bytes} (hprice : price ≤ 65535) (hd : d < 65536)
  (hm : m < 256) (htemplate : template < 256) (hname : name.length ≤ 16)
include hprice hd hm htemplate hname

theorem stageCombo_eq (hprint : printable name = true) (ht : template < 32) (hm10 : m ≤ 10) (valid : Bool) (s : State) :
    stageCombo (u8 code.val ++ u24 price ++ u16 d ++ u8 m ++ u8 template ++ text name ++ flag valid) s =
      (s.setStaged { s.prices.staged with
          combos := s.prices.staged.combos.set code
            { price := price, discount := min 1000 d, minSeats := m, template := ⟨template, ht⟩, name := name,
              valid := valid } },
        .ok, u24 price ++ u16 (min 1000 d) ++ u8 m ++ u8 template ++ text name ++ flag valid) := by
  have hsector : Fin.ofNat 32 template = ⟨template, ht⟩ := Fin.ext (Nat.mod_eq_of_lt ht)
  rw [stageCombo, readStageCombo_bytes hprice hd hm htemplate hname]
  dsimp only
  rw [State.stage_accepted, setIfInBounds_fin, decide_toNat_eq_one, hsector]
  · rfl
  · simp [goodFlag_toNat, goodName, goodPrice, hprice, hm10, ht, hname, hprint]

/-- R73: more than 10 Minimum Seats or a Voucher Template above 31. -/
theorem stageCombo_refused (hbad : 10 < m ∨ 32 ≤ template) (valid : Bool) (s : State) : ∃ content,
    stageCombo (u8 code.val ++ u24 price ++ u16 d ++ u8 m ++ u8 template ++ text name ++ flag valid) s =
      (s, .badArg, content) := by
  rw [stageCombo, readStageCombo_bytes hprice hd hm htemplate hname]
  refine s.stage_refused ?_ _ _
  rcases hbad with hseats | hsector
  · simp [hseats]
  · simp [hsector]

end

/-! ## Stage Tax and Stage Ceiling (R74) -/

theorem stageTax_eq {rt rk : Nat} (ht : rt < 65536) (hk : rk < 65536) (s : State) : stageTax (u16 rt ++ u16 rk) s =
    (s.setStaged { s.prices.staged with ticketRate := min 5000 rt, snackRate := min 5000 rk }, .ok,
      u16 (min 5000 rt) ++ u16 (min 5000 rk)) := by
  rw [stageTax, readTwoDurations_bytes ht hk]
  exact s.stage_accepted (fun _ hb => absurd hb List.not_mem_nil) _ _

theorem readCeiling_bytes {c : Nat} (hc : c < 16777216) : readCeiling (u24 c) = some c := by
  simp [readCeiling, Nat.mod_eq_of_lt hc]

theorem stageCeiling_eq {c : Nat} (hc : c < 16777216) (hpos : 1 ≤ c) (s : State) :
    stageCeiling (u24 c) s = (s.setStaged { s.prices.staged with ceiling := c }, .ok, u24 c) := by
  rw [stageCeiling, readCeiling_bytes hc]
  exact s.stage_accepted (by simpa using Nat.lt_of_succ_le hpos) _ _

theorem stageCeiling_zero (s : State) : ∃ content, stageCeiling (u24 0) s = (s, .badArg, content) := by
  rw [stageCeiling, readCeiling_bytes (by decide)]
  exact s.stage_refused (by simp) _ _

/-- Settles O20: each layout is read back, and its arguments are in range, or one is named that is not. -/
theorem stageCommandsWriteTheStagedCopy : Obligations.StageCommandsWriteTheStagedCopy := by
  unfold Obligations.StageCommandsWriteTheStagedCopy
  intro tag s
  refine ⟨fun band p0 p1 p2 p3 htake h0 h1 h2 h3 => ?band, fun k f valid box name htake hf hname hprint => ?ticketType,
    fun k price d m template name valid htake hprice hd hm ht hname hprint =>
      ⟨fun hsector hseats => ?combo, fun hbad => ?comboRefused⟩,
    fun rt rk htake ht hk => ?tax, fun c htake hc => ⟨fun hpos => ?ceiling, ?ceilingRefused⟩⟩
  all_goals have hclear := State.restartPending_of_takes htake
  case band => exact runCommand_replies (c := .stageBand) htake (stageBand_eq h0 h1 h2 h3 band s) hclear
  case ticketType =>
    exact runCommand_replies (c := .stageTicketType) htake (stageTicketType_eq hf hname hprint k valid box s) hclear
  case combo =>
    exact runCommand_replies (c := .stageCombo) htake (stageCombo_eq hprice hd hm ht hname hprint hsector hseats valid s) hclear
  case comboRefused =>
    obtain ⟨content, hbody⟩ := stageCombo_refused (code := k) hprice hd hm ht hname hbad valid s
    exact ⟨content, runCommand_reads (c := .stageCombo) htake hbody⟩
  case tax => exact runCommand_replies (c := .stageTax) htake (stageTax_eq ht hk s) hclear
  case ceiling => exact runCommand_replies (c := .stageCeiling) htake (stageCeiling_eq hc hpos s) hclear
  case ceilingRefused =>
    rintro rfl
    obtain ⟨content, hbody⟩ := stageCeiling_zero s
    exact ⟨content, runCommand_reads (c := .stageCeiling) htake hbody⟩

/-! ## Commit Prices and Reload Staged (R75, R76) -/

theorem commitPrices_eq (s : State) : commitPrices [] s =
    ({ s with prices :=
        { live := s.prices.staged, staged := s.prices.staged, generation := (s.prices.generation + 1) % 256,
          committed := true } }, .ok, u8 ((s.prices.generation + 1) % 256)) := by
  rw [commitPrices, noArgs, if_pos rfl]
  rfl

theorem reloadStaged_eq (s : State) : reloadStaged [] s =
    ({ s with prices := { s.prices with staged := s.prices.live } }, .ok, []) := by
  rw [reloadStaged, noArgs, if_pos rfl]
  rfl

/-- Settles O21: both commands carry no argument, and neither asks for anything but to be taken. -/
theorem commitAndReloadCopyTheTables : Obligations.CommitAndReloadCopyTheTables := by
  unfold Obligations.CommitAndReloadCopyTheTables
  intro tag s
  constructor <;> intro htake
  · exact runCommand_replies (c := .commitPrices) htake (commitPrices_eq s) (State.restartPending_of_takes htake)
  · exact runCommand_replies (c := .reloadStaged) htake (reloadStaged_eq s) (State.restartPending_of_takes htake)

end Sys2Proof.Machine
end

section
/-! The computation of a basket's amounts (R82 to R87) and PRICE (R78 to R80): what rounding half up comes to, the bounds of the
line amounts, and each way a PRICE can go (O22 to O24). -/

namespace Sys2Proof.Machine

/-! ## Rounding half up (R82) -/

/-- The rounded quotient lies within half of the exact one, a half going up. -/
theorem roundDiv_bounds (x : Nat) {d : Nat} (hd : 0 < d) :
    2 * d * roundDiv x d ≤ 2 * x + d ∧ 2 * x + d < 2 * d * (roundDiv x d + 1) :=
  ⟨Nat.mul_div_le _ _, Nat.lt_mul_div_succ _ (Nat.mul_pos two_pos hd)⟩

/-- A rounded quotient is at most what it is compared with where the exact one is. -/
theorem roundDiv_le {x d n : Nat} (hd : 0 < d) (h : x ≤ d * n) : roundDiv x d ≤ n := by
  have hlt : 2 * x + d < 2 * d * (n + 1) := by
    calc 2 * x + d ≤ 2 * (d * n) + d := by omega
      _ < 2 * (d * n) + 2 * d := by omega
      _ = 2 * d * (n + 1) := by ring
  exact Nat.le_of_lt_succ (Nat.div_lt_of_lt_mul hlt)

/-! ## Bounds of the line amounts and the portions (R82 to R84) -/

theorem seatAmount_le {base factor surcharge : Nat} (hb : base ≤ 65534) (hf : factor ≤ 2000) (hs : surcharge ≤ 4095) :
    seatAmount base factor surcharge ≤ 135163 := by
  have hround : roundDiv (base * factor) 1000 ≤ 131068 :=
    roundDiv_le (by decide) ((Nat.mul_le_mul hb hf).trans (by decide))
  unfold seatAmount
  omega

/-- R83: a discount never raises the amount above the price. -/
theorem Combo.amount_le_price (c : Combo) (n : Nat) : c.amount n ≤ c.price := by
  unfold Combo.amount
  split
  · exact Nat.sub_le _ _
  · exact le_rfl

theorem Combo.discounted_eq (c : Combo) (n : Nat) : c.discounted n = (decide (0 < c.minSeats) && decide (c.minSeats ≤ n)) :=
  Bool.decide_and _ _

/-- R66: a base price in range that is not NOT_SOLD is at most 65,534. -/
theorem State.basePrice_le {s : State} (h : s.prices.live.InRange) {i : ShowNo} {k : Nat} (hs : s.basePrice i k ≠ notSold) :
    s.basePrice i k ≤ 65534 := by
  have hle : s.basePrice i k ≤ 65535 := h.prices _ _
  exact Nat.le_of_lt_succ (lt_of_le_of_ne hle hs)

theorem State.pricedCombos_amount_le {s : State} (h : s.prices.live.InRange) {b : Basket} {c : PricedCombo}
    (hc : c ∈ s.pricedCombos b) : c.amount ≤ 65535 := by
  obtain ⟨code, -, rfl⟩ := List.mem_map.1 hc
  exact (Combo.amount_le_price _ _).trans (h.comboPrices code)

theorem State.pricedSeats_amount_le {s : State} (h : s.prices.live.InRange) {b : Basket}
    (hsurcharge : (s.showAt b.handle.index).surcharge ≤ 4095)
    (hsold : ∀ l ∈ b.seatLines, s.basePrice b.handle.index l.seat ≠ notSold) {x : PricedLine} (hx : x ∈ s.pricedSeats b) :
    x.amount ≤ 135163 := by
  obtain ⟨l, hl, rfl⟩ := List.mem_map.1 hx
  exact seatAmount_le (s.basePrice_le h (hsold l hl)) (h.factors l.ticketType) hsurcharge

/-- A sum of at most `n` amounts, each at most `a`. -/
theorem sum_map_le {α : Type} {f : α → Nat} {xs : List α} {n a : Nat} (hn : xs.length ≤ n) (ha : ∀ x ∈ xs, f x ≤ a) :
    (xs.map f).sum ≤ n * a := by
  refine (List.sum_le_card_nsmul (xs.map f) a (List.forall_mem_map.2 ha)).trans ?_
  rw [List.length_map, smul_eq_mul]
  exact Nat.mul_le_mul_right a hn

theorem State.portions_le {s : State} (h : s.prices.live.InRange) {b : Basket} (hseats : b.seatLines.length ≤ 10)
    (hcombos : b.combos.length ≤ 6) (hsurcharge : (s.showAt b.handle.index).surcharge ≤ 4095)
    (hsold : ∀ l ∈ b.seatLines, s.basePrice b.handle.index l.seat ≠ notSold) :
    (s.snapshotOf b).ticketPortion ≤ 1351630 ∧ (s.snapshotOf b).snackPortion ≤ 393210 := by
  have hten : (s.pricedSeats b).length ≤ 10 := by rwa [State.pricedSeats, List.length_map]
  have hsix : (s.pricedCombos b).length ≤ 6 := by rwa [State.pricedCombos, List.length_map]
  exact ⟨sum_map_le hten fun _ hx => State.pricedSeats_amount_le h hsurcharge hsold hx,
    sum_map_le hsix fun _ hc => State.pricedCombos_amount_le h hc⟩

/-- Settles O23: the lines are the model's, and the bounds of the portions are those of their lines. -/
theorem lineAmountsRoundHalfUp : Obligations.LineAmountsRoundHalfUp := by
  unfold Obligations.LineAmountsRoundHalfUp
  refine ⟨fun x _ hd => roundDiv_bounds x hd, fun _ _ _ => seatAmount_le, fun s b => ?_⟩
  refine ⟨rfl, ?combos, fun h c hc => State.pricedCombos_amount_le h hc, rfl, rfl, rfl,
    fun h hseats hcombos hsurcharge hsold => ?portions⟩
  case combos =>
    refine List.map_congr_left fun c _ => ?_
    rw [Combo.amount, Combo.discounted_eq]
    rfl
  case portions =>
    obtain ⟨ht, hk⟩ := State.portions_le h hseats hcombos hsurcharge hsold
    exact ⟨ht, hk, Nat.add_le_add ht hk⟩

/-! ## Credits and taxes (R85, R86) -/

/-- R86: a tax taken out of an amount never exceeds it, whatever the rate. -/
theorem taxPortion_le (due rate : Nat) : taxPortion due rate ≤ due := by
  refine roundDiv_le (by omega) ?_
  rw [Nat.mul_comm]
  exact Nat.mul_le_mul_right due (Nat.le_add_left rate 10000)

/-- Settles O24: every amount is the model's own; a credit is used up by the tickets, then by the snacks, or left unused. -/
theorem creditsAndTaxesOfASnapshot : Obligations.CreditsAndTaxesOfASnapshot := by
  unfold Obligations.CreditsAndTaxesOfASnapshot
  intro s b
  refine ⟨rfl, rfl, rfl, rfl, rfl, ?net, rfl, ?credits, rfl, rfl, fun _ => ?taxes, rfl⟩
  case net => exact Nat.add_le_add (Nat.sub_le _ _) (Nat.sub_le _ _)
  case credits => 
    simp only [State.snapshotOf, PriceUnit.amounts]
    omega
  case taxes => exact Nat.add_le_add (taxPortion_le _ _) (taxPortion_le _ _)

/-! ## PRICE (R78 to R80) -/

section
variable {s : State} {p : PortNo}

theorem State.priceCheck_none (hopen : s.control.foyer = .opened) (hstate : (s.basket p).state ≠ .authorising)
    (hlines : (s.basket p).seatLines ≠ []) : s.priceCheck p = none := by
  rw [State.priceCheck, if_neg (by rw [hopen]; decide), if_neg hstate, if_neg hlines]

/-- The failing lines of a port's basket (R79). -/
def State.failingOf (s : State) (p : PortNo) : List (Nat × Nat × Result) :=
  s.failingSeats p (s.basket p) ++ s.failingCombos (s.basket p)

/-- The Error Count that a good frame lowers has no part in R79. -/
theorem State.failingOf_goodFrame (s : State) (p : PortNo) : (s.goodFrame p).failingOf p = s.failingOf p := by
  unfold State.failingOf State.failingSeats State.seatLineReason
  rw [State.role_goodFrame]
  rfl

section
variable (hseller : s.sellerCheck p = none) (hcheck : s.priceCheck p = none)
include hseller hcheck

theorem price_passes (hf : s.failingOf p = []) : price p [] s =
    (s.priceBasket p, .ok, (s.snapshotOf (s.basket p)).bytes ++ u8 (s.basket p).undo.length) := by
  unfold State.failingOf at hf
  simp [price, hseller, hcheck, hf]

theorem price_fails {k n : Nat} {r : Result} {rest : List (Nat × Nat × Result)} (hf : s.failingOf p = (k, n, r) :: rest) :
    price p [] s = (s, r, failingLines ((k, n, r) :: rest)) := by
  unfold State.failingOf at hf
  simp [price, hseller, hcheck, hf, State.refuse]

end

variable (hears : s.hears p = true) (hopen : s.control.foyer = .opened) (hrole : (s.port p).role ≠ .counter)
  (hstate : (s.basket p).state ≠ .authorising) (hlines : (s.basket p).seatLines ≠ []) (tag : Byte)
include hears hopen hrole hstate hlines

theorem exec_price_passes (hf : s.failingOf p = []) : exec (.price p tag []) s =
    .next ((s.priceBasket p).answered .price p tag .ok
      ((s.snapshotOf (s.basket p)).bytes ++ u8 (s.basket p).undo.length)) :=
  congrArg Host.Outcome.next (State.request_accepted hears .price tag _ .ok _
    (price_passes (State.sellerCheck_goodFrame (by rw [hopen]; decide) hrole) (State.priceCheck_none hopen hstate hlines)
      ((s.failingOf_goodFrame p).trans hf)))

theorem exec_price_fails {k n : Nat} {r : Result} {rest : List (Nat × Nat × Result)}
    (hf : s.failingOf p = (k, n, r) :: rest) :
    exec (.price p tag []) s = .next (s.answered .price p tag r (failingLines ((k, n, r) :: rest))) :=
  congrArg Host.Outcome.next (State.request_refused hears .price tag _ r _
    (price_fails (State.sellerCheck_goodFrame (by rw [hopen]; decide) hrole) (State.priceCheck_none hopen hstate hlines)
      ((s.failingOf_goodFrame p).trans hf)))

end

/-- Settles O22: the statement's failing lines are those of R79, and a PRICE past its checks goes by them. -/
theorem priceStoresTheSnapshot : Obligations.PriceStoresTheSnapshot := by
  unfold Obligations.PriceStoresTheSnapshot
  intro p tag s hears hopen hrole hstate hlines b x seatReason failing
  have hfailing : failing = s.failingOf p := rfl
  rw [hfailing]
  exact ⟨rfl, exec_price_passes hears hopen hrole hstate hlines tag,
    fun _ _ _ _ => exec_price_fails hears hopen hrole hstate hlines tag⟩

end Sys2Proof.Machine
end

section
/-! The searches of the model (R92, R115, R116, R122, R130), said once: each steps from a start to the first value that is not
taken, and finds one when its fuel is more than the values taken. -/

namespace Sys2Proof.Machine

/-- Step by `next` from a start to the first value that is not taken, within `fuel` values. -/
def firstClear (next : Nat → Nat) (taken : Nat → Bool) : Nat → Nat → Nat
  | 0, n => n
  | fuel + 1, n => if taken n then firstClear next taken fuel (next n) else n

/-- A search passes taken values only, and stops early only at a value that is not taken. -/
theorem firstClear_spec (next : Nat → Nat) (taken : Nat → Bool) (fuel n : Nat) :
    ∃ d ≤ fuel, firstClear next taken fuel n = next^[d] n ∧ (∀ i < d, taken (next^[i] n) = true)
      ∧ (d < fuel → taken (next^[d] n) = false) := by
  induction fuel generalizing n with
  | zero => exact ⟨0, Nat.le_refl 0, rfl, fun i hi => absurd hi (Nat.not_lt_zero i), fun h => absurd h (Nat.lt_irrefl 0)⟩
  | succ fuel ih =>
    unfold firstClear
    split
    · rename_i hn
      obtain ⟨d, hd, heq, hbefore, hclear⟩ := ih (next n)
      refine ⟨d + 1, Nat.succ_le_succ hd, heq, fun i hi => ?_, fun h => hclear (Nat.lt_of_succ_lt_succ h)⟩
      cases i with
      | zero => exact hn
      | succ i => exact hbefore i (Nat.lt_of_succ_lt_succ hi)
    · rename_i hn
      exact ⟨0, Nat.zero_le _, rfl, fun i hi => absurd hi (Nat.not_lt_zero i), fun _ => by simpa using hn⟩

/-- A search through more values than are taken finds one that is not taken. -/
theorem firstClear_clear {next : Nat → Nat} {taken : Nat → Bool} {fuel n : Nat} {xs : List Nat}
    (htaken : ∀ k, taken k = true → k ∈ xs) (hfuel : xs.length < fuel)
    (hinj : ∀ i < fuel, ∀ j < fuel, next^[i] n = next^[j] n → i = j) :
    ∃ d < fuel, firstClear next taken fuel n = next^[d] n ∧ (∀ i < d, taken (next^[i] n) = true)
      ∧ taken (next^[d] n) = false := by
  obtain ⟨d, hd, heq, hbefore, hclear⟩ := firstClear_spec next taken fuel n
  have hlt : d < fuel := by
    by_contra hge
    have hdf : d = fuel := Nat.le_antisymm hd (not_lt.1 hge)
    have hnodup : ((List.range fuel).map fun i => next^[i] n).Nodup :=
      List.Nodup.map_on (fun i hi j hj => hinj i (List.mem_range.1 hi) j (List.mem_range.1 hj)) List.nodup_range
    have hsub : ((List.range fuel).map fun i => next^[i] n) ⊆ xs := by
      intro k hk
      obtain ⟨i, hi, rfl⟩ := List.mem_map.1 hk
      exact htaken _ (hbefore i (hdf ▸ List.mem_range.1 hi))
    have hlen := (hnodup.subperm hsub).length_le
    rw [List.length_map, List.length_range] at hlen
    omega
  exact ⟨d, hlt, heq, hbefore, hclear hlt⟩

/-! ## Counters that wrap from their greatest value to 1 (R92, R115, R130) -/

/-- The value after this one; `M` is followed by 1. -/
def wrapNext (M n : Nat) : Nat := if n < M then n + 1 else 1

theorem wrapNext_range {M : Nat} (hM : 1 ≤ M) (n : Nat) : 1 ≤ wrapNext M n ∧ wrapNext M n ≤ M := by
  unfold wrapNext
  split <;> omega

/-- From a start in range, `d` values on. -/
theorem wrapNext_iterate {M n : Nat} (hn : 1 ≤ n) (hM : n ≤ M) (d : Nat) : (wrapNext M)^[d] n = (n - 1 + d) % M + 1 := by
  induction d with
  | zero => rw [Function.iterate_zero_apply, Nat.add_zero, Nat.mod_eq_of_lt (by omega)]; omega
  | succ d ih =>
    rw [Function.iterate_succ_apply', ih, ← Nat.add_assoc, Nat.add_mod (n - 1 + d) 1 M]
    have hlt : (n - 1 + d) % M < M := Nat.mod_lt _ (by omega)
    unfold wrapNext
    by_cases hM1 : M = 1
    · subst hM1; simp [Nat.mod_one]
    · rw [Nat.mod_eq_of_lt (a := 1) (by omega)]
      by_cases hlast : (n - 1 + d) % M + 1 < M
      · rw [if_pos hlast, Nat.mod_eq_of_lt hlast]
      · rw [if_neg hlast, show (n - 1 + d) % M + 1 = M by omega, Nat.mod_self]

/-- From a start in range, fewer than `M` values on, no value comes twice. -/
theorem wrapNext_injective_of_range {M n : Nat} (hn : 1 ≤ n) (hM : n ≤ M) {i j : Nat} (hi : i < M) (hj : j < M)
    (h : (wrapNext M)^[i] n = (wrapNext M)^[j] n) : i = j := by
  rw [wrapNext_iterate hn hM, wrapNext_iterate hn hM] at h
  have hmod : (n - 1) + i ≡ (n - 1) + j [MOD M] := Nat.succ.inj h
  have := Nat.ModEq.add_left_cancel' (n - 1) hmod
  rwa [Nat.ModEq, Nat.mod_eq_of_lt hi, Nat.mod_eq_of_lt hj] at this

/-- From any start, no value comes twice among the first `M`. -/
theorem wrapNext_injective {M : Nat} (n : Nat) {i j : Nat} (hi : i < M) (hj : j < M)
    (h : (wrapNext M)^[i] n = (wrapNext M)^[j] n) : i = j := by
  by_cases hn : 1 ≤ n ∧ n ≤ M
  · exact wrapNext_injective_of_range hn.1 hn.2 hi hj h
  · have hrange : ∀ k, 1 ≤ (wrapNext M)^[k + 1] n ∧ (wrapNext M)^[k + 1] n ≤ M := fun k => by
      rw [Function.iterate_succ_apply']
      exact wrapNext_range (by omega) _
    have hfirst := wrapNext_range (M := M) (by omega) n
    rcases i with _ | i <;> rcases j with _ | j
    · rfl
    · rw [Function.iterate_zero_apply] at h
      exact absurd (h ▸ hrange j) hn
    · rw [Function.iterate_zero_apply] at h
      exact absurd (h ▸ hrange i) hn
    · rw [Function.iterate_succ_apply, Function.iterate_succ_apply] at h
      exact congrArg (· + 1) (wrapNext_injective_of_range hfirst.1 hfirst.2 (by omega) (by omega) h)

/-! ## The model's searches -/

theorem nextSerial_eq : nextSerial = wrapNext 16777215 := rfl

theorem State.freeSerial_eq (s : State) (fuel n : Nat) :
    s.freeSerial fuel n = firstClear (wrapNext 16777215) (fun k => (s.indexed k).isSome) fuel n := by
  induction fuel generalizing n with
  | zero => rfl
  | succ fuel ih => simp only [State.freeSerial, firstClear, ih, nextSerial_eq]

theorem freeTag_eq (es : List AuthEntry) (fuel n : Nat) :
    freeTag es fuel n = firstClear (wrapNext 65535) (fun k => es.any fun e => decide (e.tag = k)) fuel n := by
  induction fuel generalizing n with
  | zero => rfl
  | succ fuel ih => simp only [freeTag, firstClear, ih, wrapNext]

theorem freeJobNumber_eq (js : List Job) (fuel n : Nat) :
    freeJobNumber js fuel n = firstClear (wrapNext 65535) (fun k => js.any fun j => decide (j.number = k)) fuel n := by
  induction fuel generalizing n with
  | zero => rfl
  | succ fuel ih => simp only [freeJobNumber, firstClear, ih, wrapNext]

theorem State.lowestFree_eq (s : State) (fuel n : Nat) :
    s.lowestFree fuel n = firstClear (· + 1) (fun k => decide (s.slotAt k ≠ .free)) fuel n := by
  induction fuel generalizing n with
  | zero => rfl
  | succ fuel ih =>
    unfold State.lowestFree firstClear
    by_cases h : s.slotAt n = .free
    · simp [h]
    · simp [h, ih]

/-- R92: the tag an entry takes is no entry's, where the list holds fewer than all the tags. -/
theorem PaymentRelay.nextTag_fresh {r : PaymentRelay} (h : r.entries.length < 65535) : ∀ e ∈ r.entries, e.tag ≠ r.nextTag := by
  have hclear := firstClear_clear (next := wrapNext 65535) (taken := fun k => r.entries.any fun e => decide (e.tag = k))
    (fuel := r.entries.length + 1) (n := r.tagCounter) (xs := r.entries.map (·.tag))
    (fun k hk => by simpa using hk) (by simp)
    (fun i hi j hj heq => wrapNext_injective r.tagCounter (by omega) (by omega) heq)
  obtain ⟨d, -, heq, -, hclear⟩ := hclear
  have hnext : r.nextTag = (wrapNext 65535)^[d] r.tagCounter := by rw [PaymentRelay.nextTag, freeTag_eq, heq]
  intro e he htag
  rw [← hnext, ← htag] at hclear
  simp only [List.any_eq_false, decide_eq_true_eq] at hclear
  exact hclear e he rfl

/-- R130: the number a new job takes is no job's, and the counter's own where no job carries that. -/
theorem freeJobNumber_fresh {js : List Job} (h : js.length < 65535) (n : Nat) :
    (∀ j ∈ js, j.number ≠ freeJobNumber js (js.length + 1) n)
      ∧ ((∀ j ∈ js, j.number ≠ n) → freeJobNumber js (js.length + 1) n = n) := by
  constructor
  · have hclear := firstClear_clear (next := wrapNext 65535) (taken := fun k => js.any fun j => decide (j.number = k))
      (fuel := js.length + 1) (n := n) (xs := js.map (·.number))
      (fun k hk => by simpa using hk) (by simp)
      (fun i hi j hj heq => wrapNext_injective n (by omega) (by omega) heq)
    obtain ⟨d, -, heq, -, hclear⟩ := hclear
    intro j hj hnum
    rw [freeJobNumber_eq, heq] at hnum
    rw [← hnum] at hclear
    simp only [List.any_eq_false, decide_eq_true_eq] at hclear
    exact hclear j hj rfl
  · intro hfree
    unfold freeJobNumber
    rw [if_neg]
    simpa using hfree

end Sys2Proof.Machine
end

section
/-! The Voucher Table and its Serial Index as one (R112, R114 to R118): what holds of both together, and what issuing a voucher,
changing its state and freeing it keep. -/

namespace Sys2Proof.Machine

/-! ## Listed addresses -/

theorem Sparse.keys_nodup {α : Type} [DecidableEq α] {d : Nat → α} {m : List (Nat × α)} (h : Sparse.wf d m = true) :
    (m.map Prod.fst).Nodup :=
  List.pairwise_map.2 (((Sparse.wf_iff d m).1 h).1.imp fun hlt => Nat.ne_of_lt hlt)

/-- In a canonical list the listed addresses are those that do not read as their default. -/
theorem Sparse.mem_keys {α : Type} [DecidableEq α] {d : Nat → α} {m : List (Nat × α)} (h : Sparse.wf d m = true) (a : Nat) :
    a ∈ m.map Prod.fst ↔ Sparse.get d m a ≠ d a := by
  constructor
  · intro ha
    obtain ⟨c, hc, rfl⟩ := List.mem_map.1 ha
    rw [Sparse.get_of_mem h hc]
    exact ((Sparse.wf_iff d m).1 h).2 c hc
  · exact fun ha => List.mem_map.2 ⟨_, Sparse.listed_of_get_ne ha, rfl⟩

/-- Two canonical lists of the same addresses are of one length. -/
theorem Sparse.length_eq {α : Type} [DecidableEq α] {d : Nat → α} {m m' : List (Nat × α)} (h : Sparse.wf d m = true)
    (h' : Sparse.wf d m' = true) (hget : ∀ a, Sparse.get d m' a = d a ↔ Sparse.get d m a = d a) : m'.length = m.length := by
  have hperm : (m'.map Prod.fst).Perm (m.map Prod.fst) :=
    (List.perm_ext_iff_of_nodup (Sparse.keys_nodup h') (Sparse.keys_nodup h)).2 fun a => by
      rw [Sparse.mem_keys h', Sparse.mem_keys h, ne_eq, ne_eq, hget a]
  simpa using hperm.length_eq

/-- Writing an unlisted address lists one address more. -/
theorem Sparse.length_set_unlisted {α : Type} [DecidableEq α] {d : Nat → α} {m : List (Nat × α)} {a : Nat} {v : α}
    (h : Sparse.wf d m = true) (ha : Sparse.get d m a = d a) (hv : v ≠ d a) : (Sparse.set d m a v).length = m.length + 1 := by
  have hnot : a ∉ m.map Prod.fst := fun hmem => (Sparse.mem_keys h a).1 hmem ha
  have hperm : ((Sparse.set d m a v).map Prod.fst).Perm (a :: m.map Prod.fst) := by
    refine (List.perm_ext_iff_of_nodup (Sparse.keys_nodup (Sparse.wf_set a v h))
      (List.nodup_cons.2 ⟨hnot, Sparse.keys_nodup h⟩)).2 fun b => ?_
    rw [Sparse.mem_keys (Sparse.wf_set a v h), List.mem_cons, Sparse.mem_keys h, Sparse.get_set]
    by_cases hb : b = a
    · simp [hb, hv]
    · simp [hb]
  simpa using hperm.length_eq

/-- What is read of a part of a canonical list. -/
theorem Sparse.get_filter {α : Type} [DecidableEq α] {d : Nat → α} {m : List (Nat × α)} (h : Sparse.wf d m = true)
    (p : Nat × α → Bool) (a : Nat) :
    Sparse.get d (m.filter p) a = if p (a, Sparse.get d m a) then Sparse.get d m a else d a := by
  by_cases hf : Sparse.get d (m.filter p) a = d a
  · by_cases hm : Sparse.get d m a = d a
    · simp [hf, hm]
    · have hlisted := Sparse.listed_of_get_ne hm
      have hp : ¬ p (a, Sparse.get d m a) = true := fun hp => by
        have hget := Sparse.get_of_mem (Sparse.wf_filter p h) (List.mem_filter.2 ⟨hlisted, hp⟩)
        exact hm (hget.symm.trans hf)
      rw [if_neg hp, hf]
  · obtain ⟨hmem, hp⟩ := List.mem_filter.1 (Sparse.listed_of_get_ne hf)
    have hget := Sparse.get_of_mem h hmem
    dsimp only at hget
    rw [hget, if_pos hp]

/-! ## Slots and index together -/

/-- The Voucher Table's two stores are canonical, slot numbers are 0 to 4,095 (R112), and the Serial Index pairs each serial with
the slot in use that carries it, and nothing else (R114). -/
structure State.SlotsIndexed (s : State) : Prop where
  slots : Sparse.wf freeSlot s.vouchers.slots = true
  index : Sparse.wf noSlot s.vouchers.index = true
  slotNumbers : ∀ c ∈ s.vouchers.slots, c.1 < 4096
  pairs : ∀ serial n, s.indexed serial = some n ↔ ∃ v, (s.slotAt n).voucher = some v ∧ v.serial = serial

theorem State.RelaySound.slotsIndexed {s : State} (h : s.RelaySound) (hc : s.Canonical) : s.SlotsIndexed :=
  ⟨hc.slots, hc.index, h.slotNumbers, h.index⟩

/-- The slots in use are the slots listed. -/
theorem State.used_eq {s : State} (h : Sparse.wf freeSlot s.vouchers.slots = true) :
    s.vouchers.used = s.vouchers.slots.length := by
  have hall := ((Sparse.wf_iff freeSlot s.vouchers.slots).1 h).2
  rw [VoucherTable.used, List.filter_eq_self.2 fun c hc => by simpa [freeSlot] using hall c hc]

theorem Slot.voucher_eq_none {x : Slot} : x.voucher = none ↔ x = .free := by cases x <;> simp [Slot.voucher]

/-- The serial a slot carries; 0 for a FREE one. -/
def Slot.serial (x : Slot) : Nat := (x.voucher.map (·.serial)).getD 0

namespace State.SlotsIndexed

variable {s : State}

/-- The slots and the index alone count. -/
theorem congr (h : s.SlotsIndexed) {t : State} (hs : t.vouchers.slots = s.vouchers.slots)
    (hi : t.vouchers.index = s.vouchers.index) : t.SlotsIndexed where
  slots := by rw [hs]; exact h.slots
  index := by rw [hi]; exact h.index
  slotNumbers := by rw [hs]; exact h.slotNumbers
  pairs := by simpa only [State.indexed, State.slotAt, hs, hi] using h.pairs

/-- A slot beyond 4,095 is FREE. -/
theorem free_of_le (h : s.SlotsIndexed) {n : Nat} (hn : 4096 ≤ n) : s.slotAt n = .free := by
  by_contra hne
  exact absurd (h.slotNumbers _ (Sparse.listed_of_get_ne hne)) (not_lt.2 hn)

/-- No two serials name one slot. -/
theorem serial_unique (h : s.SlotsIndexed) {k k' n : Nat} (hk : s.indexed k = some n) (hk' : s.indexed k' = some n) :
    k = k' := by
  obtain ⟨v, hv, rfl⟩ := (h.pairs k n).1 hk
  obtain ⟨v', hv', rfl⟩ := (h.pairs k' n).1 hk'
  rw [hv] at hv'
  rw [Option.some.inj hv']

/-- A serial names a slot in use. -/
theorem ne_free (h : s.SlotsIndexed) {k n : Nat} (hk : s.indexed k = some n) : s.slotAt n ≠ .free := by
  obtain ⟨v, hv, -⟩ := (h.pairs k n).1 hk
  intro hfree
  rw [hfree] at hv
  cases hv

/-- The index holds no more pairs than there are slots in use. -/
theorem index_length_le (h : s.SlotsIndexed) : s.vouchers.index.length ≤ s.vouchers.used := by
  have hsub : s.vouchers.index.map Prod.fst ⊆ s.vouchers.slots.map fun c => c.2.serial := by
    intro k hk
    obtain ⟨n, hn⟩ := Option.ne_none_iff_exists'.1 ((Sparse.mem_keys h.index k).1 hk)
    obtain ⟨v, hv, rfl⟩ := (h.pairs k n).1 hn
    have hlisted := Sparse.listed_of_get_ne (h.ne_free hn)
    refine List.mem_map.2 ⟨_, hlisted, ?_⟩
    have hv' : (Sparse.get freeSlot s.vouchers.slots n).voucher = some v := hv
    simp [Slot.serial, hv']
  have hlen := ((Sparse.keys_nodup h.index).subperm hsub).length_le
  rw [State.used_eq h.slots]
  simpa using hlen

end State.SlotsIndexed

/-! ## Issuing a voucher (R115, R116, R122) -/

/-- The serial the next voucher draws (R115). -/
def State.drawn (s : State) : Nat :=
  s.freeSerial (s.vouchers.index.length + 1) (if s.vouchers.serialCounter = 0 then 1 else s.vouchers.serialCounter)

/-- The slot it takes (R116, R122). -/
def State.takenSlot (s : State) : Nat := s.lowestFree 4096 0

theorem State.issue_eq (s : State) (kind : VoucherKind) (sale expiry : Nat) :
    s.issue kind sale expiry = ({ s with vouchers := { s.vouchers with
      slots := Sparse.set freeSlot s.vouchers.slots s.takenSlot
        (.issued { serial := s.drawn, kind := kind, issuingSale := sale, expiryDay := expiry })
      index := Sparse.set noSlot s.vouchers.index s.drawn (some s.takenSlot)
      serialCounter := nextSerial s.drawn } }, s.drawn) := rfl

theorem State.slotAt_issue (s : State) (kind : VoucherKind) (sale expiry m : Nat) :
    (s.issue kind sale expiry).1.slotAt m = if m = s.takenSlot
      then .issued { serial := s.drawn, kind := kind, issuingSale := sale, expiryDay := expiry } else s.slotAt m := by
  rw [State.issue_eq, State.slotAt, Sparse.get_set]
  rfl

theorem State.indexed_issue (s : State) (kind : VoucherKind) (sale expiry k : Nat) :
    (s.issue kind sale expiry).1.indexed k = if k = s.drawn then some s.takenSlot else s.indexed k := by
  rw [State.issue_eq, State.indexed, Sparse.get_set]
  rfl

namespace State.SlotsIndexed

variable {s : State}

/-- While a slot is FREE, the slot taken is the lowest of them. -/
theorem takenSlot_spec (h : s.SlotsIndexed) (hroom : s.vouchers.used < 4096) :
    s.takenSlot < 4096 ∧ s.slotAt s.takenSlot = .free ∧ ∀ i < s.takenSlot, s.slotAt i ≠ .free := by
  have hsucc : ∀ d, (· + 1)^[d] 0 = d := fun d => by rw [Nat.succ_iterate, Nat.zero_add]
  obtain ⟨d, hd, heq, hbefore, hclear⟩ := firstClear_clear (next := (· + 1)) (taken := fun k => decide (s.slotAt k ≠ .free))
    (fuel := 4096) (n := 0) (xs := s.vouchers.slots.map Prod.fst)
    (fun k hk => (Sparse.mem_keys h.slots k).2 (of_decide_eq_true hk))
    (by rw [List.length_map, ← State.used_eq h.slots]; exact hroom)
    (fun i _ j _ heq => by simpa [hsucc] using heq)
  have htaken : s.takenSlot = d := by rw [State.takenSlot, State.lowestFree_eq, heq, hsucc]
  rw [htaken]
  refine ⟨hd, by simpa [hsucc] using hclear, fun i hi => by simpa [hsucc] using hbefore i hi⟩

theorem takenSlot_free (h : s.SlotsIndexed) (hroom : s.vouchers.used < 4096) : s.slotAt s.takenSlot = .free :=
  (h.takenSlot_spec hroom).2.1

/-- The serial drawn is in no pair, and every serial passed from the counter on is in one. -/
theorem drawn_spec (h : s.SlotsIndexed) (hroom : s.vouchers.used < 4096) :
    ∃ d, s.drawn = (wrapNext 16777215)^[d] (if s.vouchers.serialCounter = 0 then 1 else s.vouchers.serialCounter)
      ∧ s.indexed s.drawn = none
      ∧ ∀ i < d, s.indexed ((wrapNext 16777215)^[i]
          (if s.vouchers.serialCounter = 0 then 1 else s.vouchers.serialCounter)) ≠ none := by
  have hlen := h.index_length_le
  obtain ⟨d, -, heq, hbefore, hclear⟩ := firstClear_clear (next := wrapNext 16777215)
    (taken := fun k => (s.indexed k).isSome) (fuel := s.vouchers.index.length + 1)
    (n := if s.vouchers.serialCounter = 0 then 1 else s.vouchers.serialCounter) (xs := s.vouchers.index.map Prod.fst)
    (fun k hk => (Sparse.mem_keys h.index k).2 (Option.isSome_iff_ne_none.1 hk)) (by simp)
    (fun i hi j hj heq => wrapNext_injective _ (by omega) (by omega) heq)
  have hdrawn : s.drawn = (wrapNext 16777215)^[d] (if s.vouchers.serialCounter = 0 then 1 else s.vouchers.serialCounter) := by
    rw [State.drawn, State.freeSerial_eq, heq]
  rw [← hdrawn] at hclear
  exact ⟨d, hdrawn, by simpa using hclear, fun i hi => Option.isSome_iff_ne_none.1 (hbefore i hi)⟩

theorem drawn_fresh (h : s.SlotsIndexed) (hroom : s.vouchers.used < 4096) : s.indexed s.drawn = none := by
  obtain ⟨-, -, hfresh, -⟩ := h.drawn_spec hroom
  exact hfresh

/-- Issuing pairs the serial drawn with the slot taken. -/
theorem issue (h : s.SlotsIndexed) (hroom : s.vouchers.used < 4096) (kind : VoucherKind) (sale expiry : Nat) :
    (s.issue kind sale expiry).1.SlotsIndexed := by
  obtain ⟨hslots, hindex⟩ := s.issue_wf h.slots h.index kind sale expiry
  have hfree := h.takenSlot_free hroom
  have hfresh := h.drawn_fresh hroom
  refine ⟨hslots, hindex, fun c hc => ?_, fun serial n => ?_⟩
  · by_contra hge
    have hget : (s.issue kind sale expiry).1.slotAt c.1 ≠ .free := by
      have := Sparse.get_of_mem hslots hc
      rw [State.slotAt, this]
      exact ((Sparse.wf_iff _ _).1 hslots).2 c hc
    rw [State.slotAt_issue, if_neg fun heq => hge (by rw [heq]; exact (h.takenSlot_spec hroom).1)] at hget
    exact hget (h.free_of_le (not_lt.1 hge))
  · rw [State.indexed_issue, State.slotAt_issue]
    by_cases hn : n = s.takenSlot
    · subst hn
      have hnone : ∀ k, s.indexed k ≠ some s.takenSlot := fun k hk => h.ne_free hk hfree
      by_cases hk : serial = s.drawn
      · simp [hk, Slot.voucher]
      · simp [hk, hnone serial, Slot.voucher, Ne.symm hk]
    · by_cases hk : serial = s.drawn
      · subst hk
        have hnot : ¬ ∃ v, (s.slotAt n).voucher = some v ∧ v.serial = s.drawn := fun hv => by
          have := (h.pairs s.drawn n).2 hv
          rw [hfresh] at this
          cases this
        simp only [if_neg hn, if_true, Option.some.injEq, Ne.symm hn, false_iff]
        exact hnot
      · simp only [if_neg hn, if_neg hk]
        exact h.pairs serial n

/-- Issuing takes one slot. -/
theorem issue_used (h : s.SlotsIndexed) (hroom : s.vouchers.used < 4096) (kind : VoucherKind) (sale expiry : Nat) :
    (s.issue kind sale expiry).1.vouchers.used = s.vouchers.used + 1 := by
  rw [State.used_eq (h.issue hroom kind sale expiry).slots, State.used_eq h.slots]
  exact Sparse.length_set_unlisted h.slots (h.takenSlot_free hroom) (v := .issued _) (by rintro ⟨⟩)

/-! ## Changing a voucher's state (R118, R123) -/

/-- Slots written so that each keeps its voucher keep the pairs, and as many are in use. -/
theorem of_voucher_eq (h : s.SlotsIndexed) {t : State} (hslots : Sparse.wf freeSlot t.vouchers.slots = true)
    (hindex : t.vouchers.index = s.vouchers.index) (hv : ∀ n, (t.slotAt n).voucher = (s.slotAt n).voucher) :
    t.SlotsIndexed ∧ t.vouchers.used = s.vouchers.used := by
  have hfree : ∀ n, t.slotAt n = .free ↔ s.slotAt n = .free := fun n => by
    rw [← Slot.voucher_eq_none, ← Slot.voucher_eq_none, hv n]
  refine ⟨⟨hslots, by rw [hindex]; exact h.index, fun c hc => ?_, fun serial n => ?_⟩, ?_⟩
  · by_contra hge
    have hget : t.slotAt c.1 ≠ .free := by
      rw [State.slotAt, Sparse.get_of_mem hslots hc]
      exact ((Sparse.wf_iff _ _).1 hslots).2 c hc
    exact hget ((hfree c.1).2 (h.free_of_le (not_lt.1 hge)))
  · rw [hv n, ← h.pairs serial n, State.indexed, State.indexed, hindex]
  · rw [State.used_eq hslots, State.used_eq h.slots]
    exact Sparse.length_eq h.slots hslots hfree

theorem setSlot (h : s.SlotsIndexed) {n : Nat} {x : Slot} (hx : x.voucher = (s.slotAt n).voucher) :
    (s.setSlot n x).SlotsIndexed ∧ (s.setSlot n x).vouchers.used = s.vouchers.used := by
  refine h.of_voucher_eq (s.setSlot_slots_wf h.slots n x) rfl fun m => ?_
  rw [State.slotAt_setSlot]
  split
  · rename_i hm; rw [hm, hx]
  · rfl

theorem changeSlot (h : s.SlotsIndexed) {f : Slot → Slot} (hf : ∀ x, (f x).voucher = x.voucher) (serial : Nat) :
    (s.changeSlot serial f).SlotsIndexed ∧ (s.changeSlot serial f).vouchers.used = s.vouchers.used := by
  unfold State.changeSlot
  split
  · rename_i n x hx
    exact h.setSlot (by rw [hf, (State.slotOf_eq_some.1 hx).2])
  · exact ⟨h, rfl⟩

theorem eachSlot (h : s.SlotsIndexed) {f : Slot → Slot} (hf : ∀ x, (f x).voucher = x.voucher) (serials : List Nat) :
    (s.eachSlot f serials).SlotsIndexed ∧ (s.eachSlot f serials).vouchers.used = s.vouchers.used := by
  induction serials generalizing s with
  | nil => exact ⟨h, rfl⟩
  | cons n serials ih =>
    obtain ⟨hfirst, hused⟩ := h.changeSlot hf n
    rw [State.eachSlot_cons, ← hused]
    exact ih hfirst

end State.SlotsIndexed

theorem Slot.voucher_claim (o : ClaimOwner) (x : Slot) : (x.claim o).voucher = x.voucher := by cases x <;> rfl
theorem Slot.voucher_unclaim (x : Slot) : x.unclaim.voucher = x.voucher := by cases x <;> rfl
theorem Slot.voucher_redeem (p : PortNo) (day time : Nat) (x : Slot) : (x.redeem p day time).voucher = x.voucher := by
  cases x <;> rfl

/-! ## Reclamation (R125) -/

/-- Freeing the spent slots with their pairs keeps the two stores as one, and no more slots are in use. -/
theorem State.SlotsIndexed.reclaim {s : State} (h : s.SlotsIndexed) {t : State} (day : Nat)
    (hs : t.vouchers.slots = (s.vouchers.reclaim day).slots) (hi : t.vouchers.index = (s.vouchers.reclaim day).index) :
    t.SlotsIndexed ∧ t.vouchers.used ≤ s.vouchers.used := by
  obtain ⟨hslots, hindex⟩ := VoucherTable.reclaim_wf h.slots h.index day
  have hslotAt : ∀ n, t.slotAt n = if (s.slotAt n).spent day then .free else s.slotAt n := fun n => by
    rw [State.slotAt, hs, VoucherTable.reclaim, Sparse.get_filter h.slots]
    cases hsp : (Sparse.get freeSlot s.vouchers.slots n).spent day <;> simp [State.slotAt, hsp, freeSlot]
  have hindexed : ∀ k, t.indexed k = (s.indexed k).filter fun n => !(s.slotAt n).spent day := fun k => by
    rw [State.indexed, hi, VoucherTable.reclaim, Sparse.get_filter h.index, State.indexed]
    cases Sparse.get noSlot s.vouchers.index k with
    | none => rfl
    | some n => 
      rw [Option.filter_some]
      rfl
  refine ⟨⟨hs ▸ hslots, hi ▸ hindex, fun c hc => ?_, fun serial n => ?_⟩, ?_⟩
  · rw [hs] at hc
    exact h.slotNumbers c (List.mem_filter.1 hc).1
  · rw [hindexed, hslotAt, Option.filter_eq_some_iff, h.pairs serial n]
    cases hsp : (s.slotAt n).spent day with
    | true => simp [Slot.voucher]
    | false => simp
  · rw [State.used_eq (hs ▸ hslots), State.used_eq h.slots, hs]
    exact List.length_filter_le _ _

end Sys2Proof.Machine
end

section
/-! The issue of a voucher for each combo line of a sale (R100, R115, R116): which slots and serials they take, one after the other,
and what the issue leaves. -/

namespace Sys2Proof.Machine

/-! ## FREE slots below a slot -/

/-- The FREE slots below a slot. -/
def State.freeBelow (s : State) (m : Nat) : Nat := ((List.range m).filter fun i => decide (s.slotAt i = .free)).length

theorem State.freeBelow_eq_zero {s : State} {m : Nat} (h : ∀ i < m, s.slotAt i ≠ .free) : s.freeBelow m = 0 := by
  rw [State.freeBelow, List.length_eq_zero_iff, List.filter_eq_nil_iff]
  intro i hi
  simpa using h i (List.mem_range.1 hi)

/-- One slot taken below a slot is one FREE slot fewer below it. -/
theorem State.freeBelow_taken {s t : State} {n m : Nat} (hn : n < m) (hfree : s.slotAt n = .free) (htaken : t.slotAt n ≠ .free)
    (hother : ∀ i, i ≠ n → t.slotAt i = s.slotAt i) : s.freeBelow m = t.freeBelow m + 1 := by
  have hperm : ((List.range m).filter fun i => decide (s.slotAt i = .free)).Perm
      (n :: (List.range m).filter fun i => decide (t.slotAt i = .free)) := by
    refine (List.perm_ext_iff_of_nodup (List.nodup_range.filter _)
      (List.nodup_cons.2 ⟨fun hmem => htaken (by simpa using (List.mem_filter.1 hmem).2), List.nodup_range.filter _⟩)).2
      fun i => ?_
    by_cases hi : i = n
    · subst hi; simp [hn, hfree]
    · simp [hi, hother i hi]
  rw [State.freeBelow, hperm.length_eq, List.length_cons, State.freeBelow]

/-! ## The vouchers of a sale's combo lines -/

/-- The candidate `d` places on from a start in range (R115). -/
def candidate (start d : Nat) : Nat := (start - 1 + d) % 16777215 + 1

/-- A serial is the first candidate from a start on that is in no pair and not among the serials drawn before it. -/
def State.DrawnFrom (s : State) (start : Nat) (before : List Nat) (serial : Nat) : Prop :=
  ∃ d, serial = candidate start d ∧ ∀ e < d, s.indexed (candidate start e) ≠ none ∨ candidate start e ∈ before

/-- Where the search for the serial of combo line `j` starts: at the counter, then past the serial before it (R115). -/
def drawStart (counter : Nat) (serials : List Nat) : Nat → Nat
  | 0 => if counter = 0 then 1 else counter
  | i + 1 => nextSerial (serials.getD i 0)

theorem State.SlotsIndexed.drawnFrom {s : State} (h : s.SlotsIndexed) (hroom : s.vouchers.used < 4096)
    (hcounter : s.vouchers.serialCounter ≤ 16777215) (serials : List Nat) :
    s.DrawnFrom (drawStart s.vouchers.serialCounter serials 0) [] s.drawn := by
  obtain ⟨d, hd, -, hpassed⟩ := h.drawn_spec hroom
  have hiter : ∀ i, (wrapNext 16777215)^[i] (if s.vouchers.serialCounter = 0 then 1 else s.vouchers.serialCounter)
      = candidate (drawStart s.vouchers.serialCounter serials 0) i :=
    wrapNext_iterate (by split <;> omega) (by split <;> omega)
  exact ⟨d, hd.trans (hiter d), fun e he => .inl (by rw [← hiter e]; exact hpassed e he)⟩

/-- The pair that an issue adds is of the serial it draws. -/
theorem State.DrawnFrom.before_issue {s : State} {kind : VoucherKind} {sale expiry start serial : Nat} {before : List Nat}
    (h : (s.issue kind sale expiry).1.DrawnFrom start before serial) : s.DrawnFrom start (s.drawn :: before) serial := by
  obtain ⟨d, hd, hpassed⟩ := h
  refine ⟨d, hd, fun e he => ?_⟩
  rcases hpassed e he with hind | hmem
  · rw [State.indexed_issue] at hind
    split at hind
    · rename_i heq
      exact .inr (List.mem_cons.2 (.inl heq))
    · exact .inl hind
  · exact .inr (List.mem_cons_of_mem _ hmem)

/-- What issuing the snack vouchers of combo lines comes to: from `s`, the state `t` and the serials drawn. -/
structure State.SnacksIssued (s : State) (sale expiry : Nat) (cs : List (Fin 32)) (t : State) (serials : List Nat) : Prop where
  indexed : t.SlotsIndexed
  used : t.vouchers.used = s.vouchers.used + cs.length
  length : serials.length = cs.length
  issued : ∀ (j : Nat) (c : Fin 32) (serial : Nat), cs[j]? = some c → serials[j]? = some serial →
    s.indexed serial = none ∧ ∃ m, m < 4096 ∧ s.slotAt m = .free ∧ s.freeBelow m = j ∧ t.indexed serial = some m
      ∧ t.slotAt m = .issued { serial := serial, kind := .snack c, issuingSale := sale, expiryDay := expiry }
  nodup : serials.Nodup
  drawn : s.vouchers.serialCounter ≤ 16777215 → ∀ (j serial : Nat), serials[j]? = some serial →
    s.DrawnFrom (drawStart s.vouchers.serialCounter serials j) (serials.take j) serial
  counter : t.vouchers.serialCounter = (match serials.getLast? with
    | none => s.vouchers.serialCounter
    | some serial => nextSerial serial)
  pairs : ∀ k, k ∉ serials → t.indexed k = s.indexed k
  others : ∀ m, (∀ k ∈ serials, t.indexed k ≠ some m) → t.slotAt m = s.slotAt m

namespace State.SnacksIssued

variable {s t : State} {sale expiry : Nat} {c : Fin 32} {cs : List (Fin 32)} {serials : List Nat}

theorem nil (h : s.SlotsIndexed) (sale expiry : Nat) : s.SnacksIssued sale expiry [] s [] where
  indexed := h
  used := rfl
  length := rfl
  issued := fun j c serial hc => by simp at hc
  nodup := List.nodup_nil
  drawn := fun _ j serial hj => by simp at hj
  counter := rfl
  pairs := fun _ _ => rfl
  others := fun _ _ => rfl

/-- Every serial drawn was in no pair. -/
theorem fresh (h : s.SnacksIssued sale expiry cs t serials) {k : Nat} (hk : k ∈ serials) : s.indexed k = none := by
  obtain ⟨j, hj⟩ := List.mem_iff_getElem?.1 hk
  have hlt : j < cs.length := by
    rw [← h.length]
    exact (List.getElem?_eq_some_iff.1 hj).1
  exact (h.issued j cs[j] k (List.getElem?_eq_getElem hlt) hj).1

section First

variable (h : s.SlotsIndexed) (hroom : s.vouchers.used < 4096)
  (hrest : (s.issue (.snack c) sale expiry).1.SnacksIssued sale expiry cs t serials)

include hrest

/-- A serial drawn after the first is another, and was in no pair before. -/
theorem fresh_after_first {k : Nat} (hk : k ∈ serials) : k ≠ s.drawn ∧ s.indexed k = none := by
  have hnone := hrest.fresh hk
  rw [State.indexed_issue] at hnone
  split at hnone
  · cases hnone
  · rename_i hne
    exact ⟨hne, hnone⟩

theorem first_notMem : s.drawn ∉ serials := fun hmem => (hrest.fresh_after_first hmem).1 rfl

/-- The first voucher's pair stays. -/
theorem first_pair : t.indexed s.drawn = some s.takenSlot := by
  rw [hrest.pairs _ hrest.first_notMem, State.indexed_issue, if_pos rfl]

/-- The first voucher's slot stays. -/
theorem first_slot : t.slotAt s.takenSlot =
    .issued { serial := s.drawn, kind := .snack c, issuingSale := sale, expiryDay := expiry } := by
  rw [hrest.others, State.slotAt_issue, if_pos rfl]
  intro k hk hpair
  exact (hrest.fresh_after_first hk).1 (hrest.indexed.serial_unique hpair hrest.first_pair)

include h hroom

/-- The first voucher takes the lowest FREE slot; each later one takes one more, as many FREE ones below it. -/
theorem issued_cons (j : Nat) (c' : Fin 32) (serial : Nat) (hc : (c :: cs)[j]? = some c')
    (hserial : (s.drawn :: serials)[j]? = some serial) :
    s.indexed serial = none ∧ ∃ m, m < 4096 ∧ s.slotAt m = .free ∧ s.freeBelow m = j ∧ t.indexed serial = some m
      ∧ t.slotAt m = .issued { serial := serial, kind := .snack c', issuingSale := sale, expiryDay := expiry } := by
  obtain ⟨hlow, hfree, hlowest⟩ := h.takenSlot_spec hroom
  cases j with
  | zero =>
    obtain rfl : c = c' := by simpa using hc
    obtain rfl : s.drawn = serial := by simpa using hserial
    exact ⟨h.drawn_fresh hroom, s.takenSlot, hlow, hfree, State.freeBelow_eq_zero hlowest, hrest.first_pair,
      hrest.first_slot⟩
  | succ j =>
    rw [List.getElem?_cons_succ] at hc hserial
    obtain ⟨-, m, hm, hmfree, hbelow, hpair, hslot⟩ := hrest.issued j c' serial hc hserial
    have hne : m ≠ s.takenSlot := by
      intro heq
      rw [State.slotAt_issue, if_pos heq] at hmfree
      cases hmfree
    rw [State.slotAt_issue, if_neg hne] at hmfree
    have hlt : s.takenSlot < m := by
      by_contra hge
      exact hlowest m (by omega) hmfree
    refine ⟨(hrest.fresh_after_first (List.mem_of_getElem? hserial)).2, m, hm, hmfree, ?_, hpair, hslot⟩
    rw [← hbelow]
    refine State.freeBelow_taken hlt hfree ?_ fun i hi => ?_
    · rw [State.slotAt_issue, if_pos rfl]; exact Slot.noConfusion
    · rw [State.slotAt_issue, if_neg hi]

theorem drawn_cons (hcounter : s.vouchers.serialCounter ≤ 16777215) (j serial : Nat)
    (hserial : (s.drawn :: serials)[j]? = some serial) :
    s.DrawnFrom (drawStart s.vouchers.serialCounter (s.drawn :: serials) j) ((s.drawn :: serials).take j) serial := by
  cases j with
  | zero =>
    obtain rfl : s.drawn = serial := by simpa using hserial
    exact h.drawnFrom hroom hcounter _
  | succ j =>
    rw [List.getElem?_cons_succ] at hserial
    obtain ⟨hnext, hnext'⟩ := wrapNext_range (M := 16777215) (by decide) s.drawn
    have hstart : drawStart (nextSerial s.drawn) serials j = nextSerial ((s.drawn :: serials).getD j 0) := by
      cases j with
      | zero => exact if_neg (Nat.ne_of_gt hnext)
      | succ j => rfl
    have hdrawn : (s.issue (.snack c) sale expiry).1.DrawnFrom (drawStart (nextSerial s.drawn) serials j) (serials.take j)
        serial := hrest.drawn hnext' j serial hserial
    rw [hstart] at hdrawn
    exact hdrawn.before_issue

/-- The first combo line takes the lowest FREE slot and draws the first serial; the rest follow on what that leaves. -/
theorem cons : s.SnacksIssued sale expiry (c :: cs) t (s.drawn :: serials) where
  indexed := hrest.indexed
  used := by rw [hrest.used, h.issue_used hroom, List.length_cons]; omega
  length := by rw [List.length_cons, List.length_cons, hrest.length]
  issued := hrest.issued_cons h hroom
  nodup := List.nodup_cons.2 ⟨hrest.first_notMem, hrest.nodup⟩
  drawn := hrest.drawn_cons h hroom
  counter := by
    rw [hrest.counter]
    cases serials with
    | nil => rfl
    | cons k ks => rw [List.getLast?_cons_cons]; rfl
  pairs := fun k hk => by
    obtain ⟨hne, hk'⟩ := not_or.1 fun hor => hk (List.mem_cons.2 hor)
    rw [hrest.pairs k hk', State.indexed_issue, if_neg hne]
  others := fun m hm => by
    have hne : m ≠ s.takenSlot := fun heq => hm s.drawn (List.mem_cons_self ..) (by rw [hrest.first_pair, heq])
    rw [hrest.others m fun k hk => hm k (List.mem_cons_of_mem _ hk), State.slotAt_issue, if_neg hne]

end First

end State.SnacksIssued

/-- R100, step 3: the vouchers of a list of combo lines, where as many slots are FREE. -/
theorem State.issueSnacks_spec {s : State} (h : s.SlotsIndexed) (sale expiry : Nat) (cs : List (Fin 32))
    (hroom : s.vouchers.used + cs.length ≤ 4096) :
    s.SnacksIssued sale expiry cs (s.issueSnacks sale expiry cs).1 (s.issueSnacks sale expiry cs).2 := by
  induction cs generalizing s with
  | nil => exact .nil h sale expiry
  | cons c cs ih =>
    rw [List.length_cons] at hroom
    have hfirst : s.vouchers.used < 4096 := by omega
    refine .cons h hfirst (ih (h.issue hfirst _ _ _) ?_)
    rw [h.issue_used hfirst]
    omega

end Sys2Proof.Machine
end

section
/-! The completion of a sale (R100) taken apart: the seats sold, the vouchers issued, the credits redeemed and the notice raised, and
what each leaves. -/

namespace Sys2Proof.Machine

/-! ## Seats of a sale -/

/-- A seat of the show that a step does not name is as it was. -/
theorem State.SeatStep.seatAt_other {s t : State} {i : ShowNo} {ks : List Nat} (h : s.SeatStep t i ks) {k : Nat}
    (hk : k ∉ ks) : t.seatAt i k = s.seatAt i k := by
  rw [State.seatAt_eq_poolSeat, State.seatAt_eq_poolSeat, h.dir.mapKept.seatAddress]
  refine h.pool _ fun hin => ?_
  obtain ⟨n, hn, heq⟩ := List.mem_map.1 hin
  rw [State.seatAddress_inj] at heq
  exact hk (heq ▸ hn)

/-- R100, step 2: each seat of the lines is SOLD, with its own line's ticket type where no seat has two lines. -/
theorem State.sellSeats_seatsSold (s : State) (i : ShowNo) (n : Nat) (ls : List PricedLine) :
    s.seatsSold (s.sellSeats i n ls) i n ls := by
  have hstep := s.sellSeats_seatStep i n ls
  refine ⟨?_, ?_, hstep.pool, hstep.dir⟩
  · induction ls generalizing s with
    | nil => simp
    | cons l ls ih =>
      intro x hx
      by_cases hmem : x.seat ∈ ls.map (·.seat)
      · obtain ⟨y, hy, hyx⟩ := List.mem_map.1 hmem
        obtain ⟨ty, hty⟩ := ih (s.setSeatState i l.seat (.sold n l.ticketType)) (State.sellSeats_seatStep _ i n ls) y hy
        rw [hyx, State.seatAt_setSeatState] at hty
        refine ⟨ty, hty.trans ?_⟩
        split
        · rename_i heq; rw [heq]
        · rfl
      · obtain rfl : x = l := (List.mem_cons.1 hx).resolve_right fun hin => hmem (List.mem_map.2 ⟨x, hin, rfl⟩)
        refine ⟨x.ticketType, ?_⟩
        exact (State.SeatStep.seatAt_other (State.sellSeats_seatStep _ i n ls) hmem).trans
          (by rw [State.seatAt_setSeatState, if_pos rfl])
  · induction ls generalizing s with
    | nil => simp
    | cons l ls ih =>
      intro hnodup x hx
      rw [List.map_cons, List.nodup_cons] at hnodup
      obtain ⟨hnot, hnodup⟩ := hnodup
      rcases List.mem_cons.1 hx with rfl | hx
      · exact (State.SeatStep.seatAt_other (State.sellSeats_seatStep _ i n ls) hnot).trans
          (by rw [State.seatAt_setSeatState, if_pos rfl])
      · have hne : x.seat ≠ l.seat := fun heq => hnot (List.mem_map.2 ⟨x, hx, heq⟩)
        have hsold := ih (s.setSeatState i l.seat (.sold n l.ticketType)) (State.sellSeats_seatStep _ i n ls) hnodup x hx
        rwa [State.seatAt_setSeatState, if_neg hne] at hsold

/-- Which seats are sold is read from the Seat Table alone. -/
theorem State.seatsSold.congr {s s' t t' : State} {i : ShowNo} {n : Nat} {ls : List PricedLine} (h : s.seatsSold t i n ls)
    (hs : s'.seats = s.seats) (ht : t'.seats = t.seats) : s'.seatsSold t' i n ls := by
  cases s; cases s'; cases t; cases t'
  cases hs
  cases ht
  exact h

/-! ## Vouchers of a sale -/

/-- R100, step 3: issuing changes the Voucher Table's slots, index and counter alone. -/
theorem State.issueSnacks_frame (s : State) (sale expiry : Nat) (cs : List (Fin 32)) :
    (s.issueSnacks sale expiry cs).1 = { s with vouchers := { s.vouchers with
      slots := (s.issueSnacks sale expiry cs).1.vouchers.slots
      index := (s.issueSnacks sale expiry cs).1.vouchers.index
      serialCounter := (s.issueSnacks sale expiry cs).1.vouchers.serialCounter } } := by
  induction cs generalizing s with
  | nil => rfl
  | cons c cs ih =>
    have hstep : (s.issueSnacks sale expiry (c :: cs)).1
        = ((s.issue (.snack c) sale expiry).1.issueSnacks sale expiry cs).1 := rfl
    rw [hstep, ih]
    rfl

/-- One serial for each combo line. -/
theorem State.issueSnacks_length (s : State) (sale expiry : Nat) (cs : List (Fin 32)) :
    (s.issueSnacks sale expiry cs).2.length = cs.length := by
  induction cs generalizing s with
  | nil => rfl
  | cons c cs ih => exact congrArg (· + 1) (ih _)

/-- R100, step 4: the clock stands while the credits are redeemed. -/
theorem State.redeemCredits_eq (s : State) (p : PortNo) (ns : List Nat) :
    s.redeemCredits p ns = s.eachSlot (Slot.redeem p s.control.day s.control.seconds) ns := by
  induction ns generalizing s with
  | nil => rfl
  | cons n ns ih =>
    have hcontrol : (s.changeSlot n (Slot.redeem p s.control.day s.control.seconds)).control = s.control := by
      rw [State.changeSlot_frame]
    have hstep := ih (s.changeSlot n (Slot.redeem p s.control.day s.control.seconds))
    rw [hcontrol] at hstep
    exact hstep

/-- What is raised rests on Foyer Control and on what the uplink sends. -/
theorem State.raise_control_congr {s t : State} (hc : t.control = s.control) (hu : t.uplink = s.uplink) (k : NoticeKind)
    (content : Bytes) : (t.raise k content).control = (s.raise k content).control := by
  simp only [State.raise, State.pushNotice, State.noticesLessOldest, State.sendingNotice, hc, hu]
  split
  · split <;> rfl
  · exact hc

/-! ## The steps of R100 -/

/-- Steps 1 and 2: the Sale Number drawn and the seats sold. -/
def State.saleSeats (s : State) (x : Sale) : State :=
  ({ s with relay := { s.relay with saleCounter := nextSale s.relay.saleNumber } } : State).sellSeats x.handle.index
    s.relay.saleNumber x.seatLines

/-- Step 3: the snack vouchers issued. -/
def State.saleSnacks (s : State) (x : Sale) : State × List Nat :=
  (s.saleSeats x).issueSnacks s.relay.saleNumber ((s.saleSeats x).showAt x.handle.index).expiryDay x.combos

/-- The slots set aside for the sale given back. -/
def State.saleReserve (s : State) (x : Sale) : State :=
  { (s.saleSnacks x).1 with vouchers := { (s.saleSnacks x).1.vouchers with
    reservation := (s.saleSnacks x).1.vouchers.reservation - x.reservation } }

/-- Step 5: what SALE carries. -/
def Sale.content (x : Sale) (n : Nat) (code : Bytes) (vouchers : Nat) : Bytes :=
  u32 n ++ u8 x.origin.val ++ x.handle.bytes ++ u24 x.net ++ u24 x.ticketTax ++ u24 x.snackTax ++ text code
    ++ u8 x.seatLines.length ++ u8 vouchers

theorem State.completeSale_eq (s : State) (x : Sale) (code : Bytes) :
    s.completeSale x code = (((s.saleReserve x).redeemCredits x.origin x.claims).raise .sale
      (x.content s.relay.saleNumber code (s.saleSnacks x).2.length), s.relay.saleNumber, (s.saleSnacks x).2) := rfl

theorem State.saleSeats_frame (s : State) (x : Sale) :
    s.saleSeats x = { s with
      relay := { s.relay with saleCounter := nextSale s.relay.saleNumber }
      seats := { s.seats with shows := (s.saleSeats x).seats.shows, pool := (s.saleSeats x).seats.pool } } :=
  (State.sellSeats_seatStep _ _ _ _).frame

theorem State.saleSnacks_frame (s : State) (x : Sale) :
    (s.saleSnacks x).1 = { s.saleSeats x with vouchers := { s.vouchers with
      slots := (s.saleSnacks x).1.vouchers.slots
      index := (s.saleSnacks x).1.vouchers.index
      serialCounter := (s.saleSnacks x).1.vouchers.serialCounter } } := by
  have hvouchers : (s.saleSeats x).vouchers = s.vouchers := by rw [State.saleSeats_frame]
  rw [← hvouchers]
  exact State.issueSnacks_frame _ _ _ _

theorem State.saleReserve_frame (s : State) (x : Sale) :
    s.saleReserve x = { s.saleSeats x with vouchers := { s.vouchers with
      slots := (s.saleSnacks x).1.vouchers.slots
      index := (s.saleSnacks x).1.vouchers.index
      serialCounter := (s.saleSnacks x).1.vouchers.serialCounter
      reservation := s.vouchers.reservation - x.reservation } } := by
  unfold State.saleReserve
  rw [State.saleSnacks_frame]

/-- R100: what the completion of a sale can change. -/
theorem State.completeSale_frame (s : State) (x : Sale) (code : Bytes) :
    (s.completeSale x code).1 = { s with
      relay := { s.relay with saleCounter := nextSale s.relay.saleNumber }
      seats := { s.seats with
        shows := (s.completeSale x code).1.seats.shows, pool := (s.completeSale x code).1.seats.pool }
      vouchers := { s.vouchers with
        slots := (s.completeSale x code).1.vouchers.slots
        index := (s.completeSale x code).1.vouchers.index
        serialCounter := (s.completeSale x code).1.vouchers.serialCounter
        reservation := s.vouchers.reservation - x.reservation }
      control := { s.control with
        notices := (s.completeSale x code).1.control.notices
        noticesLost := (s.completeSale x code).1.control.noticesLost } } := by
  rw [State.completeSale_eq, State.redeemCredits_eq, State.raise_frame, State.eachSlot_frame, State.saleReserve_frame,
    State.saleSeats_frame]

theorem State.completeSale_number (s : State) (x : Sale) (code : Bytes) : (s.completeSale x code).2.1 = s.relay.saleNumber :=
  rfl

theorem State.completeSale_length (s : State) (x : Sale) (code : Bytes) :
    (s.completeSale x code).2.2.length = x.combos.length := State.issueSnacks_length _ _ _ _

theorem State.completeSale_seats (s : State) (x : Sale) (code : Bytes) :
    (s.completeSale x code).1.seats = (s.saleSeats x).seats := by
  rw [State.completeSale_eq, State.raise_seats, State.redeemCredits_eq, State.eachSlot_frame, State.saleReserve_frame]

/-- R100, step 2. -/
theorem State.completeSale_seatsSold (s : State) (x : Sale) (code : Bytes) :
    s.seatsSold (s.completeSale x code).1 x.handle.index s.relay.saleNumber x.seatLines :=
  (State.sellSeats_seatsSold { s with relay := { s.relay with saleCounter := nextSale s.relay.saleNumber } } x.handle.index
    s.relay.saleNumber x.seatLines).congr rfl (s.completeSale_seats x code)

/-- R100, step 5. -/
theorem State.completeSale_control (s : State) (x : Sale) (code : Bytes) :
    (s.completeSale x code).1.control
      = (s.raise .sale (x.content s.relay.saleNumber code (s.completeSale x code).2.2.length)).control := by
  rw [State.completeSale_eq]
  refine State.raise_control_congr ?_ ?_ _ _
  all_goals rw [State.redeemCredits_eq, State.eachSlot_frame, State.saleReserve_frame, State.saleSeats_frame]

/-- The seats' show keeps its Start Day and Voucher Grace Days. -/
theorem State.saleSeats_expiryDay (s : State) (x : Sale) :
    ((s.saleSeats x).showAt x.handle.index).expiryDay = (s.showAt x.handle.index).expiryDay := by
  have hdir := (State.sellSeats_seatStep { s with relay := { s.relay with saleCounter := nextSale s.relay.saleNumber } }
    x.handle.index s.relay.saleNumber x.seatLines).dir.2
  have hshow : (s.saleSeats x).showAt x.handle.index
      = { s.showAt x.handle.index with counts := ((s.saleSeats x).showAt x.handle.index).counts } := hdir
  rw [hshow]
  rfl

/-! ## The Voucher Table after a sale -/

/-- The Voucher Table alone counts. -/
theorem State.SnacksIssued.congr {s s' t t' : State} {sale expiry : Nat} {cs : List (Fin 32)} {serials : List Nat}
    (h : s.SnacksIssued sale expiry cs t serials) (hs : s'.vouchers = s.vouchers)
    (hslots : t'.vouchers.slots = t.vouchers.slots) (hindex : t'.vouchers.index = t.vouchers.index)
    (hcounter : t'.vouchers.serialCounter = t.vouchers.serialCounter) : s'.SnacksIssued sale expiry cs t' serials where
  indexed := h.indexed.congr hslots hindex
  used := by simpa only [VoucherTable.used, hs, hslots] using h.used
  length := h.length
  issued := fun j c serial hc hk => by
    obtain ⟨hnone, m, hm, hfree, hbelow, hpair, hslot⟩ := h.issued j c serial hc hk
    refine ⟨?_, m, hm, ?_, ?_, ?_, ?_⟩
    · simpa only [State.indexed, hs] using hnone
    · simpa only [State.slotAt, hs] using hfree
    · rw [← hbelow]
      refine congrArg List.length (List.filter_congr fun i _ => ?_)
      have hslotAt : s'.slotAt i = s.slotAt i := by simp only [State.slotAt, hs]
      rw [hslotAt]
    · simpa only [State.indexed, hindex] using hpair
    · simpa only [State.slotAt, hslots] using hslot
  nodup := h.nodup
  drawn := by simpa only [State.DrawnFrom, State.indexed, hs] using h.drawn
  counter := by rw [hcounter, hs]; exact h.counter
  pairs := by simpa only [State.indexed, hs, hindex] using h.pairs
  others := by simpa only [State.indexed, State.slotAt, hs, hslots, hindex] using h.others

section

variable {s : State} (h : s.SlotsIndexed) {x : Sale} (hroom : s.vouchers.used + x.combos.length ≤ 4096)
include h hroom

/-- R100, step 3: the snack vouchers, issued on the table as it was. -/
theorem State.SlotsIndexed.saleSnacks :
    s.SnacksIssued s.relay.saleNumber (s.showAt x.handle.index).expiryDay x.combos (s.saleReserve x) (s.saleSnacks x).2 := by
  have hvouchers : (s.saleSeats x).vouchers = s.vouchers := by rw [State.saleSeats_frame]
  have hissued := State.issueSnacks_spec (s := s.saleSeats x) (h.congr (by rw [hvouchers]) (by rw [hvouchers]))
    s.relay.saleNumber ((s.saleSeats x).showAt x.handle.index).expiryDay x.combos (by rw [hvouchers]; exact hroom)
  rw [State.saleSeats_expiryDay] at hissued
  have hsnacks : (s.saleSeats x).issueSnacks s.relay.saleNumber (s.showAt x.handle.index).expiryDay x.combos
      = s.saleSnacks x := by rw [State.saleSnacks, State.saleSeats_expiryDay]
  rw [hsnacks] at hissued
  exact hissued.congr hvouchers.symm rfl rfl rfl

/-- Redeeming the credits keeps each slot's voucher. -/
theorem State.SlotsIndexed.completeSale (code : Bytes) :
    (s.completeSale x code).1.SlotsIndexed
      ∧ (s.completeSale x code).1.vouchers.used = s.vouchers.used + x.combos.length := by
  have hissued := h.saleSnacks hroom
  rw [← hissued.used, State.completeSale_eq, State.redeemCredits_eq, State.raise_vouchers]
  have hredeemed := hissued.indexed.eachSlot (Slot.voucher_redeem x.origin (s.saleReserve x).control.day
    (s.saleReserve x).control.seconds) x.claims
  exact ⟨hredeemed.1.congr (by rw [State.raise_vouchers]) (by rw [State.raise_vouchers]), hredeemed.2⟩

end

end Sys2Proof.Machine
end

section
/-! The accounts of the Payment Relay and the Voucher Table (R91, R92, R114, R117): what leaves them as they stand, and how an entry's
slots are set aside and given back. -/

namespace Sys2Proof.Machine

/-- What the relay and the Voucher Table account for, as it stands. -/
def State.accounts (s : State) : List (Nat × Slot) × List (Nat × Option Nat) × Nat × List AuthEntry × Nat :=
  (s.vouchers.slots, s.vouchers.index, s.vouchers.reservation, s.relay.entries, s.relay.tagCounter)

/-- State.RelaySound with the canonical form of the two stores it speaks of. -/
structure State.Accounted (s : State) : Prop extends s.SlotsIndexed where
  reservation : s.vouchers.reservation = s.relay.reserved
  reservations : ∀ e ∈ s.relay.entries, e.reservation = e.combos.length
  tags : (s.relay.entries.map (·.tag)).Nodup
  entries : s.relay.entries.length ≤ 24
  tagCounter : 1 ≤ s.relay.tagCounter ∧ s.relay.tagCounter ≤ 65535
  room : s.vouchers.used + s.vouchers.reservation ≤ 4096

theorem State.RelaySound.accounted {s : State} (h : s.RelaySound) (hc : s.Canonical) : s.Accounted :=
  { h.slotsIndexed hc with
    reservation := h.reservation, reservations := h.reservations, tags := h.tags, entries := h.entries
    tagCounter := h.tagCounter, room := h.room }

theorem State.Accounted.relaySound {s : State} (h : s.Accounted) : s.RelaySound :=
  ⟨h.reservation, h.reservations, h.tags, h.entries, h.tagCounter, h.room, h.slotNumbers, h.pairs⟩

/-! ## Operations that leave the accounts -/

theorem State.PrintStep.accounts {s t : State} (h : s.PrintStep t) : t.accounts = s.accounts := by rw [h.frame]; rfl

theorem foldl_accounts {α : Type} {f : State → α → State} (hf : ∀ t a, (f t a).accounts = t.accounts) (xs : List α)
    (s : State) : (xs.foldl f s).accounts = s.accounts :=
  foldl_keeps (P := fun t => t.accounts = s.accounts) (fun t a ht => (hf t a).trans ht) xs rfl

theorem State.SeatStep.accounts {s t : State} {i : ShowNo} {ks : List Nat} (h : s.SeatStep t i ks) :
    t.accounts = s.accounts := by rw [h.frame]; rfl

theorem State.takeSeats_accounts (s : State) (p : PortNo) (i : ShowNo) (ks : List Nat) :
    (s.takeSeats p i ks).accounts = s.accounts := foldl_accounts (f := fun s k => s.setSeatState i k _) (fun _ _ => rfl) ks s

theorem State.writeSeats_accounts (s : State) (i : ShowNo) (k : Nat) (xs : List Seat) :
    (s.writeSeats i k xs).accounts = s.accounts := by
  induction xs generalizing s k with
  | nil => rfl
  | cons x xs ih => exact ih (s.setSeat i k x) (k + 1)

theorem State.loseHeld_accounts (s : State) (i : ShowNo) (k : Nat) : (s.loseHeld i k).accounts = s.accounts := by
  unfold State.loseHeld
  split <;> rfl

/-- Seats given up wherever a test picks them. -/
theorem State.giveUpWhere_accounts (s : State) (c : State → ShowNo → Nat → Bool) :
    (s.forSeats fun s i k => if c s i k then s.giveUpSeat i k else s).accounts = s.accounts := by
  refine State.forSeats_keeps (P := fun t => t.accounts = s.accounts) (fun t i k ht => ?_) rfl
  split
  · exact ht
  · exact ht

theorem State.expireLeases_accounts (s : State) : s.expireLeases.accounts = s.accounts := by
  refine State.forSeats_keeps (P := fun t => t.accounts = s.accounts) (fun t i k ht => ?_) rfl
  split
  · exact (t.loseHeld_accounts i k).trans ht
  · exact ht

theorem State.checkLow_accounts (s : State) : s.checkLow.accounts = s.accounts := by rw [s.checkLow_frame]; rfl

theorem State.start_accounts (s : State) : s.start.accounts = s.accounts := by
  unfold State.start
  rw [State.pushNotice_frame]
  rfl

theorem State.raise_accounts (s : State) (k : NoticeKind) (content : Bytes) : (s.raise k content).accounts = s.accounts :=
  (s.raise_printStep k content).accounts

theorem State.runArbiter_accounts (s : State) : s.runArbiter.accounts = s.accounts := s.runArbiter_printStep.accounts

theorem State.answerKept_accounts (s : State) (p : PortNo) (make : Bool) (r : Result) (content : Bytes) :
    (s.answerKept p make r content).accounts = s.accounts := by
  unfold State.answerKept
  split
  · rfl
  · cases make <;> rfl

theorem State.printSale_accounts (s : State) (x : Sale) (sale : Nat) (serials : List Nat) :
    (s.printSale x sale serials).1.accounts = s.accounts := by
  unfold State.printSale
  dsimp only
  split
  · rfl
  · exact (s.owe_printStep _).accounts

theorem State.stopJob_accounts (s : State) (p : PortNo) : (s.stopJob p).accounts = s.accounts := by
  unfold State.stopJob
  repeat' split
  any_goals rfl
  exact ((s.owe_printStep _).trans (State.endJob_printStep _ _ _)).accounts

theorem State.activate_accounts (s : State) (p : PortNo) (n : Nat) : (s.activate p n).accounts = s.accounts :=
  State.runArbiter_accounts _

theorem State.printerStatus_accounts (s : State) (p : PortNo) (payload : Bytes) :
    (s.printerStatus p payload).accounts = s.accounts := by
  unfold State.printerStatus
  repeat' split
  any_goals rfl
  exact (s.report_printStep _ _ _ _ _).accounts

theorem State.passUp_accounts (s : State) (p : PortNo) (tag : Byte) (payload : Bytes) :
    (s.passUp p tag payload).accounts = s.accounts := by
  unfold State.passUp
  split <;> rfl

theorem State.uplinkPass_accounts (s : State) (port tag : Byte) (payload : Bytes) :
    (s.uplinkPass port tag payload).accounts = s.accounts := by
  unfold State.uplinkPass State.passDown
  dsimp only
  repeat' split
  all_goals rfl

theorem State.printFrameEnd_accounts (s : State) (p : PortNo) (o : PrintOffer) :
    (s.printFrameEnd p o).accounts = s.accounts := by
  unfold State.printFrameEnd State.printSent
  dsimp only
  split
  · rfl
  · refine Eq.trans ?_ (rfl : (s.setPort p { s.port p with printOffer := none }).accounts = s.accounts)
    split
    · split
      · rfl
      · exact ((State.setChannel_printStep _ _ _).trans (State.offer_printStep _ _)).accounts
    · exact (State.offer_printStep _ _).accounts

theorem State.kioskFrameEnd_accounts (s : State) (p : PortNo) : (s.kioskFrameEnd p).accounts = s.accounts := by
  unfold State.kioskFrameEnd
  split
  · rfl
  · dsimp only
    split
    · rfl
    · rfl
    · split
      · exact State.printFrameEnd_accounts _ _ _
      · rfl
    · rfl

theorem State.uplinkStart_accounts (s : State) : s.uplinkStart.accounts = s.accounts := by
  unfold State.uplinkStart State.startNotice
  repeat' split
  all_goals rfl

theorem State.tickWaits_accounts (s : State) : s.tickWaits.accounts = s.accounts :=
  ((State.expireWaitsOf_printStep _ _).trans (State.runArbiter_printStep _)).accounts

theorem State.completeStore_accounts (s : State) : s.completeStore.accounts = s.accounts := by
  unfold State.completeStore
  split
  · rfl
  · exact (((State.raise_printStep _ _ _).trans (State.readSectors_printStep _ _)).trans (State.runArbiter_printStep _)).accounts

namespace State.Accounted

variable {s t : State}

/-! ## Slots that keep their vouchers -/

theorem kept (h : s.Accounted) (hk : t.accounts = s.accounts) : t.Accounted := by
  simp only [State.accounts, Prod.mk.injEq] at hk
  obtain ⟨hslots, hindex, hres, hent, htag⟩ := hk
  exact { h.toSlotsIndexed.congr hslots hindex with
    reservation := by rw [hres, PaymentRelay.reserved, hent]; exact h.reservation
    reservations := by rw [hent]; exact h.reservations
    tags := by rw [hent]; exact h.tags
    entries := by rw [hent]; exact h.entries
    tagCounter := by rw [htag]; exact h.tagCounter
    room := by rw [VoucherTable.used, hslots, hres]; exact h.room }

/-- New slots and index as sound as the old, with room for the reservation. -/
theorem withSlots (h : s.Accounted) (ht : t.SlotsIndexed) (hroom : t.vouchers.used + s.vouchers.reservation ≤ 4096)
    (hr : t.vouchers.reservation = s.vouchers.reservation) (hrelay : t.relay = s.relay) : t.Accounted :=
  { ht with
    reservation := by rw [hr, hrelay]; exact h.reservation
    reservations := by rw [hrelay]; exact h.reservations
    tags := by rw [hrelay]; exact h.tags
    entries := by rw [hrelay]; exact h.entries
    tagCounter := by rw [hrelay]; exact h.tagCounter
    room := by rw [hr]; exact hroom }

theorem changeSlot (h : s.Accounted) {f : Slot → Slot} (hf : ∀ x, (f x).voucher = x.voucher) (serial : Nat) :
    (s.changeSlot serial f).Accounted := by
  obtain ⟨hslots, hused⟩ := h.toSlotsIndexed.changeSlot hf serial
  refine h.withSlots hslots (by rw [hused]; exact h.room) ?_ ?_
  all_goals rw [State.changeSlot_frame]

theorem changeSlots (h : s.Accounted) {f : Slot → Slot} (hf : ∀ x, (f x).voucher = x.voucher) (serials : List Nat) :
    (s.eachSlot f serials).Accounted := foldl_keeps (fun _ n ht => ht.changeSlot hf n) serials h

theorem voidBasket (h : s.Accounted) (p : PortNo) : (s.voidBasket p).Accounted := by
  have h1 := h.kept (State.returnSeats_seatStep s (s.basket p).handle.index ((s.basket p).seatLines.map (·.seat))).accounts
  exact (h1.changeSlots Slot.voucher_unclaim (s.basket p).claims).kept rfl

theorem voidUnlessAuthorising (h : s.Accounted) (p : PortNo) : (s.voidUnlessAuthorising p).Accounted := by
  unfold State.voidUnlessAuthorising
  split
  · exact h
  · exact h.voidBasket p

theorem leaveActive (h : s.Accounted) (p : PortNo) (st : PortState) : (s.leaveActive p st).Accounted := by
  have h1 : (s.setPort p ((s.port p).lose st)).Accounted := h.kept rfl
  have h2 := (h1.voidUnlessAuthorising p).kept (State.giveUpWhere_accounts _ fun s i k => (s.seatAt i k).state.heldBy p)
  exact (h2.kept (State.stopJob_accounts _ p)).kept (State.runArbiter_accounts _)

theorem nightfall (h : s.Accounted) : s.nightfall.Accounted := by
  have h1 : (allPorts.foldl (fun s p => s.voidBasket p) s).Accounted := foldl_keeps (fun _ p ht => ht.voidBasket p) _ h
  unfold State.nightfall
  generalize allPorts.foldl _ s = t at h1
  have h2 : t.freeAllHeld.Accounted := h1.kept (State.giveUpWhere_accounts _ fun s i k => (s.seatAt i k).state.isHeld)
  dsimp only
  generalize t.freeAllHeld = u at h2
  exact h2.kept rfl

/-! ## Vouchers issued, voided and reclaimed (R122, R123, R125) -/

/-- R122: a credit takes a slot that is not set aside. -/
theorem issue (h : s.Accounted) (hav : 1 ≤ s.vouchers.available) (kind : VoucherKind) (sale expiry : Nat) :
    (s.issue kind sale expiry).1.Accounted := by
  rw [VoucherTable.available, VoucherTable.freeSlots] at hav
  have hroom : s.vouchers.used < 4096 := by omega
  refine h.withSlots (h.toSlotsIndexed.issue hroom kind sale expiry) ?_ rfl rfl
  rw [h.toSlotsIndexed.issue_used hroom]
  omega

/-- R123. -/
theorem void (h : s.Accounted) {n : Nat} {v : Voucher} (hn : s.slotAt n = .issued v) (day : Nat) :
    (s.setSlot n (.void v day)).Accounted := by
  obtain ⟨hslots, hused⟩ := h.toSlotsIndexed.setSlot (n := n) (x := .void v day) (by rw [hn]; rfl)
  exact h.withSlots hslots (by rw [hused]; exact h.room) rfl rfl

/-- R125. -/
theorem rollDay (h : s.Accounted) (d : Nat) : (s.rollDay d).Accounted := by
  have h1 : State.Accounted { s with control := { s.control with day := d }, vouchers := s.vouchers.reclaim d } := by
    obtain ⟨hslots, hused⟩ := h.toSlotsIndexed.reclaim
      (t := { s with control := { s.control with day := d }, vouchers := s.vouchers.reclaim d }) d rfl rfl
    have hroom := h.room
    exact h.withSlots hslots (by omega) rfl rfl
  exact h1.kept (State.checkLow_accounts _)

/-! ## Entries (R91, R92, R117) -/

/-- The list with an entry taken out, around it. -/
theorem entries_around {tag : Nat} {e : AuthEntry} (he : s.entryTagged tag = some e) :
    ∃ xs ys, s.relay.entries = xs ++ e :: ys ∧ s.relay.entries.eraseP (fun f => decide (f.tag = e.tag)) = xs ++ ys := by
  obtain ⟨htag, xs, ys, heq, hnot⟩ := List.find?_eq_some_iff_append.1 he
  have htag' : e.tag = tag := of_decide_eq_true htag
  refine ⟨xs, ys, heq, ?_⟩
  rw [heq, htag', List.eraseP_append_right _ fun x hx => by simpa using hnot x hx,
    List.eraseP_cons_of_pos (p := fun f : AuthEntry => decide (f.tag = tag)) htag]

/-- R98, R99, R103, R104: an entry leaves the list, its slots given back and no more taken. -/
theorem settle (h : s.Accounted) {e : AuthEntry} (he : s.entryTagged e.tag = some e) (ht : t.SlotsIndexed)
    (hused : t.vouchers.used ≤ s.vouchers.used + e.combos.length)
    (hr : t.vouchers.reservation = s.vouchers.reservation - e.reservation)
    (hent : t.relay.entries = s.relay.entries.eraseP fun f => decide (f.tag = e.tag))
    (htag : t.relay.tagCounter = s.relay.tagCounter) : t.Accounted := by
  obtain ⟨xs, ys, heq, herase⟩ := entries_around he
  have hsub := List.eraseP_sublist (p := fun f : AuthEntry => decide (f.tag = e.tag)) (l := s.relay.entries)
  have hsum : s.relay.reserved = t.relay.reserved + e.reservation := by
    rw [PaymentRelay.reserved, PaymentRelay.reserved, hent, herase, heq]
    simp only [List.map_append, List.map_cons, List.sum_append, List.sum_cons]
    omega
  have hres := h.reservation
  have hroom := h.room
  have hcombos := h.reservations e (List.mem_of_find?_eq_some he)
  exact { ht with
    reservation := by omega
    reservations := fun f hf => h.reservations f (hsub.subset (hent ▸ hf))
    tags := by rw [hent]; exact h.tags.sublist (hsub.map _)
    entries := by rw [hent]; exact hsub.length_le.trans h.entries
    tagCounter := by rw [htag]; exact h.tagCounter
    room := by omega }

/-- R93: an entry joins the list under a free tag, its slots set aside. -/
theorem join (h : s.Accounted) {e : AuthEntry} (hlen : s.relay.entries.length < 24) (hfresh : ∀ f ∈ s.relay.entries, f.tag ≠ e.tag)
    (hcombos : e.reservation = e.combos.length) (hroom : s.vouchers.used + s.vouchers.reservation + e.reservation ≤ 4096)
    (ht : t.SlotsIndexed) (hused : t.vouchers.used = s.vouchers.used)
    (hr : t.vouchers.reservation = s.vouchers.reservation + e.reservation) (hent : t.relay.entries = s.relay.entries ++ [e])
    (htag : 1 ≤ t.relay.tagCounter ∧ t.relay.tagCounter ≤ 65535) : t.Accounted := by
  have hsum : t.relay.reserved = s.relay.reserved + e.reservation := by simp [PaymentRelay.reserved, hent]
  have hres := h.reservation
  exact { ht with
    reservation := by omega
    reservations := fun f hf => by
      rcases List.mem_append.1 (hent ▸ hf) with hf | hf
      · exact h.reservations f hf
      · rw [List.mem_singleton.1 hf]; exact hcombos
    tags := by
      rw [hent, List.map_append]
      refine List.nodup_append'.2 ⟨h.tags, List.nodup_singleton _, ?_⟩
      intro k hk hk'
      obtain ⟨f, hf, rfl⟩ := List.mem_map.1 hk
      exact hfresh f hf (by simpa using hk')
    entries := by rw [hent, List.length_append]; exact hlen
    tagCounter := htag
    room := by omega }

/-- R96, R97: entries that keep their tags, reservations and combo lines. -/
theorem mapEntries (h : s.Accounted) {f : AuthEntry → AuthEntry}
    (hf : ∀ e, (f e).tag = e.tag ∧ (f e).reservation = e.reservation ∧ (f e).combos = e.combos)
    (hent : t.relay.entries = s.relay.entries.map f) (hv : t.vouchers = s.vouchers)
    (htag : t.relay.tagCounter = s.relay.tagCounter) : t.Accounted := by
  have htags : (s.relay.entries.map f).map (·.tag) = s.relay.entries.map (·.tag) := by
    rw [List.map_map]; exact List.map_congr_left fun e _ => (hf e).1
  have hres : (s.relay.entries.map f).map (·.reservation) = s.relay.entries.map (·.reservation) := by
    rw [List.map_map]; exact List.map_congr_left fun e _ => (hf e).2.1
  exact { h.toSlotsIndexed.congr (t := t) (by rw [hv]) (by rw [hv]) with
    reservation := by rw [hv, PaymentRelay.reserved, hent, hres]; exact h.reservation
    reservations := fun e he => by
      obtain ⟨x, hx, rfl⟩ := List.mem_map.1 (hent ▸ he)
      obtain ⟨-, hr, hc⟩ := hf x
      rw [hr, hc]
      exact h.reservations x hx
    tags := by rw [hent, htags]; exact h.tags
    entries := by rw [hent, List.length_map]; exact h.entries
    tagCounter := by rw [htag]; exact h.tagCounter
    room := by rw [hv]; exact h.room }

theorem countAuths (h : s.Accounted) : s.countAuths.Accounted :=
  h.mapEntries (f := fun e => { e with state := e.state.second }) (fun _ => ⟨rfl, rfl, rfl⟩) rfl rfl rfl

theorem timeOut (h : s.Accounted) (e : AuthEntry) : (s.timeOut e).Accounted := by
  have h1 : State.Accounted { s with relay := { s.relay with entries := s.relay.entries.map (AuthEntry.lostIf e.tag) } } :=
    h.mapEntries (fun x => by unfold AuthEntry.lostIf; split <;> exact ⟨rfl, rfl, rfl⟩) rfl rfl rfl
  have h2 := h1.kept (t := State.setBasket
    { s with relay := { s.relay with entries := s.relay.entries.map (AuthEntry.lostIf e.tag) } } e.origin
    (s.basket e.origin).cleared) rfl
  exact ((h2.kept (State.answerKept_accounts _ _ _ _ _)).kept (t := State.withdrawRequest _ e.tag) rfl).kept
    (State.raise_accounts _ _ _)

theorem expireAuths (h : s.Accounted) : s.expireAuths.Accounted := foldl_keeps (fun _ e ht => ht.timeOut e) _ h

theorem tick (h : s.Accounted) : s.tick.Accounted := by
  have h1 : (s.setControl s.control.second).countLeases.Accounted := h.kept rfl
  exact (h1.kept (State.expireLeases_accounts _)).countAuths.expireAuths.kept (State.tickWaits_accounts _)

/-! ## Resets -/

theorem of_reset : State.reset.Accounted := State.reset_relaySound.accounted (by constructor <;> decide)

theorem resetPart (s : State) (cause : ResetCause) : (s.resetPart cause).Accounted := of_reset.kept rfl

theorem restartNow (s : State) : s.restartNow.Accounted := (resetPart s .command).kept (State.start_accounts _)

theorem settleRestart (h : s.Accounted) : s.settleRestart.Accounted := by
  unfold State.settleRestart
  split
  · exact restartNow s
  · exact h

theorem beginStart (h : s.Accounted) : s.beginStart.Accounted := by
  unfold State.beginStart
  split
  · exact h
  · exact h.kept s.start_accounts

end State.Accounted

end Sys2Proof.Machine
end

section
/-! Sales, the ends of an authorisation, kiosk requests and management commands keep the accounts of the Payment Relay and the Voucher
Table, and so every step does (O56). -/

namespace Sys2Proof.Machine

/-! ## What PAY's check 8 leaves room for (R89) -/

/-- R89, check 8: a PAY that passes finds slots for its combo lines beside those set aside. -/
theorem State.slots_of_payRefusal {s : State} {b : Basket} {x : Snapshot} (hc : s.payRefusal b x = none) :
    s.vouchers.reservation + b.combos.length ≤ s.vouchers.freeSlots := by
  by_contra hroom
  unfold State.payRefusal at hc
  rw [if_pos (not_le.1 hroom)] at hc
  repeat' split at hc
  all_goals cases hc

/-! ## What the end of a sale and of a payment writes -/

theorem State.completeSale_relay (s : State) (x : Sale) (code : Bytes) :
    (s.completeSale x code).1.relay = { s.relay with saleCounter := nextSale s.relay.saleNumber } := by
  rw [State.completeSale_frame]

theorem State.completeSale_reservation (s : State) (x : Sale) (code : Bytes) :
    (s.completeSale x code).1.vouchers.reservation = s.vouchers.reservation - x.reservation := by
  rw [State.completeSale_frame]

namespace State.Accounted

variable {s : State}

/-- Seats written and then slots changed, each slot keeping its voucher. -/
theorem releaseSlots (h : s.SlotsIndexed) {i : ShowNo} {ks : List Nat} {u : State} (hu : s.SeatStep u i ks) {f : Slot → Slot}
    (hf : ∀ x, (f x).voucher = x.voucher) (ns : List Nat) :
    (u.eachSlot f ns).SlotsIndexed ∧ (u.eachSlot f ns).vouchers.used = s.vouchers.used
      ∧ (u.eachSlot f ns).vouchers.reservation = s.vouchers.reservation ∧ (u.eachSlot f ns).relay = s.relay := by
  have huv : u.vouchers = s.vouchers := by rw [hu.frame]
  have hur : u.relay = s.relay := by rw [hu.frame]
  obtain ⟨hslots, hused⟩ := (h.congr (t := u) (by rw [huv]) (by rw [huv])).eachSlot hf ns
  refine ⟨hslots, by rw [hused, huv], ?_, ?_⟩
  · rw [State.eachSlot_frame, huv]
  · rw [State.eachSlot_frame, hur]

/-- R100: a sale's entry leaves the list as its sale is complete. -/
theorem completeEntry (h : s.Accounted) {e : AuthEntry} (he : s.entryTagged e.tag = some e) (code : Bytes) :
    ((s.completeSale e.sale code).1.dropEntry e.tag).Accounted := by
  have hmem : e ∈ s.relay.entries := List.mem_of_find?_eq_some he
  have hle : e.reservation ≤ s.relay.reserved := List.single_le_sum (fun _ _ => Nat.zero_le _) _ (List.mem_map.2 ⟨e, hmem, rfl⟩)
  have hcombos := h.reservations e hmem
  have hres := h.reservation
  have hroom := h.room
  obtain ⟨hslots, hused⟩ := h.toSlotsIndexed.completeSale (x := e.sale) (by show s.vouchers.used + e.combos.length ≤ 4096; omega)
    code
  refine h.settle he (hslots.congr rfl rfl) (le_of_eq hused) (State.completeSale_reservation s e.sale code) ?_ ?_
  · show ((s.completeSale e.sale code).1.relay.entries).eraseP _ = _
    rw [State.completeSale_relay]
  · show (s.completeSale e.sale code).1.relay.tagCounter = _
    rw [State.completeSale_relay]

theorem approve (h : s.Accounted) {e : AuthEntry} (he : s.entryTagged e.tag = some e) (code : Bytes) :
    (s.approve e code).Accounted := by
  have h1 := h.completeEntry he code
  unfold State.approve
  dsimp only
  generalize (s.completeSale e.sale code).1.dropEntry e.tag = t at h1
  have h2 : ((t.withdrawRequest e.tag).setBasket e.origin ((t.withdrawRequest e.tag).basket e.origin).cleared).Accounted :=
    h1.kept rfl
  exact ((h2.kept (State.printSale_accounts _ _ _ _)).kept (State.answerKept_accounts _ _ _ _ _)).kept
    (State.runArbiter_accounts _)

theorem approveLate (h : s.Accounted) {e : AuthEntry} (he : s.entryTagged e.tag = some e) (code : Bytes) (source : Nat) :
    (s.approveLate e code source).1.Accounted :=
  ((h.completeEntry he code).kept (State.owe_printStep _ _).accounts).kept (State.raise_accounts _ _ _)

theorem releaseLate (h : s.Accounted) {e : AuthEntry} (he : s.entryTagged e.tag = some e) (source : Nat) :
    (s.releaseLate e source).Accounted := by
  obtain ⟨hslots, hused, hres, hrelay⟩ := releaseSlots h.toSlotsIndexed
    (s.returnSeats_seatStep e.handle.index (e.seatLines.map (·.seat))) Slot.voucher_unclaim e.claims
  unfold State.releaseLate
  dsimp only
  rw [State.returnClaims_eq]
  generalize State.eachSlot _ _ _ = t at hslots hused hres hrelay
  have h1 : ((t.freeReservation e.reservation).dropEntry e.tag).Accounted := by
    refine h.settle he (hslots.congr rfl rfl) ?_ (congrArg (· - e.reservation) hres) ?_ (congrArg (·.tagCounter) hrelay)
    · exact (le_of_eq hused).trans (Nat.le_add_right _ _)
    · exact congrArg (fun r : PaymentRelay => r.entries.eraseP fun f => decide (f.tag = e.tag)) hrelay
  exact (h1.kept (State.raise_accounts _ _ _)).kept (State.checkLow_accounts _)

theorem decline (h : s.Accounted) {e : AuthEntry} (he : s.entryTagged e.tag = some e) (fault : Bool) :
    (s.decline e fault).Accounted := by
  have hu : (((s.dropEntry e.tag).withdrawRequest e.tag).freeReservation e.reservation).Accounted :=
    h.settle he (h.toSlotsIndexed.congr rfl rfl) (Nat.le_add_right _ _) rfl rfl rfl
  refine State.Accounted.kept (State.Accounted.kept ?_ (State.answerKept_accounts _ _ _ _ _)) (State.checkLow_accounts _)
  generalize ((s.dropEntry e.tag).withdrawRequest e.tag).freeReservation e.reservation = u at hu
  split
  · have hseats := hu.kept (foldl_accounts (f := fun s k => s.setSeatState e.handle.index k
      ((s.seatAt e.handle.index k).state.reheld e.origin s.seats.declineGrace)) (fun _ _ => rfl) (e.seatLines.map (·.seat)) u)
    exact (hseats.changeSlots (Slot.voucher_claim (.port e.origin)) e.claims).kept rfl
  · have hseats := hu.kept (u.returnSeats_seatStep e.handle.index (e.seatLines.map (·.seat))).accounts
    exact (hseats.changeSlots Slot.voucher_unclaim e.claims).kept rfl

theorem resolve (h : s.Accounted) {e : AuthEntry} (he : s.entryTagged e.tag = some e) (o : AuthOutcome) (code : Bytes) :
    (s.resolve e o code).Accounted := by
  have hg : s.holdGateway.Accounted := h.kept rfl
  unfold State.resolve
  split
  · exact h.approve he code
  · exact h.decline he false
  · exact hg.decline he true
  · exact h.approveLate he code 1
  · exact h.releaseLate he 1
  · exact hg.releaseLate he 1

theorem authResponse (h : s.Accounted) (payload : Bytes) : (s.authResponse payload).Accounted := by
  unfold State.authResponse
  split
  · exact h
  · split
    · exact h.kept (s.raise_accounts _ _)
    · split
      · exact h.kept (s.raise_accounts _ _)
      · rename_i e he
        exact h.resolve (State.entryTagged_self he) _ _

/-! ## PAY (R88 to R94, R106) -/

theorem zeroTotal (h : s.Accounted) (p : PortNo) (tag : Byte) (x : Snapshot) (hroom : s.vouchers.used
    + s.vouchers.reservation + (s.basket p).combos.length ≤ 4096) : (s.zeroTotal p tag x).Accounted := by
  obtain ⟨hslots, hused⟩ := h.toSlotsIndexed.completeSale (x := (s.basket p).zeroSale p x)
    (by show s.vouchers.used + (s.basket p).combos.length ≤ 4096; omega) []
  have hcombos : ((s.basket p).zeroSale p x).combos.length = (s.basket p).combos.length := rfl
  have hrelay := s.completeSale_relay ((s.basket p).zeroSale p x) []
  have h1 : (s.completeSale ((s.basket p).zeroSale p x) []).1.Accounted :=
    { hslots with
      reservation := by rw [State.completeSale_reservation, hrelay]; exact h.reservation
      reservations := by rw [hrelay]; exact h.reservations
      tags := by rw [hrelay]; exact h.tags
      entries := by rw [hrelay]; exact h.entries
      tagCounter := by rw [hrelay]; exact h.tagCounter
      room := by
        rw [State.completeSale_reservation, hused, hcombos]
        exact (Nat.add_le_add_left (Nat.sub_le _ _) _).trans (by omega) }
  unfold State.zeroTotal
  dsimp only
  generalize (s.completeSale ((s.basket p).zeroSale p x) []).1 = t at h1
  have h2 : (t.setBasket p (t.basket p).cleared).Accounted := h1.kept rfl
  have h3 := h2.kept (State.printSale_accounts _ ((s.basket p).zeroSale p x)
    (s.completeSale ((s.basket p).zeroSale p x) []).2.1 (s.completeSale ((s.basket p).zeroSale p x) []).2.2)
  generalize State.printSale _ _ _ _ = q at h3
  have h4 : (q.1.answer .pay p tag .approved (approvedContent 0 (s.completeSale ((s.basket p).zeroSale p x) []).2.1 x.net []
      q.2 (s.completeSale ((s.basket p).zeroSale p x) []).2.2)).Accounted := h3.kept rfl
  exact (h4.kept (State.runArbiter_accounts _)).kept (State.checkLow_accounts _)

theorem acceptPay (h : s.Accounted) (p : PortNo) (tag : Byte) (token : Bytes) (x : Snapshot)
    (hlen : s.relay.entries.length < 24) (hroom : s.vouchers.used + s.vouchers.reservation + (s.basket p).combos.length ≤ 4096) :
    (s.acceptPay p tag token x).Accounted := by
  unfold State.acceptPay
  dsimp only
  generalize he : s.newEntry p x = e
  have htag : e.tag = s.relay.nextTag := by rw [← he]; rfl
  have hcombos : e.combos = (s.basket p).combos := by rw [← he]; rfl
  have hres : e.reservation = e.combos.length := by rw [← he]; rfl
  rw [State.pendLines_eq]
  have hseats := State.eachSeat_seatStep { s with relay := s.relay.accept e } (s.basket p).handle.index (SeatState.pend e.tag)
    (e.seatLines.map (·.seat))
  generalize State.eachSeat _ _ _ _ = u at hseats
  have huv : u.vouchers = s.vouchers := by rw [hseats.frame]
  have hur : u.relay = s.relay.accept e := by rw [hseats.frame]
  have h1 : State.Accounted { u with vouchers := { u.vouchers with
      reservation := u.vouchers.reservation + e.reservation } } := by
    refine h.join hlen (fun f hf => ?_) hres (by rw [hres, hcombos]; exact hroom)
      (h.toSlotsIndexed.congr (congrArg (·.slots) huv) (congrArg (·.index) huv))
      (by rw [← huv]; rfl) (by show u.vouchers.reservation + e.reservation = _; rw [huv])
      (by show u.relay.entries = _; rw [hur]; rfl) ?_
    · rw [htag]
      exact PaymentRelay.nextTag_fresh (by omega) f hf
    · show 1 ≤ u.relay.tagCounter ∧ u.relay.tagCounter ≤ 65535
      rw [hur]
      exact wrapNext_range (M := 65535) (by decide) e.tag
  have h2 := h1.changeSlots (Slot.voucher_claim (.tag e.tag)) e.claims
  exact State.Accounted.kept (State.Accounted.kept h2 rfl) (State.checkLow_accounts _)

theorem payRefused (h : s.Accounted) (p : PortNo) (r : Result) : (s.payRefused p r).Accounted := by
  unfold State.payRefused
  split
  · exact h.kept rfl
  · exact h

theorem pay (h : s.Accounted) (p : PortNo) (tag : Byte) (token : Bytes) : (s.pay p tag token).Accounted := by
  have hroom := h.room
  unfold State.pay
  split
  · exact h.kept rfl
  · split
    · rename_i x _ hx
      split
      · exact (h.payRefused p _).kept rfl
      · rename_i hc
        have hslots := State.slots_of_payRefusal hc
        rw [VoucherTable.freeSlots] at hslots
        split
        · exact h.zeroTotal p tag x (by omega)
        · rename_i hnet
          exact h.acceptPay p tag token x (State.room_of_payRefusal hc hnet) (by omega)
    · exact h.kept rfl

end State.Accounted

end Sys2Proof.Machine
end

section
/-! Every command keeps the accounts of the Payment Relay and the Voucher Table (O56): the commands that leave them, those that change
slots or entries, and the dispatch. -/

namespace Sys2Proof.Machine

/-! ## Management commands that leave the accounts -/

/-- The commands that may change a voucher slot, the Serial Index or the Authorisation List. -/
def Command.accounting : Command → Bool
  | .reconcile | .issueCredit | .voidVoucher | .disablePort | .night | .dayRoll => true
  | _ => false

theorem noArgs_accounts {body : State → Answer} {s : State} (hb : (body s).1.accounts = s.accounts) (args : Bytes) :
    (noArgs args body s).1.accounts = s.accounts := by
  unfold noArgs
  split
  · exact hb
  · rfl

theorem withShow_accounts {h : Handle} {legal : List ShowState} {body : State → Answer} {s : State}
    (hb : (body s).1.accounts = s.accounts) : (withShow h legal body s).1.accounts = s.accounts :=
  withShow_fst_of_body (P := fun t => t.accounts = s.accounts) rfl fun _ => hb

theorem latched_accounts {ok : Bool} {body : State → Answer} (hb : ∀ t : State, (body t).1.accounts = t.accounts)
    (s : State) : (latched ok body s).1.accounts = s.accounts := by
  unfold latched
  dsimp only
  repeat' split
  any_goals rfl
  exact hb _

theorem State.stage_accounts (s : State) (ok : List Bool) (t : PriceTables) (echo : Bytes) :
    (s.stage ok t echo).1.accounts = s.accounts := by
  unfold State.stage
  split <;> rfl

theorem loadSeats_accounts (args : Bytes) (s : State) : (loadSeats args s).1.accounts = s.accounts := by
  unfold loadSeats
  split
  · rfl
  · refine withShow_accounts ?_
    repeat' split
    any_goals rfl
    exact s.writeSeats_accounts _ _ _

theorem openShow_accounts (args : Bytes) (s : State) : (openShow args s).1.accounts = s.accounts := by
  unfold openShow
  split
  · rfl
  · exact withShow_accounts rfl

theorem closeShow_accounts (args : Bytes) (s : State) : (closeShow args s).1.accounts = s.accounts := by
  unfold closeShow
  split
  · rfl
  · exact withShow_accounts rfl

theorem removeShow_accounts (args : Bytes) (s : State) : (removeShow args s).1.accounts = s.accounts := by
  unfold removeShow
  split
  · rfl
  · refine withShow_accounts ?_
    dsimp only
    split <;> rfl

theorem setSeatCommand_accounts (args : Bytes) (s : State) : (setSeatCommand args s).1.accounts = s.accounts := by
  unfold setSeatCommand
  split
  · rfl
  · refine withShow_accounts ?_
    repeat' split
    all_goals rfl

theorem markSold_accounts (args : Bytes) (s : State) : (markSold args s).1.accounts = s.accounts := by
  unfold markSold
  split
  · rfl
  · refine withShow_accounts ?_
    dsimp only
    repeat' split
    any_goals rfl
    exact foldl_accounts (f := fun s k => s.setSeatState _ k _) (fun _ _ => rfl) _ s

theorem releaseBlock_accounts (args : Bytes) (s : State) : (releaseBlock args s).1.accounts = s.accounts := by
  unfold releaseBlock
  split
  · rfl
  · refine withShow_accounts ?_
    dsimp only
    split
    · rfl
    · exact foldl_accounts (fun t k => t.loseHeld_accounts _ k) _ s

theorem redirectJob_accounts (args : Bytes) (s : State) : (redirectJob args s).1.accounts = s.accounts := by
  unfold redirectJob
  repeat' split
  any_goals rfl
  exact State.runArbiter_accounts _

theorem cancelJob_accounts (args : Bytes) (s : State) : (cancelJob args s).1.accounts = s.accounts := by
  unfold cancelJob
  repeat' split
  any_goals rfl
  exact (State.owe_printStep _ _).accounts

theorem proofTemplate_accounts (args : Bytes) (s : State) : (proofTemplate args s).1.accounts = s.accounts := by
  unfold proofTemplate
  repeat' split
  any_goals rfl
  exact State.runArbiter_accounts _

theorem eraseSector_accounts (args : Bytes) (s : State) : (eraseSector args s).1.accounts = s.accounts := by
  unfold eraseSector
  split
  · rfl
  · split
    · exact latched_accounts (fun _ => rfl) s
    · refine latched_accounts (fun t => ?_) s
      unfold eraseSectorBody
      repeat' split
      all_goals rfl

theorem eraseAll_accounts (args : Bytes) (s : State) : (eraseAll args s).1.accounts = s.accounts := by
  refine noArgs_accounts (latched_accounts (fun t => ?_) s) args
  unfold eraseAllBody
  repeat' split
  all_goals rfl

theorem programPage_accounts (args : Bytes) (s : State) : (programPage args s).1.accounts = s.accounts := by
  unfold programPage
  split
  · rfl
  · split
    · refine latched_accounts (fun t => ?_) s
      unfold programPageBody
      repeat' split
      all_goals rfl
    · exact latched_accounts (fun _ => rfl) s

theorem setProtect_accounts (args : Bytes) (s : State) : (setProtect args s).1.accounts = s.accounts := by
  unfold setProtect
  split
  · rfl
  · split
    · refine latched_accounts (fun t => ?_) s
      unfold setProtectBody
      split <;> rfl
    · exact latched_accounts (fun _ => rfl) s

theorem siteProgram_accounts (args : Bytes) (s : State) : (siteProgram args s).1.accounts = s.accounts := by
  unfold siteProgram
  split
  · rfl
  · refine latched_accounts (fun t => ?_) s
    unfold siteProgramBody
    split <;> rfl

theorem siteLock_accounts (args : Bytes) (s : State) : (siteLock args s).1.accounts = s.accounts := by
  refine noArgs_accounts (latched_accounts (fun t => ?_) s) args
  unfold siteLockBody
  repeat' split
  all_goals rfl

theorem setLatch_accounts (v : Bool) (args : Bytes) (s : State) : (setLatch v args s).1.accounts = s.accounts := by
  refine noArgs_accounts ?_ args
  split <;> rfl

theorem enablePort_accounts (args : Bytes) (s : State) : (enablePort args s).1.accounts = s.accounts := by
  unfold enablePort
  repeat' split
  any_goals rfl
  exact s.activate_accounts _ _

theorem restorePort_accounts (args : Bytes) (s : State) : (restorePort args s).1.accounts = s.accounts := by
  unfold restorePort
  split
  · rfl
  · split
    · rfl
    · exact s.activate_accounts _ _

/-- A command of another block leaves the accounts, whatever it carries. -/
theorem Command.body_accounts {c : Command} (h : c.accounting = false) (args : Bytes) (s : State) :
    (c.body args s).1.accounts = s.accounts := by
  cases c
  case loadSeats => exact loadSeats_accounts args s
  case openShow => exact openShow_accounts args s
  case closeShow => exact closeShow_accounts args s
  case removeShow => exact removeShow_accounts args s
  case setSeat => exact setSeatCommand_accounts args s
  case markSold => exact markSold_accounts args s
  case releaseBlock => exact releaseBlock_accounts args s
  case defineShow =>
    simp only [Command.body, Machine.defineShow]
    repeat' split
    all_goals rfl
  case stageBand => simp only [Command.body, Machine.stageBand]; split; exacts [rfl, s.stage_accounts _ _ _]
  case stageTicketType => simp only [Command.body, Machine.stageTicketType]; split; exacts [rfl, s.stage_accounts _ _ _]
  case stageCombo => simp only [Command.body, Machine.stageCombo]; split; exacts [rfl, s.stage_accounts _ _ _]
  case stageTax => simp only [Command.body, Machine.stageTax]; split; exacts [rfl, s.stage_accounts _ _ _]
  case stageCeiling => simp only [Command.body, Machine.stageCeiling]; split; exacts [rfl, s.stage_accounts _ _ _]
  case reloadStaged | commitPrices | clearGatewayHold | restart => exact noArgs_accounts rfl args
  case setLeaseTimes => simp only [Command.body, Machine.setLeaseTimes]; split <;> rfl
  case setAuthTimeout => simp only [Command.body, Machine.setAuthTimeout]; split <;> rfl
  case setPrintWaits => simp only [Command.body, Machine.setPrintWaits]; split <;> rfl
  case setNoticeEnables => simp only [Command.body, Machine.setNoticeEnables]; split <;> rfl
  case redirectJob => exact redirectJob_accounts args s
  case cancelJob => exact cancelJob_accounts args s
  case proofTemplate => exact proofTemplate_accounts args s
  case dropOwed | configurePort | clearErrorCode | setClock | loadCounters =>
    simp only [Command.body, Machine.dropOwed, Machine.configurePort, Machine.clearErrorCode, Machine.setClock,
      Machine.loadCounters]
    repeat' split
    all_goals rfl
  case writeEnable => exact setLatch_accounts true args s
  case writeDisable => exact setLatch_accounts false args s
  case eraseSector => exact eraseSector_accounts args s
  case eraseAll => exact eraseAll_accounts args s
  case programPage => exact programPage_accounts args s
  case setProtect => exact setProtect_accounts args s
  case siteProgram => exact siteProgram_accounts args s
  case siteLock => exact siteLock_accounts args s
  case enablePort => exact enablePort_accounts args s
  case restorePort => exact restorePort_accounts args s
  case openFoyer | closeFoyer | wake =>
    refine noArgs_accounts ?_ args
    repeat' split
    all_goals rfl
  case reconcile | issueCredit | voidVoucher | disablePort | night | dayRoll => cases h
  all_goals rw [Command.body_fst_of_reports rfl]

/-! ## Kiosk requests that leave the accounts -/

theorem hold_accounts (p : PortNo) (payload : Bytes) (s : State) : (hold p payload s).1.accounts = s.accounts := by
  unfold hold
  dsimp only
  repeat' split
  any_goals rfl
  exact s.takeSeats_accounts p _ _

theorem release_accounts (p : PortNo) (payload : Bytes) (s : State) : (release p payload s).1.accounts = s.accounts := by
  unfold release
  dsimp only
  repeat' split
  any_goals rfl
  exact (s.returnSeats_seatStep _ _).accounts

theorem setTypeBody_accounts (p : PortNo) (a : Nat × Fin 8) (s : State) : (setTypeBody p a s).1.accounts = s.accounts := by
  unfold setTypeBody
  dsimp only
  repeat' split
  all_goals rfl

theorem addComboBody_accounts (p : PortNo) (c : Fin 32) (s : State) : (addComboBody p c s).1.accounts = s.accounts := by
  unfold addComboBody
  dsimp only
  repeat' split
  all_goals rfl

theorem removeComboBody_accounts (p : PortNo) (n : Nat) (s : State) : (removeComboBody p n s).1.accounts = s.accounts := by
  unfold removeComboBody
  dsimp only
  split <;> rfl

theorem price_accounts (p : PortNo) (payload : Bytes) (s : State) : (price p payload s).1.accounts = s.accounts := by
  unfold price
  dsimp only
  repeat' split
  all_goals rfl

theorem reprint_accounts (p : PortNo) (payload : Bytes) (s : State) : (reprint p payload s).1.accounts = s.accounts := by
  unfold reprint
  repeat' split
  any_goals rfl
  exact State.runArbiter_accounts _

namespace State.Accounted

variable {s : State}

/-! ## Requests that change vouchers -/

theorem applyCreditBody (h : s.Accounted) (p : PortNo) (n : Nat) : (applyCreditBody p n s).1.Accounted := by
  unfold Machine.applyCreditBody
  dsimp only
  repeat' split
  any_goals exact h
  exact (h.changeSlot (Slot.voucher_claim (.port p)) n).kept rfl

theorem removeCreditBody (h : s.Accounted) (p : PortNo) (n : Nat) : (removeCreditBody p n s).1.Accounted := by
  unfold Machine.removeCreditBody
  dsimp only
  split
  · exact h
  · exact (h.changeSlot Slot.voucher_unclaim n).kept rfl

theorem redeem (h : s.Accounted) (p : PortNo) (payload : Bytes) : (redeem p payload s).1.Accounted := by
  unfold Machine.redeem
  repeat' split
  any_goals exact h
  exact h.changeSlot (Slot.voucher_redeem p s.control.day s.control.seconds) _

theorem undoReleaseSeats (h : s.Accounted) (p : PortNo) (hd : Handle) (ls : List SeatLine) :
    (s.undoReleaseSeats p hd ls).1.Accounted := by
  induction ls generalizing s with
  | nil => exact h
  | cons l ls ih =>
    refine ih ?_
    split
    · exact (h.kept (s.takeSeats_accounts p hd.index [l.seat])).kept rfl
    · exact h

theorem reverse (h : s.Accounted) (p : PortNo) (e : UndoEntry) : (s.reverse p e).1.Accounted := by
  cases e with
  | hold hd seats => exact (h.kept (s.returnSeats_seatStep hd.index _).accounts).kept rfl
  | release hd lines =>
    unfold State.reverse State.undoRelease
    dsimp only
    split
    · exact h
    · exact h.undoReleaseSeats p hd lines
  | setType k t =>
    unfold State.reverse State.undoSetType
    dsimp only
    split
    · exact h.kept rfl
    · exact h
  | addCombo n =>
    unfold State.reverse State.undoAddCombo
    dsimp only
    split
    · exact h.kept rfl
    · exact h
  | removeCombo c n =>
    unfold State.reverse State.undoRemoveCombo
    dsimp only
    repeat' split
    any_goals exact h
    exact h.kept rfl
  | applyCredit n =>
    unfold State.reverse State.undoApplyCredit
    dsimp only
    split
    · exact (h.changeSlot Slot.voucher_unclaim n).kept rfl
    · exact h
  | removeCredit n =>
    unfold State.reverse State.undoRemoveCredit
    dsimp only
    repeat' split
    any_goals exact h
    exact (h.changeSlot (Slot.voucher_claim (.port p)) n).kept rfl

theorem undoBody (h : s.Accounted) (p : PortNo) (u : Unit) : (undoBody p u s).1.Accounted := by
  unfold Machine.undoBody
  split
  · exact h
  · rename_i e rest _
    have h1 : (s.setBasket p { s.basket p with undo := rest }).Accounted := h.kept rfl
    exact (h1.reverse p e).kept rfl

/-! ## Management commands that change vouchers or entries -/

theorem noArgs (h : s.Accounted) {body : State → Answer} (hb : (body s).1.Accounted) (args : Bytes) :
    (noArgs args body s).1.Accounted := by
  unfold Machine.noArgs
  split
  · exact hb
  · exact h

theorem reconcile (h : s.Accounted) (args : Bytes) : (reconcile args s).1.Accounted := by
  unfold Machine.reconcile
  split
  · exact h
  · split
    · exact h
    · rename_i e he
      split
      · exact h
      · split
        · exact h.approveLate (State.entryTagged_self he) _ _
        · exact h.releaseLate (State.entryTagged_self he) _

theorem issueCredit (h : s.Accounted) (args : Bytes) : (issueCredit args s).1.Accounted := by
  unfold Machine.issueCredit
  split
  · exact h
  · split
    · exact h
    · split
      · exact h
      · split
        · exact h
        · rename_i v d _ _ _ hav
          exact (h.issue (not_lt.1 hav) (.credit v) 0 d).kept (State.checkLow_accounts _)

theorem voidVoucher (h : s.Accounted) (args : Bytes) : (voidVoucher args s).1.Accounted := by
  unfold Machine.voidVoucher
  split
  · exact h
  · split
    · exact h
    · exact h
    · rename_i serial _ _ n v hslot
      obtain ⟨-, hn⟩ := State.slotOf_eq_some.1 hslot
      exact h.void hn s.control.day
    · exact h

theorem disablePort (h : s.Accounted) (args : Bytes) : (disablePort args s).1.Accounted := by
  unfold Machine.disablePort State.disable
  split
  · exact h
  · dsimp only
    split
    · exact h.voidUnlessAuthorising _
    · exact h.leaveActive _ _
    · exact h.kept rfl

theorem night (h : s.Accounted) (args : Bytes) : (night args s).1.Accounted := by
  refine h.noArgs ?_ args
  split
  · exact h
  · split
    · exact h
    · have h1 := h.nightfall
      generalize s.nightfall = t at h1
      exact h1.kept rfl

theorem dayRoll (h : s.Accounted) (args : Bytes) : (dayRoll args s).1.Accounted := by
  unfold Machine.dayRoll
  repeat' split
  any_goals exact h
  exact h.rollDay _

theorem body (h : s.Accounted) (c : Command) (args : Bytes) : (c.body args s).1.Accounted := by
  cases hc : c.accounting with
  | false => exact h.kept (Command.body_accounts hc args s)
  | true =>
    cases c
    case reconcile => exact h.reconcile args
    case issueCredit => exact h.issueCredit args
    case voidVoucher => exact h.voidVoucher args
    case disablePort => exact h.disablePort args
    case night => exact h.night args
    case dayRoll => exact h.dayRoll args
    all_goals exact absurd hc Bool.false_ne_true

theorem manage (h : s.Accounted) (c : Command) (tag : Byte) (args : Bytes) : (s.manage c tag (c.body args)).Accounted := by
  unfold State.manage
  split
  · exact h
  · exact settleRestart ((h.body c args).kept rfl)

/-! ## Kiosk frames -/

theorem takeRequest (h : s.Accounted) (p : PortNo) {owner : State → State}
    (ho : ∀ t : State, t.Accounted → (owner t).Accounted) : (s.takeRequest p owner).Accounted := by
  unfold State.takeRequest
  repeat' split
  any_goals exact h
  exact ho _ (h.kept rfl)

theorem request (h : s.Accounted) (c : KioskClass) (p : PortNo) (tag : Byte) {body : State → Answer}
    (hb : ∀ t : State, t.Accounted → (body t).1.Accounted) : (s.request c p tag body).Accounted :=
  h.takeRequest p fun t ht => (hb t ht).kept rfl

theorem basketRequest {α : Type} {p : PortNo} {served : Bool} {arg : Option α} {body : α → State → Answer}
    (hb : ∀ (a : α) (t : State), t.Accounted → (body a t).1.Accounted) (t : State) (h : t.Accounted) :
    (basketRequest p served arg body t).1.Accounted := by
  unfold Machine.basketRequest
  repeat' split
  any_goals exact h
  exact hb _ _ h

theorem runClass (h : s.Accounted) (c : KioskClass) (p : PortNo) (tag : Byte) (payload : Bytes) :
    Reaches (runClass c p tag payload s) State.Accounted := by
  cases c
  case seatQuery => exact ⟨_, rfl, h.request .seatQuery p tag fun t ht => by rw [seatQuery_fst]; exact ht⟩
  case hold => exact ⟨_, rfl, h.request .hold p tag fun t ht => ht.kept (hold_accounts p payload t)⟩
  case release => exact ⟨_, rfl, h.request .release p tag fun t ht => ht.kept (release_accounts p payload t)⟩
  case setType =>
    exact ⟨_, rfl, h.request .setType p tag (basketRequest fun a t ht => ht.kept (setTypeBody_accounts p a t))⟩
  case addCombo =>
    exact ⟨_, rfl, h.request .addCombo p tag (basketRequest fun a t ht => ht.kept (addComboBody_accounts p a t))⟩
  case removeCombo =>
    exact ⟨_, rfl, h.request .removeCombo p tag (basketRequest fun a t ht => ht.kept (removeComboBody_accounts p a t))⟩
  case applyCredit => exact ⟨_, rfl, h.request .applyCredit p tag (basketRequest fun a _ ht => ht.applyCreditBody p a)⟩
  case removeCredit => exact ⟨_, rfl, h.request .removeCredit p tag (basketRequest fun a _ ht => ht.removeCreditBody p a)⟩
  case undo => exact ⟨_, rfl, h.request .undo p tag (basketRequest fun a _ ht => ht.undoBody p a)⟩
  case cancel => exact ⟨_, rfl, h.request .cancel p tag (basketRequest fun _ _ ht => ht.voidBasket p)⟩
  case price => exact ⟨_, rfl, h.request .price p tag fun t ht => ht.kept (price_accounts p payload t)⟩
  case pay => exact ⟨_, rfl, h.takeRequest p fun _ ht => ht.pay p tag payload⟩
  case redeem => exact ⟨_, rfl, h.request .redeem p tag fun _ ht => ht.redeem p payload⟩
  case reprint => exact ⟨_, rfl, h.request .reprint p tag fun t ht => ht.kept (reprint_accounts p payload t)⟩
  case printerStatus =>
    refine ⟨_, rfl, ?_⟩
    split
    · exact h
    · exact h.kept (State.printerStatus_accounts _ p payload)
  case pass =>
    refine ⟨_, rfl, ?_⟩
    split
    · exact h
    · exact h.kept (State.passUp_accounts _ p tag payload)

theorem runFailed (h : s.Accounted) (p : PortNo) (e : FramingError) : (s.runFailed p e).Accounted := by
  have h1 : (s.setPort p { s.port p with errorCount := min 255 ((s.port p).errorCount + 8), lastError := e }).Accounted :=
    h.kept rfl
  unfold State.runFailed
  dsimp only
  generalize s.setPort p _ = t at h1
  have h2 : ∀ c : Prop, [Decidable c] → ∀ content, (if c then t.raise .portWarn content else t).Accounted := by
    intro c _ content
    split
    · exact h1.kept (State.raise_accounts _ _ _)
    · exact h1
  split
  · exact ((h2 _ _).kept (State.raise_accounts _ _ _)).leaveActive _ _
  · exact h2 _ _

/-! ## Links, time, the store and resets -/

theorem uplinkFrameEnd (h : s.Accounted) : s.uplinkFrameEnd.Accounted := by
  unfold State.uplinkFrameEnd State.replySent
  dsimp only
  repeat' split
  any_goals exact restartNow _
  any_goals exact h
  all_goals exact h.kept rfl

/-- An event acts on a running part, or leaves the state. -/
theorem next_ite {t : State} (h : s.Accounted) (c : Bool) (ht : t.Accounted) :
    Reaches (.next (if c then t else s)) State.Accounted := by
  refine ⟨_, rfl, ?_⟩
  split
  · exact ht
  · exact h

/-- Every event keeps the accounts. -/
theorem event (h : s.Accounted) (c : Instr) (hc : isEvent c = true) : Reaches (exec c s) State.Accounted := by
  cases c
  case kioskFrameStart p => exact h.next_ite _ (h.kept rfl)
  case kioskFrameEnd p => exact ⟨_, rfl, h.kept (s.kioskFrameEnd_accounts p)⟩
  case uplinkFrameStart => exact h.next_ite _ (h.kept s.uplinkStart_accounts)
  case uplinkFrameEnd => exact ⟨_, rfl, h.uplinkFrameEnd⟩
  case uplinkLinkDown => exact ⟨_, rfl, settleRestart (h.kept rfl)⟩
  case uplinkLinkUp => exact h.next_ite _ (h.kept rfl)
  case tick => exact h.next_ite _ h.tick
  case leaseExpiry => exact h.next_ite _ (h.kept s.expireLeases_accounts)
  case authTimeout => exact h.next_ite _ h.expireAuths
  case printerWaitExpiry c =>
    exact h.next_ite _ (h.kept ((s.expirePrinterWait_printStep c).trans (State.runArbiter_printStep _)).accounts)
  case paperWaitExpiry c =>
    exact h.next_ite _ (h.kept ((s.expirePaperWait_printStep c).trans (State.runArbiter_printStep _)).accounts)
  case storeOperationCompletion => exact h.next_ite _ (h.kept s.completeStore_accounts)
  case powerOn => exact ⟨_, rfl, resetPart s .power⟩
  case resetInputAsserted =>
    refine ⟨_, rfl, ?_⟩
    split
    · exact h
    · exact (resetPart s .line).kept rfl
  case resetInputReleased =>
    refine ⟨_, rfl, ?_⟩
    split
    · exact beginStart (h.kept rfl)
    · exact h
  case startUp => exact ⟨_, rfl, h.beginStart⟩
  case keyInputChange active => exact ⟨_, rfl, h.kept rfl⟩
  case lineIdle p => exact h.next_ite _ (h.kept rfl)
  all_goals exact absurd hc Bool.false_ne_true

end State.Accounted

/-! ## Every step -/

theorem accounted_keeps : Keeps State.Accounted where
  queue := fun _ _ h => h.kept rfl
  request := fun c p tag payload _ h => h.runClass c p tag payload
  command := fun c tag args _ h => h.manage c tag args
  unknownCode := fun tag code s h => by
    unfold State.unknownCode
    split
    · exact h
    · exact h.kept rfl
  emptyCommand := fun tag s h => by
    unfold State.emptyCommand
    split
    · exact h
    · exact h.kept rfl
  runFailed := fun p e _ h => h.runFailed p e
  authResponse := fun payload _ h => h.authResponse payload
  uplinkPass := fun port tag payload s h => h.kept (s.uplinkPass_accounts port tag payload)
  event := fun c _ hc h => h.event c hc

/-- Settles O56: with the canonical form of the two stores the invariant is one of the accounts, which most commands leave as they
stand; an entry joins under a free tag with its slots set aside and leaves with them given back, and vouchers are issued, voided
and reclaimed with their pairs. -/
theorem relayAndVouchersStaySound : Obligations.RelayAndVouchersStaySound := by
  unfold Obligations.RelayAndVouchersStaySound
  intro s t hc h hs
  exact (accounted_keeps.step (h.accounted hc) hs).relaySound

end Sys2Proof.Machine
end

section
/-! The completion of a sale (O27): the slots, serials and counters it leaves. -/

namespace Sys2Proof.Machine

/-! ## The credits redeemed -/

theorem State.completeSale_indexed (s : State) (x : Sale) (code : Bytes) (k : Nat) :
    (s.completeSale x code).1.indexed k = (s.saleReserve x).indexed k := by
  have hvouchers : (s.completeSale x code).1.vouchers = ((s.saleReserve x).redeemCredits x.origin x.claims).vouchers :=
    State.raise_vouchers _ _ _
  rw [State.indexed, hvouchers, State.redeemCredits_eq]
  exact State.indexed_eachSlot _ _ _ _

theorem State.completeSale_counter (s : State) (x : Sale) (code : Bytes) :
    (s.completeSale x code).1.vouchers.serialCounter = (s.saleReserve x).vouchers.serialCounter := by
  rw [State.completeSale_eq, State.raise_vouchers, State.redeemCredits_eq, State.eachSlot_frame]

/-- R100, step 4: a slot that a credit of the sale names is REDEEMED; every other is as the issue left it. -/
theorem State.completeSale_slotAt (s : State) (x : Sale) (code : Bytes) (m : Nat) :
    (s.completeSale x code).1.slotAt m = if ∃ k ∈ x.claims, (s.saleReserve x).indexed k = some m
      then ((s.saleReserve x).slotAt m).redeem x.origin s.control.day s.control.seconds else (s.saleReserve x).slotAt m := by
  have hvouchers : (s.completeSale x code).1.vouchers = ((s.saleReserve x).redeemCredits x.origin x.claims).vouchers :=
    State.raise_vouchers _ _ _
  have hcontrol : (s.saleReserve x).control = s.control := by rw [State.saleReserve_frame, State.saleSeats_frame]
  rw [State.slotAt, hvouchers, State.redeemCredits_eq, hcontrol]
  exact State.slotAt_eachSlot _ (Slot.redeem_redeem x.origin s.control.day s.control.seconds) _ _

section

variable {s : State} {x : Sale} {code : Bytes} {n : Nat} {expiry : Nat}
  (h : s.SnacksIssued n expiry x.combos (s.saleReserve x) (s.saleSnacks x).2)
include h

/-- A new voucher that is no credit of the sale stays as it was issued. -/
theorem State.SnacksIssued.slotOf_new {serial m : Nat} {c : Fin 32} (hpair : (s.saleReserve x).indexed serial = some m)
    (hslot : (s.saleReserve x).slotAt m = .issued { serial := serial, kind := .snack c, issuingSale := n, expiryDay := expiry })
    (hclaims : serial ∉ x.claims) : (s.completeSale x code).1.slotOf serial = some (m,
      .issued { serial := serial, kind := .snack c, issuingSale := n, expiryDay := expiry }) := by
  refine State.slotOf_eq_some.2 ⟨by rw [State.completeSale_indexed, hpair], ?_⟩
  rw [State.completeSale_slotAt, if_neg, hslot]
  rintro ⟨k, hk, hkm⟩
  exact hclaims (h.indexed.serial_unique hkm hpair ▸ hk)

/-- A CLAIMED credit of the sale is REDEEMED. -/
theorem State.SnacksIssued.slotOf_credit {k m : Nat} {v : Voucher} {o : ClaimOwner} (hk : k ∈ x.claims)
    (hslot : s.slotOf k = some (m, .claimed v o)) : (s.completeSale x code).1.slotOf k = some (m,
      .redeemed v x.origin s.control.day s.control.seconds) := by
  obtain ⟨hpair, hclaimed⟩ := State.slotOf_eq_some.1 hslot
  have hold : k ∉ (s.saleSnacks x).2 := fun hnew => by
    rw [h.fresh hnew] at hpair
    cases hpair
  have hpair' : (s.saleReserve x).indexed k = some m := by rw [h.pairs k hold, hpair]
  have hkept : (s.saleReserve x).slotAt m = .claimed v o := by
    rw [h.others, hclaimed]
    intro k' hnew hkm
    exact hold (h.indexed.serial_unique hpair' hkm ▸ hnew)
  refine State.slotOf_eq_some.2 ⟨by rw [State.completeSale_indexed, hpair'], ?_⟩
  rw [State.completeSale_slotAt, if_pos ⟨k, hk, hpair'⟩, hkept]
  rfl

/-- Every slot neither taken nor redeemed stays. -/
theorem State.SnacksIssued.slotAt_rest {m : Nat}
    (hm : ∀ k ∈ (s.saleSnacks x).2 ++ x.claims, (s.completeSale x code).1.indexed k ≠ some m) :
    (s.completeSale x code).1.slotAt m = s.slotAt m := by
  simp only [State.completeSale_indexed, List.mem_append] at hm
  rw [State.completeSale_slotAt, if_neg, h.others m fun k hk => hm k (.inl hk)]
  rintro ⟨k, hk, hkm⟩
  exact hm k (.inr hk) hkm

end

/-- Settles O27: the seats are sold by one fold, the vouchers are issued one by one on slots and serials still free, and the
credits are redeemed on what that leaves. -/
theorem completionOfASale : Obligations.CompletionOfASale := by
  unfold Obligations.CompletionOfASale
  intro s x code hcanonical hsound hroom n t serials after
  have hslots := hsound.slotsIndexed hcanonical
  have hissued := hslots.saleSnacks hroom
  have hindexed : ∀ k, t.indexed k = (s.saleReserve x).indexed k := s.completeSale_indexed x code
  refine ⟨rfl, s.completeSale_relay x code, s.completeSale_seatsSold x code, s.completeSale_length x code, ?_, hissued.nodup, ?_,
    ?_, fun k hk m v o hslot => hissued.slotOf_credit hk hslot, fun k hk => ?_, fun m hm => hissued.slotAt_rest hm,
    s.completeSale_reservation x code, ?_, ?_⟩
  · intro j c serial hc hserial
    obtain ⟨hnone, m, hm, hfree, hbelow, hpair, hslot⟩ := hissued.issued j c serial hc hserial
    exact ⟨hnone, m, hm, hfree, hbelow, by rw [hindexed, hpair], hissued.slotOf_new hpair hslot⟩
  · intro hcounter j serial hserial
    have hdrawn := hissued.drawn hcounter j serial hserial
    cases j with
    | zero => exact hdrawn
    | succ j => exact hdrawn
  · exact (s.completeSale_counter x code).trans hissued.counter
  · rw [hindexed, hissued.pairs k hk]
  · have hcontrol := s.completeSale_control x code
    rw [State.completeSale_length] at hcontrol
    exact hcontrol
  · conv_lhs => rw [show t = (s.completeSale x code).1 from rfl, State.completeSale_frame]
    rw [show t = (s.completeSale x code).1 from rfl]
    conv_rhs => rw [State.completeSale_frame]

end Sys2Proof.Machine
end

section
/-! PAY on the bytes that carry it: the checks in their order (O26), each read on the state the request finds. -/

namespace Sys2Proof.Machine

section

variable {s : State} {p : PortNo}

/-! ## The checks on a good frame (R88, R89) -/

/-- The Error Count that a good frame lowers has no part in R88's checks. -/
theorem State.payFormCheck_goodFrame (s : State) (p : PortNo) (token : Bytes) :
    (s.goodFrame p).payFormCheck p token = s.payFormCheck p token := by
  unfold State.payFormCheck State.sellerCheck
  rw [State.role_goodFrame]
  rfl

theorem State.payFormCheck_none {token : Bytes} (hopen : s.control.foyer = .opened) (hrole : (s.port p).role ≠ .counter)
    (htoken : 1 ≤ token.length ∧ token.length ≤ 64) (hstate : (s.basket p).state ≠ .authorising) :
    s.payFormCheck p token = none := by
  have hlen : ¬ (token.length = 0 ∨ 64 < token.length) := by omega
  rw [State.payFormCheck, State.sellerCheck_none (by rw [hopen]; decide) hrole]
  dsimp only
  rw [if_neg hlen, if_neg (by rw [hopen]; decide), if_neg hstate]

/-- R90: what a refusal changes is the basket. -/
theorem State.payRefused_goodFrame (s : State) (p : PortNo) (r : Result) :
    (s.goodFrame p).payRefused p r = (s.payRefused p r).goodFrame p := by
  unfold State.payRefused
  split <;> rfl

/-! ## The checks of R89 in their order -/

section

variable {b : Basket} {x : Snapshot} (hgen : x.generation = s.prices.generation)
include hgen

theorem State.payRefusal_showClosed (hshow : (s.showAt b.handle.index).state ≠ .onSale) :
    s.payRefusal b x = some .showClosed := by
  simp [State.payRefusal, hgen, hshow]

variable (hcur : s.current b.handle = true) (hshow : (s.showAt b.handle.index).state = .onSale)
include hcur hshow

theorem State.payRefusal_overLimit (hover : x.overLimit = true) : s.payRefusal b x = some .overLimit := by
  simp [State.payRefusal, hgen, hcur, hshow, hover]

variable (hover : x.overLimit = false)
include hover

theorem State.payRefusal_gatewayHeld (hnet : 0 < x.net) (hhold : s.relay.gatewayHold = true) :
    s.payRefusal b x = some .gatewayHeld := by
  simp [State.payRefusal, hgen, hcur, hshow, hover, hnet, hhold]

theorem State.payRefusal_noUplink (hnet : 0 < x.net) (hhold : s.relay.gatewayHold = false) (hlink : s.uplink.linkUp = false) :
    s.payRefusal b x = some .noUplink := by
  simp [State.payRefusal, hgen, hcur, hshow, hover, hnet, hhold, hlink]

theorem State.payRefusal_authFull (hnet : 0 < x.net) (hhold : s.relay.gatewayHold = false) (hlink : s.uplink.linkUp = true)
    (hfull : 24 ≤ s.relay.entries.length) : s.payRefusal b x = some .authFull := by
  simp [State.payRefusal, hgen, hcur, hshow, hover, hnet, hhold, hlink, hfull]

/-- A Net above 0 is let through to the last check by the relay and the link, a Net of 0 at once. -/
theorem State.payRefusal_slots (hpays : 0 < x.net → s.relay.gatewayHold = false ∧ s.uplink.linkUp = true
    ∧ s.relay.entries.length < 24) : s.payRefusal b x =
      if s.vouchers.freeSlots < s.vouchers.reservation + b.combos.length then some .voucherFull else none := by
  by_cases hnet : 0 < x.net
  · obtain ⟨hhold, hlink, hroom⟩ := hpays hnet
    simp [State.payRefusal, hgen, hcur, hshow, hover, hhold, hlink, not_le.2 hroom]
  · simp [State.payRefusal, hgen, hcur, hshow, hover, hnet]

end

/-! ## What PAY comes to -/

section

variable (hears : s.hears p = true) (tag : Byte) {token : Bytes}
include hears

theorem exec_pay : exec (.pay p tag token) s = .next ((s.goodFrame p).pay p tag token) :=
  congrArg Host.Outcome.next (State.takeRequest_hears hears fun s => s.pay p tag token)

/-- R88: a PAY refused before its basket is looked at, or of a basket that is AUTHORISING. -/
theorem exec_pay_malformed {r : Result} (hc : s.payFormCheck p token = some r) :
    exec (.pay p tag token) s = .next (s.answered .pay p tag r []) := by
  rw [exec_pay hears, State.pay, State.payFormCheck_goodFrame, hc]
  exact congrArg Host.Outcome.next (s.goodFrame_answer p .pay tag r [])

section

variable (hform : s.payFormCheck p token = none)
include hform

/-- R89, check 1. -/
theorem exec_pay_notPriced (hstate : (s.basket p).state ≠ .priced) :
    exec (.pay p tag token) s = .next (s.answered .pay p tag (s.basket p).notPayable []) := by
  rw [exec_pay hears, State.pay, State.payFormCheck_goodFrame, hform]
  dsimp only
  split
  · rename_i hpriced _
    exact absurd hpriced hstate
  · exact congrArg Host.Outcome.next (s.goodFrame_answer p .pay tag _ [])

/-- R89, R90: a PRICED basket refused. -/
theorem exec_pay_refused {x : Snapshot} {r : Result} (hstate : (s.basket p).state = .priced)
    (hx : (s.basket p).snapshot = some x) (hr : s.payRefusal (s.basket p) x = some r) :
    exec (.pay p tag token) s = .next ((s.payRefused p r).answered .pay p tag r (s.payRefusalContent r)) := by
  have hstate' : ((s.goodFrame p).basket p).state = .priced := hstate
  have hx' : ((s.goodFrame p).basket p).snapshot = some x := hx
  have hr' : (s.goodFrame p).payRefusal ((s.goodFrame p).basket p) x = some r := hr
  rw [exec_pay hears, State.pay, State.payFormCheck_goodFrame, hform]
  dsimp only
  rw [hstate', hx']
  dsimp only
  rw [hr']
  dsimp only
  rw [State.payRefused_goodFrame]
  exact congrArg Host.Outcome.next ((s.payRefused p r).goodFrame_answer p .pay tag r _)

/-- R88 to R94, R106: a PRICED basket that passes. -/
theorem exec_pay_passes {x : Snapshot} (hstate : (s.basket p).state = .priced) (hx : (s.basket p).snapshot = some x)
    (hr : s.payRefusal (s.basket p) x = none) : exec (.pay p tag token) s =
      .next (if x.net = 0 then (s.goodFrame p).zeroTotal p tag x else (s.goodFrame p).acceptPay p tag token x) := by
  have hstate' : ((s.goodFrame p).basket p).state = .priced := hstate
  have hx' : ((s.goodFrame p).basket p).snapshot = some x := hx
  have hr' : (s.goodFrame p).payRefusal ((s.goodFrame p).basket p) x = none := hr
  rw [exec_pay hears, State.pay, State.payFormCheck_goodFrame, hform]
  dsimp only
  rw [hstate', hx']
  dsimp only
  rw [hr']

end

end

end

/-- Settles O26: each refusal is the first of the checks that its premises leave standing. -/
theorem payRefusals : Obligations.PayRefusals := by
  unfold Obligations.PayRefusals
  intro p tag token s hears b refused
  have hmalformed : ∀ {r}, s.payFormCheck p token = some r → refused s r [] := fun hc => exec_pay_malformed hears tag hc
  refine ⟨fun hf => hmalformed ?_, fun hf hr => hmalformed ?_, fun hf hr => ⟨fun hlen => hmalformed ?_, fun h1 h64 => ?_⟩⟩
  · simp [State.payFormCheck, State.sellerCheck, hf]
  · simp [State.payFormCheck, State.sellerCheck, hf, hr]
  · rw [State.payFormCheck, State.sellerCheck_none hf hr]
    exact if_pos hlen
  have hlen : ¬ (token.length = 0 ∨ 64 < token.length) := by omega
  refine ⟨fun hclosed => hmalformed ?_, fun hopen => ⟨fun hauth => hmalformed ?_, fun hst hl => ?_, fun hst => ?_,
    fun hpriced x hx => ?_⟩⟩
  · rw [State.payFormCheck, State.sellerCheck_none hf hr]
    exact (if_neg hlen).trans (if_pos hclosed)
  · rw [State.payFormCheck, State.sellerCheck_none hf hr]
    exact (if_neg hlen).trans ((if_neg (by rw [hopen]; decide)).trans (if_pos hauth))
  · have hform := State.payFormCheck_none hopen hr ⟨h1, h64⟩ (show b.state ≠ .authorising by rw [hst]; decide)
    have hexec := exec_pay_notPriced hears tag hform (show b.state ≠ .priced by rw [hst]; decide)
    rwa [Basket.notPayable, if_pos ⟨hst, hl⟩] at hexec
  · have hne : b.state ≠ .authorising ∧ b.state ≠ .priced ∧ ¬ (b.state = .building ∧ b.lapsed = true) := by
      rcases hst with hst | ⟨hst, hl⟩
      · simp [hst]
      · simp [hst, hl]
    obtain ⟨hauth, hpriced, hlapsed⟩ := hne
    have hexec := exec_pay_notPriced hears tag (State.payFormCheck_none hopen hr ⟨h1, h64⟩ hauth) hpriced
    rwa [Basket.notPayable, if_neg hlapsed] at hexec
  · have hform := State.payFormCheck_none hopen hr ⟨h1, h64⟩ (show b.state ≠ .authorising by rw [hpriced]; decide)
    have hrefused : ∀ {r}, s.payRefusal b x = some r → refused (s.payRefused p r) r (s.payRefusalContent r) :=
      fun hc => exec_pay_refused hears tag hform hpriced hx hc
    refine ⟨fun hgen => hrefused (r := .priceChanged) (if_pos hgen), fun hgen => ⟨fun hshow =>
      hrefused (r := .showClosed) (State.payRefusal_showClosed hgen hshow), fun hcur hshow => ⟨fun hover =>
      hrefused (r := .overLimit) (State.payRefusal_overLimit hgen hcur hshow hover), fun hover hnet => ⟨fun hhold =>
      hrefused (r := .gatewayHeld) (State.payRefusal_gatewayHeld hgen hcur hshow hover hnet hhold), fun hhold hlink =>
      hrefused (r := .noUplink) (State.payRefusal_noUplink hgen hcur hshow hover hnet hhold hlink), fun hhold hlink hfull =>
      hrefused (r := .authFull) (State.payRefusal_authFull hgen hcur hshow hover hnet hhold hlink hfull),
      fun hhold hlink hroom hslots => hrefused (r := .voucherFull) ?_⟩, fun hover hnet hslots =>
      hrefused (r := .voucherFull) ?_⟩⟩⟩
    · exact (State.payRefusal_slots hgen hcur hshow hover fun _ => ⟨hhold, hlink, hroom⟩).trans (if_pos hslots)
    · exact (State.payRefusal_slots hgen hcur hshow hover fun hpos => absurd hnet (Nat.ne_of_gt hpos)).trans (if_pos hslots)

end Sys2Proof.Machine
end

section
/-! What an accepted PAY writes (O25), in two parts that the ends of an authorisation share: seats of one show that change by one
function, and slots of a list of serials that change by another. -/

namespace Sys2Proof.Machine

/-! ## Seats and slots that change each by a function -/

/-- The seats of a show take the states a function gives, and nothing else in the Seat Table changes but the show's counts. -/
structure State.SeatsBecome (s t : State) (i : ShowNo) (ks : List Nat) (g : SeatState → SeatState) : Prop where
  seats : ∀ k ∈ ks, t.seatAt i k = { s.seatAt i k with state := g (s.seatAt i k).state }
  pool : s.poolKept t (s.seatAddresses i ks)
  shows : s.showsKept t i

/-- The slots of the serials hold what a function makes of them, and no other slot nor the Serial Index changes. -/
structure State.SlotsBecome (s t : State) (serials : List Nat) (f : Slot → Slot) : Prop where
  slots : ∀ k ∈ serials, s.slotBecomes t k f
  kept : s.slotsKept t serials

theorem State.eachSeat_seatsBecome (s : State) (i : ShowNo) {g : SeatState → SeatState} (hg : ∀ x, g (g x) = g x)
    (ks : List Nat) : s.SeatsBecome (s.eachSeat i g ks) i ks g where
  seats := fun k hk => by rw [State.seatAt_eachSeat s i hg, if_pos hk]
  pool := s.eachSeat_poolKept i g ks
  shows := s.eachSeat_showsKept i g ks

theorem State.eachSlot_slotsBecome (s : State) {f : Slot → Slot} (hf : ∀ x, f (f x) = f x) (ns : List Nat) :
    s.SlotsBecome (s.eachSlot f ns) ns f :=
  ⟨(s.eachSlot_spec hf ns).1, (s.eachSlot_spec hf ns).2⟩

theorem State.SeatsBecome.congr {s t s' t' : State} {i : ShowNo} {ks : List Nat} {g : SeatState → SeatState}
    (h : s.SeatsBecome t i ks g) (hs : s'.seats = s.seats) (ht : t'.seats = t.seats) : s'.SeatsBecome t' i ks g := by
  cases s; cases s'; cases t; cases t'
  cases hs
  cases ht
  exact ⟨h.seats, h.pool, h.shows⟩

theorem State.SlotsBecome.congr {s t s' t' : State} {ns : List Nat} {f : Slot → Slot} (h : s.SlotsBecome t ns f)
    (hs : s'.vouchers.slots = s.vouchers.slots) (hi : s'.vouchers.index = s.vouchers.index)
    (hs' : t'.vouchers.slots = t.vouchers.slots) (hi' : t'.vouchers.index = t.vouchers.index) : s'.SlotsBecome t' ns f where
  slots := by simpa only [State.slotBecomes, State.slotOf, State.indexed, State.slotAt, hs, hi, hs', hi'] using h.slots
  kept := by simpa only [State.slotsKept, State.indexed, State.slotAt, hs, hi, hs', hi'] using h.kept

/-! ## The steps of R91 to R94 -/

/-- R91 to R93: the entry joins the list and its seats become PENDING. -/
def State.payPended (s : State) (p : PortNo) (x : Snapshot) : State :=
  ({ s with relay := s.relay.accept (s.newEntry p x) } : State).eachSeat (s.basket p).handle.index
    (SeatState.pend s.relay.nextTag) (x.seats.map (·.seat))

/-- R93, R117: slots are set aside for its combo lines and its claims pass to the tag. -/
def State.payClaimed (s : State) (p : PortNo) (x : Snapshot) : State :=
  ({ s.payPended p x with vouchers := { (s.payPended p x).vouchers with
    reservation := (s.payPended p x).vouchers.reservation + (s.basket p).combos.length } } : State).eachSlot
      (Slot.claim (.tag s.relay.nextTag)) (s.basket p).claims

/-- R88, R93, R94: the basket becomes AUTHORISING, the reply's place is kept and the AUTH_REQUEST waits. -/
def State.payAsked (s : State) (p : PortNo) (tag : Byte) (token : Bytes) (x : Snapshot) : State :=
  let u := s.payClaimed p x
  { (u.setBasket p { s.basket p with state := .authorising, undo := [], lapsed := false }).setPort p
      { u.port p with kept := some tag } with
    uplink := { u.uplink with
      authRequests := u.uplink.authRequests ++ [(s.newEntry p x).request u.store.exponent token] } }

theorem State.payPended_frame (s : State) (p : PortNo) (x : Snapshot) :
    s.payPended p x = { s with
      relay := s.relay.accept (s.newEntry p x)
      seats := { s.seats with shows := (s.payPended p x).seats.shows, pool := (s.payPended p x).seats.pool } } :=
  State.eachSeat_frame _ _ _ _

theorem State.payClaimed_frame (s : State) (p : PortNo) (x : Snapshot) :
    s.payClaimed p x = { s.payPended p x with vouchers := { s.vouchers with
      slots := (s.payClaimed p x).vouchers.slots
      reservation := s.vouchers.reservation + (s.basket p).combos.length } } := by
  have hvouchers : (s.payPended p x).vouchers = s.vouchers := by rw [State.payPended_frame]
  conv_lhs => rw [State.payClaimed, State.eachSlot_frame, hvouchers]
  rw [State.payClaimed, hvouchers]

theorem State.payAsked_frame (s : State) (p : PortNo) (tag : Byte) (token : Bytes) (x : Snapshot) :
    s.payAsked p tag token x = { s.payClaimed p x with
      baskets := s.baskets.set p { s.basket p with state := .authorising, undo := [], lapsed := false }
      ports := s.ports.set p { s.port p with kept := some tag }
      uplink := { s.uplink with
        authRequests := s.uplink.authRequests ++ [(s.newEntry p x).request s.store.exponent token] } } := by
  unfold State.payAsked
  rw [State.payClaimed_frame, State.payPended_frame]
  rfl

theorem State.acceptPay_eq (s : State) (p : PortNo) (tag : Byte) (token : Bytes) (x : Snapshot) :
    s.acceptPay p tag token x = (s.payAsked p tag token x).checkLow := by
  unfold State.acceptPay
  dsimp only
  rw [State.pendLines_eq]
  rfl

theorem State.acceptPay_seats (s : State) (p : PortNo) (tag : Byte) (token : Bytes) (x : Snapshot) :
    (s.acceptPay p tag token x).seats = (s.payPended p x).seats := by
  rw [State.acceptPay_eq, State.checkLow_frame, State.payAsked_frame, State.payClaimed_frame]

theorem State.acceptPay_slots (s : State) (p : PortNo) (tag : Byte) (token : Bytes) (x : Snapshot) :
    (s.acceptPay p tag token x).vouchers.slots = (s.payClaimed p x).vouchers.slots := by
  rw [State.acceptPay_eq, State.checkLow_frame, State.payAsked_frame]

/-- R91 to R94: what an accepted PAY can change. -/
theorem State.acceptPay_frame (s : State) (p : PortNo) (tag : Byte) (token : Bytes) (x : Snapshot) :
    s.acceptPay p tag token x = { s with
      seats := { s.seats with
        shows := (s.acceptPay p tag token x).seats.shows, pool := (s.acceptPay p tag token x).seats.pool }
      baskets := s.baskets.set p { s.basket p with state := .authorising, undo := [], lapsed := false }
      relay := s.relay.accept (s.newEntry p x)
      vouchers := { s.vouchers with
        slots := (s.acceptPay p tag token x).vouchers.slots
        reservation := s.vouchers.reservation + (s.basket p).combos.length
        lowArmed := decide (64 ≤ (s.acceptPay p tag token x).vouchers.available) }
      ports := s.ports.set p { s.port p with kept := some tag }
      uplink := { s.uplink with
        authRequests := s.uplink.authRequests ++ [(s.newEntry p x).request s.store.exponent token] }
      control := { s.control with
        notices := (s.acceptPay p tag token x).control.notices
        noticesLost := (s.acceptPay p tag token x).control.noticesLost } } := by
  rw [State.acceptPay_eq, State.checkLow_frame, State.payAsked_frame, State.payClaimed_frame, State.payPended_frame]
  rfl

/-- R93: the seats of an accepted PAY. -/
theorem State.acceptPay_seatsBecome (s : State) (p : PortNo) (tag : Byte) (token : Bytes) (x : Snapshot) :
    s.SeatsBecome (s.acceptPay p tag token x) (s.basket p).handle.index (x.seats.map (·.seat))
      (SeatState.pend s.relay.nextTag) :=
  (State.eachSeat_seatsBecome { s with relay := s.relay.accept (s.newEntry p x) } _
    (SeatState.pend_pend s.relay.nextTag) _).congr rfl (s.acceptPay_seats p tag token x)

/-- R93: the claims of an accepted PAY. -/
theorem State.acceptPay_slotsBecome (s : State) (p : PortNo) (tag : Byte) (token : Bytes) (x : Snapshot) :
    s.SlotsBecome (s.acceptPay p tag token x) (s.basket p).claims (Slot.claim (.tag s.relay.nextTag)) := by
  have hvouchers : (s.payPended p x).vouchers = s.vouchers := by rw [State.payPended_frame]
  refine (State.eachSlot_slotsBecome { s.payPended p x with vouchers := { (s.payPended p x).vouchers with
    reservation := (s.payPended p x).vouchers.reservation + (s.basket p).combos.length } }
    (Slot.claim_claim (.tag s.relay.nextTag)) (s.basket p).claims).congr (congrArg (·.slots) hvouchers.symm)
    (congrArg (·.index) hvouchers.symm) (s.acceptPay_slots p tag token x) ?_
  rw [State.acceptPay_frame, State.eachSlot_frame]
  exact (congrArg (·.index) hvouchers).symm

/-- Settles O25: the request passes every check, and the state it is served on differs from the one it meets in the port's Error
Count alone. -/
theorem payAcceptedReservesAndPends : Obligations.PayAcceptedReservesAndPends := by
  unfold Obligations.PayAcceptedReservesAndPends
  intro p tag token x s hears hopen hrole h1 h64 hstate hx hnet hgen hcur hshow hover hhold hlink hroom hslots b e
  have hform := State.payFormCheck_none hopen hrole ⟨h1, h64⟩ (show b.state ≠ .authorising by rw [hstate]; decide)
  have hpasses := (State.payRefusal_slots (b := s.basket p) hgen hcur hshow hover fun _ => ⟨hhold, hlink, hroom⟩).trans
    (if_neg (not_lt.2 hslots))
  have hexec := exec_pay_passes hears tag hform hstate hx hpasses
  rw [if_neg (Nat.ne_of_gt hnet)] at hexec
  have hseats := ((s.goodFrame p).acceptPay_seatsBecome p tag token x).congr (s' := s) rfl rfl
  have hclaims := ((s.goodFrame p).acceptPay_slotsBecome p tag token x).congr (s' := s) rfl rfl rfl rfl
  have hframe := (s.goodFrame p).acceptPay_frame p tag token x
  generalize (s.goodFrame p).acceptPay p tag token x = t at hexec hseats hclaims hframe
  have hcontrol := congrArg State.control hframe
  have hlow := congrArg (fun t : State => t.vouchers.lowArmed) hframe
  have hports : (s.goodFrame p).ports.set p { (s.goodFrame p).port p with kept := some tag }
      = s.ports.set p { s.port p with errorCount := (s.port p).errorCount - 1, kept := some tag } := by
    simp [State.goodFrame, State.setPort, State.port]
  refine ⟨t, hexec, fun l hl => hseats.seats l.seat (List.mem_map.2 ⟨l, hl, rfl⟩), hseats.pool, hseats.shows, hclaims.slots,
    hclaims.kept, hcontrol, hlow, ?_⟩
  rw [hports] at hframe
  rw [hlow, hcontrol]
  exact hframe

end Sys2Proof.Machine
end

section
/-! The end of a sale at the printer and at the port (R88, R131, R132, R146): its documents one by one, its job or its owed entry,
the answer to its PAY, and what the Print Engine's steps after it leave. -/

namespace Sys2Proof.Machine

/-! ## A sale has no part in the ports -/

theorem State.takenSlot_congr {s t : State} (h : t.vouchers = s.vouchers) : t.takenSlot = s.takenSlot := by
  have hslotAt : t.slotAt = s.slotAt := by funext n; rw [State.slotAt, State.slotAt, h]
  rw [State.takenSlot, State.takenSlot, State.lowestFree_eq, State.lowestFree_eq, hslotAt]

theorem State.drawn_congr {s t : State} (h : t.vouchers = s.vouchers) : t.drawn = s.drawn := by
  have hindexed : t.indexed = s.indexed := by funext n; rw [State.indexed, State.indexed, h]
  rw [State.drawn, State.drawn, State.freeSerial_eq, State.freeSerial_eq, hindexed, h]

/-- A notice raised writes Foyer Control alone. -/
theorem State.raise_eq (s : State) (k : NoticeKind) (content : Bytes) :
    s.raise k content = { s with control := (s.raise k content).control } := by
  conv_lhs => rw [State.raise_frame]
  conv_rhs => rw [State.raise_frame]

section

variable (s : State) (p : PortNo) (y : Port)

theorem State.issueSnacks_setPort (sale expiry : Nat) (cs : List (Fin 32)) :
    (s.setPort p y).issueSnacks sale expiry cs
      = ((s.issueSnacks sale expiry cs).1.setPort p y, (s.issueSnacks sale expiry cs).2) := by
  induction cs generalizing s with
  | nil => rfl
  | cons c cs ih =>
    have hstep := ih (s.issue (.snack c) sale expiry).1
    have hissue : (s.setPort p y).issue (.snack c) sale expiry
      = ((s.issue (.snack c) sale expiry).1.setPort p y, (s.issue (.snack c) sale expiry).2) := by
      rw [State.issue_eq, State.takenSlot_congr (t := s.setPort p y) (s := s) rfl,
        State.drawn_congr (t := s.setPort p y) (s := s) rfl]
      rfl
    simp only [State.issueSnacks, hissue, hstep]

theorem State.sellSeats_setPort (i : ShowNo) (n : Nat) (ls : List PricedLine) :
    (s.setPort p y).sellSeats i n ls = (s.sellSeats i n ls).setPort p y :=
  List.foldl_hom (fun t : State => t.setPort p y)
    (g₁ := fun (t : State) (l : PricedLine) => t.setSeatState i l.seat (.sold n l.ticketType))
    (g₂ := fun (t : State) (l : PricedLine) => t.setSeatState i l.seat (.sold n l.ticketType)) (fun _ _ => rfl)

theorem State.changeSlot_setPort (n : Nat) (f : Slot → Slot) :
    (s.setPort p y).changeSlot n f = (s.changeSlot n f).setPort p y := by
  have hslot : (s.setPort p y).slotOf n = s.slotOf n := rfl
  unfold State.changeSlot
  rw [hslot]
  cases s.slotOf n <;> rfl

theorem State.eachSlot_setPort (f : Slot → Slot) (ns : List Nat) :
    (s.setPort p y).eachSlot f ns = (s.eachSlot f ns).setPort p y :=
  List.foldl_hom (fun t : State => t.setPort p y) (fun t n => t.changeSlot_setPort p y n f)

theorem State.raise_setPort (k : NoticeKind) (content : Bytes) :
    (s.setPort p y).raise k content = (s.raise k content).setPort p y := by
  rw [State.raise_eq, State.raise_control_congr (t := s.setPort p y) (s := s) rfl rfl, State.raise_eq s]
  rfl

/-- R100: the completion of a sale goes the same way whatever the ports hold. -/
theorem State.completeSale_setPort (x : Sale) (code : Bytes) :
    (s.setPort p y).completeSale x code = ((s.completeSale x code).1.setPort p y, (s.completeSale x code).2) := by
  have hseats : (s.setPort p y).saleSeats x = (s.saleSeats x).setPort p y :=
    State.sellSeats_setPort { s with relay := { s.relay with saleCounter := nextSale s.relay.saleNumber } } p y x.handle.index
      s.relay.saleNumber x.seatLines
  have hsnacks : (s.setPort p y).saleSnacks x = ((s.saleSnacks x).1.setPort p y, (s.saleSnacks x).2) := by
    rw [State.saleSnacks, hseats]
    exact State.issueSnacks_setPort _ _ _ _ _ _
  have hreserve : (s.setPort p y).saleReserve x = (s.saleReserve x).setPort p y := by
    rw [State.saleReserve, hsnacks]
    rfl
  rw [State.completeSale_eq, hsnacks, hreserve, State.redeemCredits_eq, State.completeSale_eq, State.redeemCredits_eq,
    State.eachSlot_setPort, State.raise_setPort]
  rfl

end

/-! ## Documents (R131) -/

/-- The ticket document of a seat line. -/
def State.ticketDoc (s : State) (sale : Nat) (h : Handle) (i : Nat) (l : PricedLine) : Document :=
  { template := (s.showAt h.index).ticketTemplate, index := i, sale := sale,
    fields := .ticket (s.showAt h.index).title (s.showAt h.index).startDay (s.showAt h.index).startTime
      (s.seatAt h.index l.seat).zone (s.seatAt h.index l.seat).rowLabel (s.seatAt h.index l.seat).number
      (s.prices.live.types[l.ticketType]).name l.amount }

/-- The voucher document of a combo line and its serial. -/
def State.voucherDoc (s : State) (sale expiry i : Nat) (c : Fin 32) (serial : Nat) : Document :=
  { template := (s.prices.live.combos[c]).template, index := i, sale := sale,
    fields := .voucher (s.prices.live.combos[c]).name serial expiry }

theorem State.ticketDocs_getElem? (s : State) (sale : Nat) (h : Handle) (i : Nat) (ls : List PricedLine) (j : Nat) :
    (s.ticketDocs sale h i ls)[j]? = ls[j]?.map (s.ticketDoc sale h (i + j)) := by
  induction ls generalizing i j with
  | nil => rfl
  | cons l ls ih =>
    cases j with
    | zero => rfl
    | succ j =>
      have hrest := ih (i + 1) j
      rw [Nat.add_assoc, Nat.add_comm 1 j] at hrest
      exact hrest

theorem State.voucherDocs_getElem? (s : State) (sale expiry i : Nat) (xs : List (Fin 32 × Nat)) (j : Nat) :
    (s.voucherDocs sale expiry i xs)[j]? = xs[j]?.map (fun x => s.voucherDoc sale expiry (i + j) x.1 x.2) := by
  induction xs generalizing i j with
  | nil => rfl
  | cons x xs ih =>
    cases j with
    | zero => rfl
    | succ j =>
      have hrest := ih (i + 1) j
      rw [Nat.add_assoc, Nat.add_comm 1 j] at hrest
      exact hrest

theorem State.saleDocs_length (s : State) {x : Sale} (n : Nat) {serials : List Nat} (h : serials.length = x.combos.length) :
    (s.saleDocs x n serials).length = x.seatLines.length + x.combos.length := by
  rw [State.saleDocs, List.length_append, State.ticketDocs_length, State.voucherDocs_length, List.length_zip, h, Nat.min_self]

/-- The tickets come first, in the order of the seat lines. -/
theorem State.saleDocs_ticket (s : State) {x : Sale} (n : Nat) (serials : List Nat) {j : Nat} {l : PricedLine}
    (hl : x.seatLines[j]? = some l) : (s.saleDocs x n serials)[j]? = some (s.ticketDoc n x.handle j l) := by
  obtain ⟨hj, -⟩ := List.getElem?_eq_some_iff.1 hl
  rw [State.saleDocs, List.getElem?_append_left (by rw [State.ticketDocs_length]; exact hj), State.ticketDocs_getElem?, hl,
    Nat.zero_add]
  rfl

/-- The vouchers come after them, in the order of the combo lines. -/
theorem State.saleDocs_voucher (s : State) {x : Sale} (n : Nat) {serials : List Nat} {j : Nat} {c : Fin 32} {serial : Nat}
    (hc : x.combos[j]? = some c) (hserial : serials[j]? = some serial) :
    (s.saleDocs x n serials)[x.seatLines.length + j]?
      = some (s.voucherDoc n (s.showAt x.handle.index).expiryDay (x.seatLines.length + j) c serial) := by
  have hzip : (x.combos.zip serials)[j]? = some (c, serial) := List.getElem?_zip_eq_some.2 ⟨hc, hserial⟩
  rw [State.saleDocs, List.getElem?_append_right (by rw [State.ticketDocs_length]; exact Nat.le_add_right _ _),
    State.ticketDocs_length, Nat.add_sub_cancel_left, State.voucherDocs_getElem?, hzip]
  rfl

/-- The documents are read from the Seat Table and the prices alone. -/
theorem State.saleDocs_congr {s t : State} (hs : t.seats = s.seats) (hp : t.prices = s.prices) (x : Sale) (n : Nat)
    (serials : List Nat) : t.saleDocs x n serials = s.saleDocs x n serials := by
  have hticket : t.ticketDoc = s.ticketDoc := by
    funext sale h i l
    simp only [State.ticketDoc, State.showAt, State.seatAt, hs, hp]
  have hvoucher : t.voucherDoc = s.voucherDoc := by
    funext sale expiry i c serial
    simp only [State.voucherDoc, hp]
  have htickets : t.ticketDocs n x.handle 0 x.seatLines = s.ticketDocs n x.handle 0 x.seatLines :=
    List.ext_getElem? fun j => by rw [State.ticketDocs_getElem?, State.ticketDocs_getElem?, hticket]
  have hvouchers : ∀ expiry xs, t.voucherDocs n expiry x.seatLines.length xs = s.voucherDocs n expiry x.seatLines.length xs :=
    fun expiry xs => List.ext_getElem? fun j => by rw [State.voucherDocs_getElem?, State.voucherDocs_getElem?, hvoucher]
  rw [State.saleDocs, State.saleDocs, htickets, hvouchers, State.showAt_of_seats hs]

/-! ## A job, or owed documents (R132, R146) -/

/-- What OWED_ADDED carries. -/
def OwedEntry.content (e : OwedEntry) (lost : Bool) : Bytes :=
  u32 e.sale ++ u8 e.origin.val ++ u8 e.reason.code ++ u8 e.docs.length ++ flag lost

theorem State.owe_room {s : State} (h : s.print.owed.length < 64) (e : OwedEntry) :
    s.owe e = State.raise { s with print := { s.print with owed := s.print.owed ++ [e] } } .owedAdded (e.content false) := by
  simp only [State.owe, State.owedRoom, h, decide_true, if_true, Bool.not_true]
  rfl

theorem State.owe_full {s : State} (h : 64 ≤ s.print.owed.length) (e : OwedEntry) :
    s.owe e = s.raise .owedAdded (e.content true) := by
  simp only [State.owe, State.owedRoom, not_lt.2 h, decide_false, Bool.false_eq_true, if_false, Bool.not_false]
  rfl

/-- With fewer than 32 jobs the documents become one more, under a number no other carries. -/
theorem State.printSale_job {s : State} (h : s.print.jobs.length < 32) (x : Sale) (n : Nat) (serials : List Nat) :
    ∃ m, (∀ k ∈ s.print.jobs, k.number ≠ m) ∧ ((∀ k ∈ s.print.jobs, k.number ≠ s.print.jobCounter) → m = s.print.jobCounter)
      ∧ s.printSale x n serials = ({ s with print := { s.print with
          jobs := s.print.jobs ++ [{ number := m, work := .print false n x.origin x.origin (s.saleDocs x n serials), next := 0,
                                     channel := none }]
          jobCounter := if m < 65535 then m + 1 else 1 } }, false) := by
  obtain ⟨hfresh, hown⟩ := freeJobNumber_fresh (js := s.print.jobs) (by omega) s.print.jobCounter
  refine ⟨_, hfresh, hown, ?_⟩
  unfold State.printSale
  dsimp only
  rw [if_pos h]
  rfl

/-- With 32 jobs the documents are owed. -/
theorem State.printSale_owed {s : State} (h : 32 ≤ s.print.jobs.length) (x : Sale) (n : Nat) (serials : List Nat) :
    s.printSale x n serials
      = (s.owe { sale := n, origin := x.origin, reason := .queueFull, docs := s.saleDocs x n serials }, true) := by
  unfold State.printSale
  dsimp only
  rw [if_neg (not_lt.2 h)]

/-! ## What the Print Engine's steps leave -/

/-- A step of the Print Engine with a new job or without: jobs, channels, owed documents, the job counter, print offers and notices
move on, and nothing else does. -/
structure State.PrintMoves (s t : State) : Prop where
  frame : t = { s with print := t.print, ports := t.ports, control := t.control }
  ports : ∀ q, t.port q = { s.port q with printOffer := (t.port q).printOffer }
  print : s.printKept t
  control : s.controlKept t

theorem State.PrintStep.moves {s t : State} (h : s.PrintStep t) : s.PrintMoves t where
  frame := by
    have hu : t.uplink = s.uplink := h.uplink
    conv_lhs => rw [h.frame, hu]
  ports := h.ports
  print := by
    unfold State.printKept
    conv_lhs => rw [h.print]
    rw [h.print]
  control := h.control

theorem State.printSale_moves (s : State) (x : Sale) (n : Nat) (serials : List Nat) :
    s.PrintMoves (s.printSale x n serials).1 := by
  unfold State.printSale
  dsimp only
  split
  · exact ⟨rfl, fun _ => rfl, rfl, rfl⟩
  · exact (s.owe_printStep _).moves

/-- A port answered between two such steps: the rest of the state, and every other port. -/
theorem State.PrintMoves.around_answer {s q t : State} {p : PortNo} {y : Port} (h : s.PrintMoves q)
    (h' : (q.setPort p y).PrintMoves t) : t = { s with print := t.print, ports := t.ports, control := t.control }
      ∧ (∀ r, r ≠ p → t.port r = { s.port r with printOffer := (t.port r).printOffer }) ∧ s.printKept t ∧ s.controlKept t := by
  have hprint := h.print
  have hprint' := h'.print
  have hcontrol := h.control
  have hcontrol' := h'.control
  simp only [State.printKept, State.controlKept, State.setPort_print, State.setPort_control] at hprint hprint' hcontrol hcontrol' ⊢
  refine ⟨?_, fun r hr => ?_, ?_, ?_⟩
  · conv_lhs => rw [h'.frame, h.frame]
    rfl
  · rw [h'.ports r, State.port_setPort, if_neg hr, h.ports r]
  · rw [hprint', hprint]
  · rw [hcontrol', hcontrol]

/-! ## The answer to a kept PAY (R88) -/

theorem State.answerKept_eq (s : State) (p : PortNo) (make : Bool) (r : Result) (content : Bytes) :
    s.answerKept p make r content = s.setPort p ((s.port p).resulted make r content) := by
  unfold State.answerKept Port.resulted
  cases hk : (s.port p).kept with
  | none => simp
  | some tag =>
    cases make with
    | false => simp [State.setPort]
    | true => simp [State.answer, State.pushReply, Result.code]

end Sys2Proof.Machine
end

section
/-! The zero-total PAY (O28): the sale is complete in the step of the request, with its documents and its answer. -/

namespace Sys2Proof.Machine

section

variable (s : State) (p : PortNo) (x : Snapshot)

/-- The completion of the sale of a basket whose Net is 0 (R106). -/
def State.zeroSale (s : State) (p : PortNo) (x : Snapshot) : State × Nat × List Nat :=
  s.completeSale ((s.basket p).zeroSale p x) []

/-- Its documents (R131). -/
def State.zeroDocs : List Document :=
  (s.zeroSale p x).1.saleDocs ((s.basket p).zeroSale p x) s.relay.saleNumber (s.zeroSale p x).2.2

/-- The sale complete, its basket EMPTY and its request taken as a good frame. -/
def State.zeroDone : State :=
  { (s.zeroSale p x).1 with
    baskets := s.baskets.set p { Basket.reset with handle := (s.basket p).handle }
    ports := s.ports.set p { s.port p with errorCount := (s.port p).errorCount - 1 } }

/-- The answer of a zero-total PAY, then the arbiter and Low Armed. -/
def State.zeroSettled (u : State) (tag : Byte) (owed : Nat) : State :=
  ((u.pushReply p
    { cls := KioskClass.pay.replyCode, tag := tag
      payload := 0x50 :: (u16 0 ++ u32 s.relay.saleNumber ++ u24 0 ++ text [] ++ u8 owed ++ u8 (s.zeroSale p x).2.2.length
        ++ (s.zeroSale p x).2.2.flatMap u24) }
    ).runArbiter).checkLow

/-- The parts of the state that the end of the sale leaves to the printer, the port and the notices. -/
theorem State.zeroDone_frame : s.zeroDone p x = { s with
    seats := (s.zeroSale p x).1.seats
    baskets := s.baskets.set p { Basket.reset with handle := (s.basket p).handle }
    relay := { s.relay with saleCounter := nextSale s.relay.saleNumber }
    vouchers := (s.zeroSale p x).1.vouchers
    ports := s.ports.set p { s.port p with errorCount := (s.port p).errorCount - 1 }
    control := { s.control with
      notices := (s.zeroSale p x).1.control.notices, noticesLost := (s.zeroSale p x).1.control.noticesLost } } := by
  unfold State.zeroDone State.zeroSale
  rw [State.completeSale_frame]

theorem State.zeroDone_print : (s.zeroDone p x).print = s.print := by rw [State.zeroDone_frame]

theorem State.zeroDone_docs : (s.zeroDone p x).saleDocs ((s.basket p).zeroSale p x) s.relay.saleNumber (s.zeroSale p x).2.2
    = s.zeroDocs p x :=
  State.saleDocs_congr (s := (s.zeroSale p x).1) (t := s.zeroDone p x) rfl rfl _ _ _

/-- R106: what follows the sale is its documents, its answer, the arbiter and Low Armed. -/
theorem State.zeroTotal_goodFrame (hnet : x.net = 0) (tag : Byte) {u : State} {owed : Bool}
    (hq : (s.zeroDone p x).printSale ((s.basket p).zeroSale p x) s.relay.saleNumber (s.zeroSale p x).2.2 = (u, owed)) :
    (s.goodFrame p).zeroTotal p tag x = s.zeroSettled p x u tag (if owed then 1 else 0) := by
  have hport : (s.zeroSale p x).1.port p = s.port p := by rw [State.zeroSale, State.completeSale_frame]; rfl
  have hsale : (s.goodFrame p).completeSale ((s.basket p).zeroSale p x) []
      = ((s.zeroSale p x).1.goodFrame p, (s.zeroSale p x).2) := by
    rw [State.goodFrame, State.completeSale_setPort, State.goodFrame, hport]
    rfl
  have hdone : ((s.zeroSale p x).1.goodFrame p).setBasket p (((s.zeroSale p x).1.goodFrame p).basket p).cleared
      = s.zeroDone p x := by
    rw [State.zeroDone_frame, State.zeroSale, State.completeSale_frame]
    rfl
  have hbasket : (s.goodFrame p).basket p = s.basket p := rfl
  have hnumber : (s.zeroSale p x).2.1 = s.relay.saleNumber := rfl
  unfold State.zeroTotal
  dsimp only
  rw [hbasket, hsale]
  dsimp only
  rw [hdone, hnumber, hq, hnet]
  rfl

variable {s p x}

/-- R106, R132: with fewer than 32 jobs. -/
theorem State.zeroTotal_job (hnet : x.net = 0) (hjobs : s.print.jobs.length < 32) (tag : Byte) :
    ∃ m, (∀ k ∈ s.print.jobs, k.number ≠ m) ∧ ((∀ k ∈ s.print.jobs, k.number ≠ s.print.jobCounter) → m = s.print.jobCounter)
      ∧ (s.goodFrame p).zeroTotal p tag x = s.zeroSettled p x { s.zeroDone p x with print := { s.print with
          jobs := s.print.jobs ++ [{ number := m, work := .print false s.relay.saleNumber p p (s.zeroDocs p x), next := 0,
                                     channel := none }]
          jobCounter := if m < 65535 then m + 1 else 1 } } tag 0 := by
  have hprint := s.zeroDone_print p x
  obtain ⟨m, hfresh, hown, hq⟩ := State.printSale_job (s := s.zeroDone p x) (by rw [hprint]; exact hjobs)
    ((s.basket p).zeroSale p x) s.relay.saleNumber (s.zeroSale p x).2.2
  rw [hprint] at hfresh hown
  rw [hprint, State.zeroDone_docs] at hq
  have hexec := s.zeroTotal_goodFrame p x hnet tag hq
  rw [if_neg Bool.false_ne_true] at hexec
  exact ⟨m, hfresh, hown, hexec⟩

/-- R106, R146: with 32 jobs. -/
theorem State.zeroTotal_owed (hnet : x.net = 0) (hjobs : 32 ≤ s.print.jobs.length) (tag : Byte) :
    (s.goodFrame p).zeroTotal p tag x = s.zeroSettled p x ((s.zeroDone p x).owe
      { sale := s.relay.saleNumber, origin := p, reason := .queueFull, docs := s.zeroDocs p x }) tag 1 := by
  have hq := State.printSale_owed (s := s.zeroDone p x) (by rw [State.zeroDone_print]; exact hjobs)
    ((s.basket p).zeroSale p x) s.relay.saleNumber (s.zeroSale p x).2.2
  rw [State.zeroDone_docs] at hq
  have hexec := s.zeroTotal_goodFrame p x hnet tag hq
  rw [if_pos rfl] at hexec
  exact hexec

/-- What the sale's documents, its answer and what follows leave. -/
theorem State.zeroDone_settled {q t : State} (hmoves : (s.zeroDone p x).PrintMoves q) (f : KioskFrame)
    (ht : ((q.pushReply p f).runArbiter).checkLow = t) :
    s.printKept t ∧ s.controlKept t ∧ s.uplinkKept t
      ∧ (∀ r, r ≠ p → t.port r = { s.port r with printOffer := (t.port r).printOffer })
      ∧ t = { s with
          seats := (s.zeroSale p x).1.seats
          baskets := s.baskets.set p { Basket.reset with handle := (s.basket p).handle }
          relay := { s.relay with saleCounter := nextSale s.relay.saleNumber }
          vouchers := { (s.zeroSale p x).1.vouchers with lowArmed := decide (64 ≤ (s.zeroSale p x).1.vouchers.available) }
          print := t.print, ports := t.ports, uplink := t.uplink, control := t.control } := by
  have harbiter := (State.runArbiter_printStep (q.pushReply p f)).moves
  generalize (q.pushReply p f).runArbiter = u at harbiter ht
  obtain ⟨hframe, hports, hprint, hcontrol⟩ := hmoves.around_answer harbiter
  have hlow := u.checkLow_frame
  rw [ht] at hlow
  have hdone := s.zeroDone_frame p x
  have huprint : t.print = u.print := by rw [hlow]
  have huports : ∀ r, t.port r = u.port r := State.port_of_ports (by rw [hlow])
  have hvouchers : u.vouchers = (s.zeroSale p x).1.vouchers := by rw [hframe, hdone]
  have huplink : t.uplink = s.uplink := by rw [hlow, hframe, hdone]
  refine ⟨?_, ?_, huplink, fun r hr => ?_, ?_⟩
  · unfold State.printKept at hprint ⊢
    rw [huprint, hprint, State.zeroDone_print]
  · unfold State.controlKept at hcontrol ⊢
    rw [congrArg State.control hlow, hcontrol, hdone]
  · have hother : (s.zeroDone p x).port r = s.port r := by
      have hset := s.port_setPort p r { s.port p with errorCount := (s.port p).errorCount - 1 }
      rw [if_neg hr] at hset
      exact hset
    rw [huports, hports r hr, hother]
  · rw [huplink]
    conv_lhs => rw [hlow, hvouchers, hframe, hdone]
    rw [hlow]

/-- What the step of a zero-total PAY leaves, whichever way its documents go. -/
theorem State.zeroTotal_spec (hnet : x.net = 0) (tag : Byte) {t : State} (ht : (s.goodFrame p).zeroTotal p tag x = t) :
    s.printKept t ∧ s.controlKept t ∧ s.uplinkKept t
      ∧ (∀ r, r ≠ p → t.port r = { s.port r with printOffer := (t.port r).printOffer })
      ∧ t = { s with
          seats := (s.zeroSale p x).1.seats
          baskets := s.baskets.set p { Basket.reset with handle := (s.basket p).handle }
          relay := { s.relay with saleCounter := nextSale s.relay.saleNumber }
          vouchers := { (s.zeroSale p x).1.vouchers with lowArmed := decide (64 ≤ (s.zeroSale p x).1.vouchers.available) }
          print := t.print, ports := t.ports, uplink := t.uplink, control := t.control } := by
  have hmoves := (s.zeroDone p x).printSale_moves ((s.basket p).zeroSale p x) s.relay.saleNumber (s.zeroSale p x).2.2
  generalize hq : State.printSale _ _ _ _ = q at hmoves
  rw [s.zeroTotal_goodFrame p x hnet tag hq] at ht
  exact State.zeroDone_settled hmoves _ ht

/-- The ticket of each seat line carries the show and the seat as they stood before the sale (R131). -/
theorem State.zeroDocs_ticket {j : Nat} {l : PricedLine} (hl : x.seats[j]? = some l) :
    (s.zeroDocs p x)[j]? = some (s.ticketDoc s.relay.saleNumber (s.basket p).handle j l) := by
  have hprices : (s.zeroSale p x).1.prices = s.prices := by rw [State.zeroSale, State.completeSale_frame]
  obtain ⟨hsold, -, -, -, hshow⟩ : s.seatsSold (s.zeroSale p x).1 (s.basket p).handle.index s.relay.saleNumber x.seats :=
    State.completeSale_seatsSold _ _ _
  obtain ⟨ty, hseat⟩ := hsold l (List.mem_of_getElem? hl)
  refine (State.saleDocs_ticket (x := (s.basket p).zeroSale p x) _ _ _ hl).trans ?_
  unfold State.ticketDoc
  rw [show ((s.basket p).zeroSale p x).handle = (s.basket p).handle from rfl, hprices, hshow, hseat]

/-- The voucher of each combo line carries its serial and the last day of the show's vouchers (R131). -/
theorem State.zeroDocs_voucher {j : Nat} {c : Fin 32} {serial : Nat} (hc : (s.basket p).combos[j]? = some c)
    (hserial : (s.zeroSale p x).2.2[j]? = some serial) : (s.zeroDocs p x)[x.seats.length + j]? = some
      (s.voucherDoc s.relay.saleNumber (s.showAt (s.basket p).handle.index).expiryDay (x.seats.length + j) c serial) := by
  have hprices : (s.zeroSale p x).1.prices = s.prices := by rw [State.zeroSale, State.completeSale_frame]
  obtain ⟨-, -, -, -, hshow⟩ : s.seatsSold (s.zeroSale p x).1 (s.basket p).handle.index s.relay.saleNumber x.seats :=
    State.completeSale_seatsSold _ _ _
  refine (State.saleDocs_voucher (x := (s.basket p).zeroSale p x) _ _ hc hserial).trans ?_
  unfold State.voucherDoc
  rw [show ((s.basket p).zeroSale p x).handle = (s.basket p).handle from rfl, hprices, hshow]
  rfl

end

/-- Settles O28: the sale of `completionOfASale`'s lemmas, its documents read one by one, and the step that `State.zeroTotal_job` and
`State.zeroTotal_owed` say. -/
theorem zeroTotalSaleCompletes : Obligations.ZeroTotalSaleCompletes := by
  unfold Obligations.ZeroTotalSaleCompletes
  intro p tag token x s hears hopen hrole h1 h64 hstate hx hnet hgen hcur hshow hover hslots b sh n sale r docs done settled owing
  have hform := State.payFormCheck_none hopen hrole ⟨h1, h64⟩ (show b.state ≠ .authorising by rw [hstate]; decide)
  have hpasses := (State.payRefusal_slots (b := s.basket p) hgen hcur hshow hover fun hpays => absurd hnet (Nat.ne_of_gt hpays)).trans
    (if_neg (not_lt.2 hslots))
  have hexec := exec_pay_passes hears tag hform hstate hx hpasses
  rw [if_pos hnet] at hexec
  have hserials : r.2.2.length = b.combos.length := s.completeSale_length sale []
  refine ⟨rfl, hserials, State.saleDocs_length _ _ hserials, fun j l hl => State.zeroDocs_ticket hl,
    fun j c serial hc hserial => State.zeroDocs_voucher hc hserial, fun hjobs => ?_,
    fun hjobs => ⟨fun howed => ?_, fun howed => ?_⟩, ?_⟩
  · obtain ⟨m, hfresh, hown, hjob⟩ := State.zeroTotal_job (x := x) hnet hjobs tag
    exact ⟨m, hfresh, hown, hexec.trans (congrArg Host.Outcome.next hjob)⟩
  · have howe := State.owe_room (s := s.zeroDone p x) (by rw [State.zeroDone_print]; exact howed)
      { sale := s.relay.saleNumber, origin := p, reason := .queueFull, docs := s.zeroDocs p x }
    rw [hexec, State.zeroTotal_owed hnet hjobs tag, howe, State.zeroDone_print]
    rfl
  · have howe := State.owe_full (s := s.zeroDone p x) (by rw [State.zeroDone_print]; exact howed)
      { sale := s.relay.saleNumber, origin := p, reason := .queueFull, docs := s.zeroDocs p x }
    have hprint : ({ s.zeroDone p x with print := { s.print with owed := s.print.owed } } : State) = s.zeroDone p x := by
      rw [State.zeroDone_frame]
    rw [hexec, State.zeroTotal_owed hnet hjobs tag, howe, ← hprint]
    rfl
  · obtain ⟨hprint, hcontrol, huplink, hports, hframe⟩ := State.zeroTotal_spec hnet tag rfl
    have hseats : s.seatsSold _ b.handle.index n x.seats :=
      (s.completeSale_seatsSold sale []).congr (t' := (s.goodFrame p).zeroTotal p tag x) rfl (by rw [hframe]; rfl)
    exact ⟨_, hexec, hseats, hprint, hcontrol, huplink, hports,
      by rw [hframe]; exact s.completeSale_reservation sale [], hframe⟩

end Sys2Proof.Machine
end

section
/-! AUTH_RESPONSE taken apart (R95): its layout read field by field, and the entry it settles or the stray notice it raises. -/

namespace Sys2Proof.Machine

/-! ## The layout of chapter 11.3 -/

/-- A response of four bytes or more: a tag, a result, a count and an approval code of that count. -/
theorem readAuthResponse_cons (a b r n : Byte) (cs : Bytes) : readAuthResponse (a :: b :: r :: n :: cs)
    = (AuthOutcome.ofByte r).bind fun o =>
        if cs.length = n.toNat ∧ goodCode cs = true then some (beNat [a, b], o, cs) else none := by
  have hread : readAuthResponse (a :: b :: r :: n :: cs) = (AuthOutcome.ofByte r).bind fun o =>
      (readRaw n.toNat cs).bind fun x => if goodCode x.1 then done (beNat [a, b], o, x.1) x.2 else none := by
    simp [readAuthResponse, readNat, readRaw, readText]
  rw [hread]
  congr 1
  funext o
  rw [readRaw]
  by_cases hshort : cs.length < n.toNat
  · simp [hshort, Nat.ne_of_lt hshort]
  · by_cases hexact : cs.length = n.toNat
    · simp [← hexact, done]
    · have hrest : cs.drop n.toNat ≠ [] := fun h => by
        rw [List.drop_eq_nil_iff] at h
        omega
      simp [hshort, hexact, done, hrest]

/-- A shorter one is of no layout. -/
theorem readAuthResponse_short {b : Bytes} (h : b.length < 4) : readAuthResponse b = none := by
  match b, h with
  | [], _ => rfl
  | [_], _ => rfl
  | [_, _], _ => rfl
  | [a, c, r], _ =>
    have hread : readAuthResponse [a, c, r] = (AuthOutcome.ofByte r).bind fun _ => none := by
      simp [readAuthResponse, readNat, readRaw, readText]
    rw [hread]
    cases AuthOutcome.ofByte r <;> rfl

theorem goodCode_iff (t : Bytes) : goodCode t = true ↔ t.length ≤ 8 ∧ printable t = true := by
  simp [goodCode]

theorem printable_iff (t : Bytes) : printable t = true ↔ ∀ c ∈ t, 0x20 ≤ c.toNat ∧ c.toNat ≤ 0x7E := by
  simp [printable]

/-- What AUTH_RESPONSE does, by what its payload reads as. -/
theorem State.authResponse_eq {s : State} (htakes : s.takesUplink = true) (payload : Bytes) : s.authResponse payload =
    match readAuthResponse payload with
    | none => s.strayResult payload
    | some (tag, o, code) => (s.entryTagged tag).elim (s.strayResult payload) (fun e => s.resolve e o code) := by
  rw [State.authResponse, htakes]
  cases readAuthResponse payload with
  | none => rfl
  | some x =>
    obtain ⟨tag, o, code⟩ := x
    dsimp only
    rw [if_neg (by decide)]
    cases s.entryTagged tag <;> rfl

section

variable {s : State} {tag : Nat} {code : Bytes} (htag : tag < 65536) (hlen : code.length ≤ 8) (hcode : printable code = true)
include htag hlen hcode

theorem readAuthResponse_fields (r : Byte) : readAuthResponse (u16 tag ++ [r] ++ text code)
    = (AuthOutcome.ofByte r).map fun o => (tag, o, code) := by
  have hbytes : beNat (u16 tag) = tag := by rw [beNat_u16, Nat.mod_eq_of_lt htag]
  have hcount : code.length = (BitVec.ofNat 8 code.length).toNat := by rw [BitVec.toNat_ofNat, Nat.mod_eq_of_lt (by omega)]
  have hform : code.length = (BitVec.ofNat 8 code.length).toNat ∧ goodCode code = true :=
    ⟨hcount, (goodCode_iff code).2 ⟨hlen, hcode⟩⟩
  refine (readAuthResponse_cons _ _ r (BitVec.ofNat 8 code.length) code).trans ?_
  rw [show beNat [BitVec.ofNat 8 (tag / 256), BitVec.ofNat 8 tag] = tag from hbytes]
  cases AuthOutcome.ofByte r with
  | none => rfl
  | some o => exact if_pos hform

/-- R95: a well-formed response goes to the entry of its tag. -/
theorem exec_authResponse_resolve {e : AuthEntry} (htakes : s.takesUplink = true) (he : s.entryTagged tag = some e) {r : Byte}
    {o : AuthOutcome} (ho : AuthOutcome.ofByte r = some o) :
    exec (.authResponse (u16 tag ++ [r] ++ text code)) s = .next (s.resolve e o code) := by
  have hexec := State.authResponse_eq htakes (u16 tag ++ [r] ++ text code)
  rw [readAuthResponse_fields htag hlen hcode, ho] at hexec
  refine congrArg Host.Outcome.next (hexec.trans ?_)
  rw [Option.map_some]
  dsimp only
  rw [he, Option.elim_some]

/-- R95: with no entry of its tag it raises STRAY_RESULT. -/
theorem exec_authResponse_unlisted (htakes : s.takesUplink = true) (he : s.entryTagged tag = none) (r : Byte) :
    exec (.authResponse (u16 tag ++ [r] ++ text code)) s = .next (s.raise .strayResult (u16 tag ++ [r])) := by
  have hexec := State.authResponse_eq htakes (u16 tag ++ [r] ++ text code)
  rw [readAuthResponse_fields htag hlen hcode] at hexec
  refine congrArg Host.Outcome.next (hexec.trans ?_)
  cases AuthOutcome.ofByte r with
  | none => rfl
  | some o =>
    rw [Option.map_some]
    dsimp only
    rw [he, Option.elim_none]
    rfl

end

/-- R95: a response of no layout raises STRAY_RESULT. -/
theorem exec_authResponse_malformed {s : State} {payload : Bytes} (htakes : s.takesUplink = true)
    (hread : readAuthResponse payload = none) : exec (.authResponse payload) s
      = .next (s.raise .strayResult [payload.getD 0 0, payload.getD 1 0, payload.getD 2 0]) := by
  have hexec := State.authResponse_eq htakes payload
  rw [hread] at hexec
  exact congrArg Host.Outcome.next hexec

/-- R95: in NIGHT it is discarded. -/
theorem exec_authResponse_discarded {s : State} (payload : Bytes) (htakes : s.takesUplink = false) :
    exec (.authResponse payload) s = .next s :=
  congrArg Host.Outcome.next (if_pos htakes)

/-! ## The result and the entry's state (R98, R99, R101, R103, R104) -/

/-- R101: the Gateway Hold as a result leaves it. -/
def State.faulted (s : State) (fault : Bool) : State :=
  { s with relay := { s.relay with gatewayHold := s.relay.gatewayHold || fault } }

theorem State.faulted_false (s : State) : s.faulted false = s := by rw [State.faulted, Bool.or_false]

theorem State.faulted_true (s : State) : s.faulted true = s.holdGateway := by rw [State.faulted, Bool.or_true, State.holdGateway]

/-- The outcome of a payment not made. -/
def AuthOutcome.unpaid (fault : Bool) : AuthOutcome := if fault then .gatewayFault else .declined

theorem AuthOutcome.ofByte_unpaid (fault : Bool) :
    AuthOutcome.ofByte (if fault then 0x52 else 0x51) = some (AuthOutcome.unpaid fault) := by cases fault <;> rfl

section

variable (s : State) {e : AuthEntry} (code : Bytes)

theorem State.resolve_approve {left : Nat} (h : e.state = .active left) : s.resolve e .approved code = s.approve e code := by
  unfold State.resolve
  rw [h]

theorem State.resolve_decline {left : Nat} (h : e.state = .active left) (fault : Bool) :
    s.resolve e (AuthOutcome.unpaid fault) code = (s.faulted fault).decline e fault := by
  unfold State.resolve
  rw [h]
  cases fault with
  | false => rw [State.faulted_false]; rfl
  | true => rw [State.faulted_true]; rfl

theorem State.resolve_approveLate (h : e.state = .lost) : s.resolve e .approved code = (s.approveLate e code 1).1 := by
  unfold State.resolve
  rw [h]

theorem State.resolve_releaseLate (h : e.state = .lost) (fault : Bool) :
    s.resolve e (AuthOutcome.unpaid fault) code = (s.faulted fault).releaseLate e 1 := by
  unfold State.resolve
  rw [h]
  cases fault with
  | false => rw [State.faulted_false]; rfl
  | true => rw [State.faulted_true]; rfl

end

end Sys2Proof.Machine
end

section
/-! APPROVED for an ACTIVE entry (O29): the sale of the entry, what ends with it, its job or owed documents and the answer to the kept
PAY. -/

namespace Sys2Proof.Machine

/-- A sale's job or owed documents leave the ports. -/
theorem State.printSale_ports (s : State) (x : Sale) (n : Nat) (serials : List Nat) :
    (s.printSale x n serials).1.ports = s.ports := by
  unfold State.printSale State.owe
  dsimp only
  split
  · rfl
  · split
    · exact State.raise_ports _ _ _
    · exact State.raise_ports _ _ _

section

variable (s : State) (e : AuthEntry) (code : Bytes)

/-- The completion of the sale of an entry. -/
def State.entrySale : State × Nat × List Nat := s.completeSale e.sale code

/-- Its documents (R131). -/
def State.entryDocs : List Document :=
  (s.entrySale e code).1.saleDocs e.sale s.relay.saleNumber (s.entrySale e code).2.2

/-- The sale complete, its entry off the list, its request withdrawn and its basket EMPTY. -/
def State.approveDone : State :=
  { (s.entrySale e code).1 with
    relay := { (s.entrySale e code).1.relay with entries := s.relay.entries.eraseP (fun f => decide (f.tag = e.tag)) }
    uplink := (s.entrySale e code).1.uplink.without e.tag
    baskets := s.baskets.set e.origin { Basket.reset with handle := (s.basket e.origin).handle } }

/-- The origin port with its kept PAY answered. -/
def State.approvedPort (owed : Nat) : Port :=
  (s.port e.origin).resulted (decide ((s.port e.origin).state = .active)) .approved
    (u16 e.tag ++ u32 s.relay.saleNumber ++ u24 e.net ++ text code ++ u8 owed ++ u8 (s.entrySale e code).2.2.length
      ++ (s.entrySale e code).2.2.flatMap u24)

theorem State.entryDocs_length : (s.entryDocs e code).length = e.seatLines.length + e.combos.length :=
  State.saleDocs_length _ _ (s.completeSale_length e.sale code)

theorem State.approveDone_frame : s.approveDone e code = { s with
    seats := (s.entrySale e code).1.seats
    baskets := s.baskets.set e.origin { Basket.reset with handle := (s.basket e.origin).handle }
    relay := { s.relay with
      entries := s.relay.entries.eraseP (fun f => decide (f.tag = e.tag)), saleCounter := nextSale s.relay.saleNumber }
    vouchers := (s.entrySale e code).1.vouchers
    uplink := s.uplink.without e.tag
    control := { s.control with
      notices := (s.entrySale e code).1.control.notices, noticesLost := (s.entrySale e code).1.control.noticesLost } } := by
  unfold State.approveDone State.entrySale
  rw [State.completeSale_frame]

theorem State.approveDone_print : (s.approveDone e code).print = s.print := by rw [State.approveDone_frame]

theorem State.approveDone_ports : (s.approveDone e code).ports = s.ports := by rw [State.approveDone_frame]

theorem State.approveDone_docs :
    (s.approveDone e code).saleDocs e.sale s.relay.saleNumber (s.entrySale e code).2.2 = s.entryDocs e code :=
  State.saleDocs_congr (s := (s.entrySale e code).1) (t := s.approveDone e code) rfl rfl _ _ _

/-- R98: after the sale come its documents, the answer and the arbiter. -/
theorem State.approve_of_printSale {u : State} {owed : Bool}
    (hq : (s.approveDone e code).printSale e.sale s.relay.saleNumber (s.entrySale e code).2.2 = (u, owed)) :
    s.approve e code = (u.setPort e.origin (s.approvedPort e code (if owed then 1 else 0))).runArbiter := by
  have hports : ∀ p, u.port p = s.port p := State.port_of_ports <| by
    have hsame := State.printSale_ports (s.approveDone e code) e.sale s.relay.saleNumber (s.entrySale e code).2.2
    rw [hq, State.approveDone_ports] at hsame
    exact hsame
  have hdone : (((s.completeSale e.sale code).1.dropEntry e.tag).withdrawRequest e.tag).setBasket e.origin
      ((((s.completeSale e.sale code).1.dropEntry e.tag).withdrawRequest e.tag).basket e.origin).cleared
        = s.approveDone e code := by
    rw [State.approveDone_frame, State.entrySale, State.completeSale_frame]
    rfl
  have hnumber : (s.completeSale e.sale code).2.1 = s.relay.saleNumber := rfl
  have hserials : (s.completeSale e.sale code).2.2 = (s.entrySale e code).2.2 := rfl
  unfold State.approve
  dsimp only
  rw [hdone, hnumber, hserials, hq]
  dsimp only
  rw [State.answerKept_eq, State.portActive, hports]
  rfl

variable {s e code}

/-- R98, R132: with fewer than 32 jobs. -/
theorem State.approve_job (hjobs : s.print.jobs.length < 32) :
    ∃ m, (∀ k ∈ s.print.jobs, k.number ≠ m) ∧ ((∀ k ∈ s.print.jobs, k.number ≠ s.print.jobCounter) → m = s.print.jobCounter)
      ∧ s.approve e code = (State.setPort { s.approveDone e code with print := { s.print with
          jobs := s.print.jobs ++ [
            { number := m, work := .print false s.relay.saleNumber e.origin e.origin (s.entryDocs e code), next := 0,
              channel := none }]
          jobCounter := if m < 65535 then m + 1 else 1 } } e.origin (s.approvedPort e code 0)).runArbiter := by
  have hprint := s.approveDone_print e code
  obtain ⟨m, hfresh, hown, hq⟩ := State.printSale_job (s := s.approveDone e code) (by rw [hprint]; exact hjobs)
    e.sale s.relay.saleNumber (s.entrySale e code).2.2
  rw [hprint] at hfresh hown
  rw [hprint, State.approveDone_docs] at hq
  have hexec := s.approve_of_printSale e code hq
  rw [if_neg Bool.false_ne_true] at hexec
  exact ⟨m, hfresh, hown, hexec⟩

/-- R98, R146: with 32 jobs. -/
theorem State.approve_owed (hjobs : 32 ≤ s.print.jobs.length) :
    s.approve e code = (State.setPort ((s.approveDone e code).owe
      { sale := s.relay.saleNumber, origin := e.origin, reason := .queueFull, docs := s.entryDocs e code }) e.origin
        (s.approvedPort e code 1)).runArbiter := by
  have hq := State.printSale_owed (s := s.approveDone e code) (by rw [State.approveDone_print]; exact hjobs)
    e.sale s.relay.saleNumber (s.entrySale e code).2.2
  rw [State.approveDone_docs] at hq
  have hexec := s.approve_of_printSale e code hq
  rw [if_pos rfl] at hexec
  exact hexec

/-- What the step of an approval leaves, whichever way its documents go. -/
theorem State.approve_spec {t : State} (ht : s.approve e code = t) :
    s.printKept t ∧ s.controlKept t ∧ (∀ r, r ≠ e.origin → t.port r = { s.port r with printOffer := (t.port r).printOffer })
      ∧ t = { s with
          seats := (s.entrySale e code).1.seats
          baskets := s.baskets.set e.origin { Basket.reset with handle := (s.basket e.origin).handle }
          relay := { s.relay with
            entries := s.relay.entries.eraseP (fun f => decide (f.tag = e.tag)), saleCounter := nextSale s.relay.saleNumber }
          vouchers := (s.entrySale e code).1.vouchers, print := t.print, ports := t.ports
          uplink := s.uplink.without e.tag, control := t.control } := by
  have hmoves := (s.approveDone e code).printSale_moves e.sale s.relay.saleNumber (s.entrySale e code).2.2
  generalize hq : State.printSale _ _ _ _ = q at hmoves
  rw [s.approve_of_printSale e code hq] at ht
  have harbiter := (State.runArbiter_printStep (q.1.setPort e.origin (s.approvedPort e code (if q.2 then 1 else 0)))).moves
  rw [ht] at harbiter
  obtain ⟨hframe, hports, hprint, hcontrol⟩ := hmoves.around_answer harbiter
  have hdone := s.approveDone_frame e code
  refine ⟨?_, ?_, fun r hr => ?_, ?_⟩
  · unfold State.printKept at hprint ⊢
    rw [hprint, State.approveDone_print]
  · unfold State.controlKept at hcontrol ⊢
    rw [hcontrol, hdone]
  · rw [hports r hr, State.port_of_ports (State.approveDone_ports s e code)]
  · conv_lhs => rw [hframe, hdone]

end

/-- Settles O29: the response read, then the sale with its job or its owed documents. -/
theorem approvalSellsTheSeats : Obligations.ApprovalSellsTheSeats := by
  unfold Obligations.ApprovalSellsTheSeats
  intro e left code s htakes he htag hstate hlen hcode n r docs approved done owing
  have hexec : approved = .next (s.approve e code) :=
    (exec_authResponse_resolve htag hlen hcode htakes he (r := 0x50) rfl).trans
      (congrArg Host.Outcome.next (s.resolve_approve code hstate))
  have hports : ∀ owed, (s.approveDone e code).setPort e.origin (s.approvedPort e code owed) = done owed := fun owed => by
    rw [State.setPort, State.approveDone_ports]
    rfl
  refine ⟨rfl, s.completeSale_length e.sale code, fun hjobs => ?_, fun hjobs => ⟨fun howed => ?_, fun howed => ?_⟩, ?_⟩
  · obtain ⟨m, hfresh, hown, hjob⟩ := State.approve_job (e := e) (code := code) hjobs
    refine ⟨m, hfresh, hown, hexec.trans (congrArg Host.Outcome.next ?_)⟩
    rw [hjob, ← hports]
    rfl
  · have howe := State.owe_room (s := s.approveDone e code) (by rw [State.approveDone_print]; exact howed)
      { sale := s.relay.saleNumber, origin := e.origin, reason := .queueFull, docs := s.entryDocs e code }
    rw [hexec, State.approve_owed hjobs, howe, State.approveDone_print, ← State.raise_setPort]
    refine congrArg (fun u : State => Host.Outcome.next u.runArbiter) (congrArg (fun u : State => u.raise _ _) ?_)
    rw [← hports]
    rfl
  · have howe := State.owe_full (s := s.approveDone e code) (by rw [State.approveDone_print]; exact howed)
      { sale := s.relay.saleNumber, origin := e.origin, reason := .queueFull, docs := s.entryDocs e code }
    rw [hexec, State.approve_owed hjobs, howe, ← State.raise_setPort, hports]
    refine congrArg (fun u : State => Host.Outcome.next u.runArbiter) (congrArg (fun u : State => u.raise _ _) ?_)
    rw [← hports, State.approveDone_frame]
    rfl
  · obtain ⟨hprint, hcontrol, hothers, hframe⟩ := State.approve_spec (s := s) (e := e) (code := code) rfl
    have hseats : s.seatsSold (s.approve e code) e.handle.index n e.seatLines :=
      (s.completeSale_seatsSold e.sale code).congr rfl (by rw [hframe]; rfl)
    exact ⟨_, hexec, hseats, hprint, hcontrol, hothers, by rw [hframe]; exact s.completeSale_reservation e.sale code, hframe⟩

end Sys2Proof.Machine
end

section
/-! DECLINED and GATEWAY_FAULT for an ACTIVE entry (O30): what an entry gives back when it ends unpaid, then the basket and the kept
PAY. -/

namespace Sys2Proof.Machine

/-! ## The seats and the claims that an entry gives back -/

section

variable (s : State) (e : AuthEntry) (g : SeatState → SeatState) (f : Slot → Slot)

/-- The seats of an entry change by one function, the slots of its claims by another. -/
def State.entryGives : State := (s.eachSeat e.handle.index g (e.seatLines.map (·.seat))).eachSlot f e.claims

theorem State.entryGives_frame : s.entryGives e g f = { s with
    seats := { s.seats with shows := (s.entryGives e g f).seats.shows, pool := (s.entryGives e g f).seats.pool }
    vouchers := { s.vouchers with slots := (s.entryGives e g f).vouchers.slots } } := by
  have hseats := s.eachSeat_frame e.handle.index g (e.seatLines.map (·.seat))
  unfold State.entryGives
  generalize s.eachSeat e.handle.index g (e.seatLines.map (·.seat)) = u at hseats ⊢
  have hslots := u.eachSlot_frame f e.claims
  generalize u.eachSlot f e.claims = t at hslots ⊢
  rw [hslots, hseats]

variable {g f}

theorem State.entryGives_seatsBecome (hg : ∀ x, g (g x) = g x) :
    s.SeatsBecome (s.entryGives e g f) e.handle.index (e.seatLines.map (·.seat)) g :=
  (s.eachSeat_seatsBecome e.handle.index hg (e.seatLines.map (·.seat))).congr rfl (by rw [State.entryGives, State.eachSlot_frame])

theorem State.entryGives_slotsBecome (hf : ∀ x, f (f x) = f x) : s.SlotsBecome (s.entryGives e g f) e.claims f := by
  have hvouchers : (s.eachSeat e.handle.index g (e.seatLines.map (·.seat))).vouchers = s.vouchers := by rw [State.eachSeat_frame]
  exact (State.eachSlot_slotsBecome _ hf e.claims).congr (congrArg (·.slots) hvouchers.symm) (congrArg (·.index) hvouchers.symm)
    rfl rfl

end

/-! ## The decline -/

section

variable (s : State) (e : AuthEntry) (stays : Bool)

/-- The basket stays with its port where it is ACTIVE and not COUNTER (R99). -/
def State.declineStays : Bool :=
  decide ((s.port e.origin).state = .active) && decide ((s.port e.origin).role ≠ .counter)

/-- What a decline makes of the entry's seats, of its claims and of its basket. -/
def State.declineSeat : SeatState → SeatState :=
  if stays then SeatState.reheld e.origin s.seats.declineGrace else SeatState.givenUp

def AuthEntry.declineSlot : Slot → Slot := if stays then Slot.claim (.port e.origin) else Slot.unclaim

def State.declineBasket : Basket :=
  if stays then { s.basket e.origin with state := .priced, undo := [], lapsed := false }
  else { Basket.reset with handle := (s.basket e.origin).handle }

theorem State.declineSeat_declineSeat (x : SeatState) :
    s.declineSeat e stays (s.declineSeat e stays x) = s.declineSeat e stays x := by
  unfold State.declineSeat
  split
  · exact SeatState.reheld_reheld _ _ x
  · exact SeatState.givenUp_givenUp x

theorem AuthEntry.declineSlot_declineSlot (x : Slot) : e.declineSlot stays (e.declineSlot stays x) = e.declineSlot stays x := by
  unfold AuthEntry.declineSlot
  split
  · exact Slot.claim_claim _ x
  · exact Slot.unclaim_unclaim x

/-- The entry off the list, its request withdrawn and its slots free again. -/
def State.declineBase : State := ((s.dropEntry e.tag).withdrawRequest e.tag).freeReservation e.reservation

/-- Then its seats and claims given back. -/
def State.declineGiven : State :=
  (s.declineBase e).entryGives e (s.declineSeat e (s.declineStays e)) (e.declineSlot (s.declineStays e))

theorem State.declineGiven_frame : s.declineGiven e = { s with
    seats := { s.seats with shows := (s.declineGiven e).seats.shows, pool := (s.declineGiven e).seats.pool }
    relay := { s.relay with entries := s.relay.entries.eraseP (fun f => decide (f.tag = e.tag)) }
    vouchers := { s.vouchers with
      slots := (s.declineGiven e).vouchers.slots, reservation := s.vouchers.reservation - e.reservation }
    uplink := s.uplink.without e.tag } := State.entryGives_frame _ _ _ _

theorem State.declineGiven_basket : (s.declineGiven e).basket e.origin = s.basket e.origin :=
  State.basket_of_baskets (by rw [State.declineGiven_frame]) _

theorem State.declineGiven_port (b : Basket) : ((s.declineGiven e).setBasket e.origin b).port e.origin = s.port e.origin :=
  State.port_of_ports (by rw [State.declineGiven_frame]; rfl) _

/-- R99, R101: the decline as a step of seats and claims, and then of the basket, the port and Low Armed. -/
theorem State.decline_eq (fault : Bool) : s.decline e fault
    = (((s.declineGiven e).setBasket e.origin (s.declineBasket e (s.declineStays e))).setPort e.origin
        ((s.port e.origin).resulted (s.declineStays e) .declined (u16 e.tag ++ flag fault))).checkLow := by
  have hstays : (s.portActive e.origin && decide ((s.port e.origin).role ≠ .counter)) = s.declineStays e := rfl
  have hbasket := s.declineGiven_basket e
  rw [← s.declineGiven_port e (s.declineBasket e (s.declineStays e)), ← State.answerKept_eq]
  unfold State.decline
  dsimp only
  rw [hstays]
  unfold State.declineBasket
  rw [← hbasket]
  unfold State.declineGiven
  cases s.declineStays e with
  | true =>
    rw [if_pos rfl, if_pos rfl, State.reholdSeats_eq]
    rfl
  | false => rfl

/-- R99, R101: what a decline can change. -/
theorem State.decline_frame (fault : Bool) : s.decline e fault = { s with
    seats := { s.seats with shows := (s.decline e fault).seats.shows, pool := (s.decline e fault).seats.pool }
    baskets := s.baskets.set e.origin (s.declineBasket e (s.declineStays e))
    relay := { s.relay with entries := s.relay.entries.eraseP (fun f => decide (f.tag = e.tag)) }
    vouchers := { s.vouchers with
      slots := (s.decline e fault).vouchers.slots, reservation := s.vouchers.reservation - e.reservation
      lowArmed := decide (64 ≤ (s.decline e fault).vouchers.available) }
    ports := s.ports.set e.origin ((s.port e.origin).resulted (s.declineStays e) .declined (u16 e.tag ++ flag fault))
    uplink := s.uplink.without e.tag
    control := { s.control with
      notices := (s.decline e fault).control.notices, noticesLost := (s.decline e fault).control.noticesLost } } := by
  rw [State.decline_eq, State.checkLow_frame, State.declineGiven_frame]
  rfl

theorem State.decline_seatsBecome (fault : Bool) : s.SeatsBecome (s.decline e fault) e.handle.index (e.seatLines.map (·.seat))
    (s.declineSeat e (s.declineStays e)) :=
  ((s.declineBase e).entryGives_seatsBecome e (s.declineSeat_declineSeat e _)).congr rfl
    (by rw [State.decline_eq, State.checkLow_frame]; rfl)

theorem State.decline_slotsBecome (fault : Bool) :
    s.SlotsBecome (s.decline e fault) e.claims (e.declineSlot (s.declineStays e)) :=
  ((s.declineBase e).entryGives_slotsBecome e (e.declineSlot_declineSlot _)).congr rfl rfl
    (by rw [State.decline_eq, State.checkLow_frame]; rfl) (by rw [State.decline_eq, State.checkLow_frame]; rfl)

end

/-- Settles O30: the response read, then the decline of the entry on the state whose Gateway Hold is as the result leaves it. -/
theorem declineReturnsTheSeats : Obligations.DeclineReturnsTheSeats := by
  unfold Obligations.DeclineReturnsTheSeats
  intro e left fault code s htakes he htag hstate hlen hcode stays seats
  have hexec : exec (.authResponse (u16 e.tag ++ [if fault then 0x52 else 0x51] ++ text code)) s
      = .next ((s.faulted fault).decline e fault) :=
    (exec_authResponse_resolve htag hlen hcode htakes he (AuthOutcome.ofByte_unpaid fault)).trans
      (congrArg Host.Outcome.next (s.resolve_decline code hstate fault))
  have hframe := (s.faulted fault).decline_frame e fault
  have hseats : s.SeatsBecome ((s.faulted fault).decline e fault) e.handle.index seats (s.declineSeat e stays) :=
    ((s.faulted fault).decline_seatsBecome e fault).congr rfl rfl
  have hslots : s.SlotsBecome ((s.faulted fault).decline e fault) e.claims (e.declineSlot stays) :=
    ((s.faulted fault).decline_slotsBecome e fault).congr rfl rfl rfl rfl
  generalize (s.faulted fault).decline e fault = t at hexec hframe hseats hslots
  have hbasket : t.basket e.origin = s.declineBasket e stays := by
    have hset := s.basket_setBasket e.origin e.origin (s.declineBasket e stays)
    rw [if_pos rfl] at hset
    rw [hframe]
    exact hset
  have hlow := congrArg (fun t : State => t.vouchers.lowArmed) hframe
  have hcontrol := congrArg State.control hframe
  refine ⟨t, hexec, ?_, hslots.kept, hcontrol, hlow, ?_⟩
  · rw [hbasket]
    cases hstays : stays with
    | true =>
      rw [hstays] at hseats hslots
      exact ⟨hseats.seats, hseats.pool, hseats.shows, hslots.slots, rfl⟩
    | false =>
      rw [hstays] at hseats hslots
      exact ⟨⟨hseats.seats, hseats.pool, hseats.shows⟩, hslots.slots, rfl⟩
  · rw [hbasket, hlow, hcontrol]
    exact hframe

end Sys2Proof.Machine
end

section
/-! The timeout of an authorisation (O32): the entry LOST, its basket, its kept PAY and its notice. -/

namespace Sys2Proof.Machine

/-- R97: what one entry's timeout changes. -/
theorem State.timeOut_eq (s : State) (e : AuthEntry) : s.timeOut e = ({ s with
    relay := { s.relay with
      entries := s.relay.entries.map (fun (x : AuthEntry) => if x.tag = e.tag then { x with state := .lost } else x) }
    baskets := s.baskets.set e.origin { Basket.reset with handle := (s.basket e.origin).handle }
    ports := s.ports.set e.origin ((s.port e.origin).resulted (decide ((s.port e.origin).state = .active)) .unknown (u16 e.tag))
    uplink := s.uplink.without e.tag } : State).raise .authLost (u16 e.tag ++ u8 e.origin.val ++ u24 e.net) := by
  unfold State.timeOut
  dsimp only
  rw [State.answerKept_eq]
  rfl

/-- With no tag twice, the entry of a tag is the entry itself. -/
theorem map_lost_eq {es : List AuthEntry} (hnodup : (es.map (·.tag)).Nodup) {e : AuthEntry} (he : e ∈ es) :
    es.map (fun (x : AuthEntry) => if x.tag = e.tag then { x with state := .lost } else x)
      = es.map (fun f => if f = e then { e with state := .lost } else f) := by
  refine List.map_congr_left fun f hf => ?_
  by_cases heq : f = e
  · rw [heq, if_pos rfl, if_pos rfl]
  · have htag : f.tag ≠ e.tag := fun htag => heq (List.inj_on_of_nodup_map hnodup hf he htag)
    rw [if_neg htag, if_neg heq]

/-- Settles O32: the one entry at 0 is lost by itself; without one there is nothing to lose. -/
theorem timeoutLosesTheEntry : Obligations.TimeoutLosesTheEntry := by
  unfold Obligations.TimeoutLosesTheEntry
  intro s hrunning hnodup
  have hexec : exec .authTimeout s = .next s.expireAuths := congrArg Host.Outcome.next (if_pos hrunning)
  refine ⟨fun e hone => ?_, fun hnone => ?_⟩
  · obtain ⟨hmem, -⟩ := List.mem_filter.1 (hone ▸ List.mem_singleton_self e)
    rw [hexec, State.expireAuths, hone, List.foldl_cons, List.foldl_nil, State.timeOut_eq, map_lost_eq hnodup hmem]
  · have hempty : s.relay.entries.filter (fun e => decide (e.state = .active 0)) = [] :=
      List.filter_eq_nil_iff.2 fun e he => by rw [decide_eq_true_eq]; exact hnone e he
    rw [hexec, State.expireAuths, hempty, List.foldl_nil]

end Sys2Proof.Machine
end

section
/-! Late results and Reconcile (O31): the sale of a LOST entry with its owed documents, or the release of what it holds. -/

namespace Sys2Proof.Machine

/-! ## The sale of a LOST entry (R103) -/

/-- R146: documents owed, whether the list has room for them or not. -/
theorem State.owe_eq (s : State) (x : OwedEntry) : s.owe x = ({ s with print := { s.print with
    owed := s.print.owed ++ if decide (s.print.owed.length < 64) then [x] else [] } } : State).raise .owedAdded
      (x.content (!decide (s.print.owed.length < 64))) := by
  by_cases hroom : s.print.owed.length < 64
  · rw [State.owe_room hroom, decide_eq_true hroom]
    rfl
  · rw [State.owe_full (not_lt.1 hroom), decide_eq_false hroom, if_neg Bool.false_ne_true, List.append_nil]
    rfl

section

variable (s : State) (e : AuthEntry) (code : Bytes) (source : Nat)

/-- The owed entry of a late sale. -/
def State.lateOwed : OwedEntry :=
  { sale := s.relay.saleNumber, origin := e.origin, reason := .late, docs := s.entryDocs e code }

/-- The sale complete, its entry off the list and its documents owed where there is room. -/
def State.lateSold : State :=
  { (s.entrySale e code).1 with
    relay := { (s.entrySale e code).1.relay with entries := s.relay.entries.eraseP (fun f => decide (f.tag = e.tag)) }
    print := { s.print with
      owed := s.print.owed ++ if decide (s.print.owed.length < 64) then [s.lateOwed e code] else [] } }

theorem State.lateSold_frame : s.lateSold e code = { s with
    seats := (s.entrySale e code).1.seats
    relay := { s.relay with
      entries := s.relay.entries.eraseP (fun f => decide (f.tag = e.tag)), saleCounter := nextSale s.relay.saleNumber }
    vouchers := (s.entrySale e code).1.vouchers
    print := (s.lateSold e code).print
    control := { s.control with
      notices := (s.entrySale e code).1.control.notices, noticesLost := (s.entrySale e code).1.control.noticesLost } } := by
  unfold State.lateSold State.entrySale
  rw [State.completeSale_frame]

/-- R103: the sale, then OWED_ADDED and LATE_RESULT. -/
theorem State.approveLate_eq : (s.approveLate e code source).1
    = ((s.lateSold e code).raise .owedAdded ((s.lateOwed e code).content (!decide (s.print.owed.length < 64)))).raise .lateResult
        (u16 e.tag ++ u8 e.origin.val ++ u8 1 ++ u32 s.relay.saleNumber ++ u8 source) := by
  have hprint : (s.completeSale e.sale code).1.print = s.print := by rw [State.completeSale_frame]
  have hentries : (s.completeSale e.sale code).1.relay.entries = s.relay.entries := by rw [State.completeSale_frame]
  have hdocs : ((s.completeSale e.sale code).1.dropEntry e.tag).saleDocs e.sale (s.completeSale e.sale code).2.1
      (s.completeSale e.sale code).2.2 = s.entryDocs e code :=
    State.saleDocs_congr (s := (s.completeSale e.sale code).1) (t := (s.completeSale e.sale code).1.dropEntry e.tag) rfl rfl _ _ _
  unfold State.approveLate
  dsimp only
  rw [hdocs, State.owe_eq, State.dropEntry_print, hprint, State.dropEntry, hentries]
  rfl

/-- R103: what the sale of a LOST entry can change. -/
theorem State.approveLate_frame : (s.approveLate e code source).1 = { s with
    seats := (s.entrySale e code).1.seats
    relay := { s.relay with
      entries := s.relay.entries.eraseP (fun f => decide (f.tag = e.tag)), saleCounter := nextSale s.relay.saleNumber }
    vouchers := (s.entrySale e code).1.vouchers
    print := (s.lateSold e code).print
    control := { s.control with
      notices := (s.approveLate e code source).1.control.notices
      noticesLost := (s.approveLate e code source).1.control.noticesLost } } := by
  rw [State.approveLate_eq, State.raise_frame, State.raise_frame, State.lateSold_frame]

/-! ## The release of a LOST entry (R104) -/

/-- The entry off the list and its seats, claims and slots given back. -/
def State.lateReleased : State :=
  ((s.entryGives e SeatState.givenUp Slot.unclaim).freeReservation e.reservation).dropEntry e.tag

theorem State.lateReleased_frame : s.lateReleased e = { s with
    seats := { s.seats with shows := (s.lateReleased e).seats.shows, pool := (s.lateReleased e).seats.pool }
    relay := { s.relay with entries := s.relay.entries.eraseP (fun f => decide (f.tag = e.tag)) }
    vouchers := { s.vouchers with
      slots := (s.lateReleased e).vouchers.slots, reservation := s.vouchers.reservation - e.reservation } } := by
  unfold State.lateReleased
  rw [State.entryGives_frame]
  rfl

/-- R104: the release, then LATE_RESULT and Low Armed. -/
theorem State.releaseLate_eq : s.releaseLate e source
    = ((s.lateReleased e).raise .lateResult (u16 e.tag ++ u8 e.origin.val ++ u8 2 ++ u32 0 ++ u8 source)).checkLow := rfl

theorem State.releaseLate_seats : (s.releaseLate e source).seats = (s.lateReleased e).seats := by
  rw [State.releaseLate_eq, State.checkLow_frame, State.raise_seats]

theorem State.releaseLate_vouchers : (s.releaseLate e source).vouchers
    = { (s.lateReleased e).vouchers with lowArmed := decide (64 ≤ (s.releaseLate e source).vouchers.available) } := by
  rw [State.releaseLate_eq, State.checkLow_frame, State.raise_vouchers]
  rfl

theorem State.releaseLate_control : s.controlKept (s.releaseLate e source) := by
  rw [State.releaseLate_eq, State.checkLow_frame, State.raise_frame, State.lateReleased_frame]
  rfl

theorem State.releaseLate_uplink : s.uplinkKept (s.releaseLate e source) := by
  rw [State.releaseLate_eq, State.checkLow_frame, State.raise_frame, State.lateReleased_frame]
  rfl

theorem State.releaseLate_seatsBecome :
    s.SeatsBecome (s.releaseLate e source) e.handle.index (e.seatLines.map (·.seat)) SeatState.givenUp :=
  (s.entryGives_seatsBecome e (f := Slot.unclaim) SeatState.givenUp_givenUp).congr rfl (s.releaseLate_seats e source)

theorem State.releaseLate_slotsBecome : s.SlotsBecome (s.releaseLate e source) e.claims Slot.unclaim :=
  (s.entryGives_slotsBecome e (g := SeatState.givenUp) Slot.unclaim_unclaim).congr rfl rfl
    (congrArg (·.slots) (s.releaseLate_vouchers e source)) (congrArg (·.index) (s.releaseLate_vouchers e source))

end

/-! ## Reconcile (R105) -/

theorem readReconcile_sold {tag : Nat} {code : Bytes} (htag : tag < 65536) (hlen : code.length ≤ 8) (hcode : printable code = true) :
    readReconcile (u16 tag ++ u8 1 ++ text code) = some (tag, some code) := by
  rw [readReconcile, List.append_assoc]
  simp [readText_text_end code (by omega), (goodCode_iff code).2 ⟨hlen, hcode⟩, Nat.mod_eq_of_lt htag]

theorem readReconcile_release {tag : Nat} (htag : tag < 65536) : readReconcile (u16 tag ++ u8 2) = some (tag, none) := by
  simp [readReconcile, Nat.mod_eq_of_lt htag]

section

variable {s : State} {e : AuthEntry} {code : Bytes} (htag : e.tag < 65536) (he : s.entryTagged e.tag = some e)
  (hlost : e.state = .lost)

include htag he hlost

theorem reconcile_sold (hlen : code.length ≤ 8) (hcode : printable code = true) :
    reconcile (u16 e.tag ++ u8 1 ++ text code) s = ((s.approveLate e code 2).1, .ok, u32 s.relay.saleNumber) := by
  unfold reconcile
  rw [readReconcile_sold htag hlen hcode]
  dsimp only
  rw [he]
  dsimp only
  rw [if_neg (not_not.2 hlost)]
  rfl

theorem reconcile_release : reconcile (u16 e.tag ++ u8 2) s
    = (s.releaseLate e 2, .ok, u8 e.seatLines.length ++ u8 e.claims.length) := by
  unfold reconcile
  rw [readReconcile_release htag]
  dsimp only
  rw [he]
  dsimp only
  rw [if_neg (not_not.2 hlost)]

end

/-! ## Responses of no layout (R95) -/

theorem AuthOutcome.ofByte_mem {r : Byte} {o : AuthOutcome} (h : AuthOutcome.ofByte r = some o) : r ∈ [0x50, 0x51, 0x52] := by
  unfold AuthOutcome.ofByte at h
  split at h
  · rename_i hr; rw [hr]; decide
  · split at h
    · rename_i hr; rw [hr]; decide
    · split at h
      · rename_i hr; rw [hr]; decide
      · exact absurd h (by simp)

/-- A response that is read is of the layout: its length, its result and its approval code. -/
theorem layout_of_readAuthResponse {payload : Bytes} {x : Nat × AuthOutcome × Bytes} (h : readAuthResponse payload = some x) :
    payload.length = 4 + (payload.getD 3 0).toNat ∧ payload.getD 2 0 ∈ [0x50, 0x51, 0x52] ∧ (payload.getD 3 0).toNat ≤ 8
      ∧ ∀ c ∈ payload.drop 4, 0x20 ≤ c.toNat ∧ c.toNat ≤ 0x7E := by
  have hlong : ¬ payload.length < 4 := fun hshort => by
    rw [readAuthResponse_short hshort] at h
    exact absurd h (by simp)
  match payload, hlong with
  | [], hlong | [_], hlong | [_, _], hlong | [_, _, _], hlong => exact absurd (by simp) hlong
  | a :: b :: r :: n :: cs, _ =>
    rw [readAuthResponse_cons] at h
    obtain ⟨o, ho, hform⟩ := Option.bind_eq_some_iff.1 h
    obtain ⟨⟨hcount, hgood⟩, -⟩ := Option.ite_none_right_eq_some.1 hform
    obtain ⟨hlen, hcode⟩ := (goodCode_iff cs).1 hgood
    have hlength : (a :: b :: r :: n :: cs).length = 4 + n.toNat := by simp only [List.length_cons]; omega
    exact ⟨hlength, AuthOutcome.ofByte_mem ho, hcount ▸ hlen, (printable_iff cs).1 hcode⟩

/-- Settles O31: the late results and Reconcile by their lemmas above, and the strays by what a response of the layout is. -/
theorem lateResultsSettleLostEntries : Obligations.LateResultsSettleLostEntries := by
  unfold Obligations.LateResultsSettleLostEntries
  intro e code s htag hlen hcode n r docs room sold released
  have hsold : ∀ source, sold source (s.approveLate e code source).1 := fun source => by
    have hframe := s.approveLate_frame e code source
    have heq := s.approveLate_eq e code source
    generalize (s.approveLate e code source).1 = t at hframe heq
    have hcontrol := congrArg State.control hframe
    have hprint := congrArg State.print hframe
    have huplink := congrArg State.uplink hframe
    have hseats : s.seatsSold t e.handle.index n e.seatLines :=
      (s.completeSale_seatsSold e.sale code).congr rfl (by rw [hframe]; rfl)
    have hreservation : t.vouchers.reservation = s.vouchers.reservation - e.reservation :=
      (congrArg (fun t : State => t.vouchers.reservation) hframe).trans (s.completeSale_reservation e.sale code)
    have hkept : s.printKept t := by
      rw [State.printKept, hprint]
      rfl
    refine ⟨heq, rfl, s.completeSale_length e.sale code, s.entryDocs_length e code, hseats, hkept, hcontrol, huplink,
      hreservation, ?_⟩
    rw [hprint, huplink, hcontrol]
    exact hframe
  have hreleased : ∀ fault source, released fault source ((s.faulted fault).releaseLate e source) := fun fault source => by
    have hseats : s.SeatsBecome ((s.faulted fault).releaseLate e source) e.handle.index (e.seatLines.map (·.seat))
        SeatState.givenUp :=
      ((s.faulted fault).releaseLate_seatsBecome e source).congr rfl rfl
    have hslots : s.SlotsBecome ((s.faulted fault).releaseLate e source) e.claims Slot.unclaim :=
      ((s.faulted fault).releaseLate_slotsBecome e source).congr rfl rfl rfl rfl
    have hvouchers := (s.faulted fault).releaseLate_vouchers e source
    refine ⟨⟨hseats.seats, hseats.pool, hseats.shows⟩, hslots.slots, hslots.kept, (s.faulted fault).releaseLate_control e source,
      (s.faulted fault).releaseLate_uplink e source, congrArg (·.lowArmed) hvouchers, ?_⟩
    rw [State.releaseLate_seats, congrArg VoucherTable.slots hvouchers]
    refine ((s.faulted fault).releaseLate_eq e source).trans (congrArg (fun u : State => (u.raise _ _).checkLow) ?_)
    rw [State.lateReleased_frame]
    rfl
  have hresolve : s.entryTagged e.tag = some e → s.takesUplink = true → ∀ (r : Byte) o, AuthOutcome.ofByte r = some o →
      exec (.authResponse (u16 e.tag ++ [r] ++ text code)) s = .next (s.resolve e o code) :=
    fun he htakes _ _ ho => exec_authResponse_resolve htag hlen hcode htakes he ho
  refine ⟨fun he hlost => ⟨fun htakes => ⟨⟨_, ?_, hsold 1⟩, ⟨_, ?_, hreleased false 1⟩, ⟨_, ?_, hreleased true 1⟩⟩,
      fun tag htakes => ⟨?_, ?_⟩⟩,
    fun r htakes hnone => exec_authResponse_unlisted htag hlen hcode htakes hnone r,
    fun payload => ⟨fun htakes => exec_authResponse_discarded payload htakes, fun htakes hbad => ?_⟩⟩
  · exact (hresolve he htakes _ _ rfl).trans (congrArg Host.Outcome.next (s.resolve_approveLate code hlost))
  · exact (hresolve he htakes _ _ (AuthOutcome.ofByte_unpaid false)).trans
      (congrArg Host.Outcome.next (s.resolve_releaseLate code hlost false))
  · exact (hresolve he htakes _ _ (AuthOutcome.ofByte_unpaid true)).trans
      (congrArg Host.Outcome.next (s.resolve_releaseLate code hlost true))
  · refine ⟨_, congrArg Host.Outcome.next (State.manage_eq htakes tag _ (reconcile_sold htag he hlost hlen hcode) ?_), _,
      hsold 2, rfl⟩
    rw [State.approveLate_frame]
    exact State.restartPending_of_takes htakes
  · have hcontrol := s.releaseLate_control e 2
    refine ⟨_, congrArg Host.Outcome.next (State.manage_eq htakes tag _ (reconcile_release htag he hlost) ?_), _, ?_, rfl⟩
    · exact (congrArg (·.restartPending) hcontrol).trans (State.restartPending_of_takes htakes)
    · have hfalse := hreleased false 2
      rwa [State.faulted_false] at hfalse
  · refine exec_authResponse_malformed htakes (Option.eq_none_iff_forall_ne_some.2 fun x hread => ?_)
    obtain ⟨hlength, hresult, hcount, hchars⟩ := layout_of_readAuthResponse hread
    rcases hbad with hshort | hother | hstrange | hlong | ⟨c, hc, hlow | hhigh⟩
    · omega
    · exact hother hlength
    · exact hstrange hresult
    · exact absurd hcount (not_le.2 hlong)
    · exact absurd (hchars c hc).1 (not_le.2 hlow)
    · exact absurd (hchars c hc).2 (not_le.2 hhigh)

end Sys2Proof.Machine
end

section
/-! REDEEM, Issue Credit, Void Voucher and Day Roll on the bytes that carry them (O33 to O35): what each comes to, and the slots and
pairs it leaves. -/

namespace Sys2Proof.Machine

/-! ## REDEEM (R119 to R121) -/

theorem State.counterCheck_goodFrame {s : State} {p : PortNo} (hfoyer : s.control.foyer ≠ .unconfigured)
    (hrole : (s.port p).role = .counter) : (s.goodFrame p).counterCheck p = none := by
  rw [State.counterCheck, State.goodFrame_control, if_neg hfoyer, State.role_goodFrame, if_neg (not_not.2 hrole)]

/-- A good frame and a slot's change go either way round. -/
theorem State.goodFrame_changeSlot (s : State) (p : PortNo) (serial : Nat) (f : Slot → Slot) :
    (s.goodFrame p).changeSlot serial f = (s.changeSlot serial f).goodFrame p := by
  have hport : (s.changeSlot serial f).port p = s.port p := by rw [State.changeSlot_frame]; rfl
  rw [State.goodFrame, State.changeSlot_setPort, State.goodFrame, hport]

section
variable {s : State} {p : PortNo} {serial : Nat} (hears : s.hears p = true) (hfoyer : s.control.foyer ≠ .unconfigured)
  (hrole : (s.port p).role = .counter) (hlow : 1 ≤ serial) (hhigh : serial < 16777216) (tag : Byte)
include hears hfoyer hrole hlow hhigh

/-- R119: a serial that fails a test is refused by it. -/
theorem exec_redeem_refused {r : Result} {content : Bytes} (htest : s.testVoucher true serial = .inl (r, content)) :
    exec (.redeem p tag (u24 serial)) s = .next (s.answered .redeem p tag r (u24 serial ++ content)) := by
  have htest' : (s.goodFrame p).testVoucher true serial = .inl (r, content) := htest
  refine congrArg Host.Outcome.next (State.request_refused hears .redeem tag _ r _ ?_)
  rw [redeem, State.counterCheck_goodFrame hfoyer hrole, readSerial_bytes hlow hhigh]
  dsimp only
  rw [htest']
  rfl

/-- R121: a serial that passes the tests has its slot stamped. -/
theorem exec_redeem_stamps {v : Voucher} (htest : s.testVoucher true serial = .inr v) :
    exec (.redeem p tag (u24 serial)) s = .next
      ((s.changeSlot serial (Slot.redeem p s.control.day s.control.seconds)).answered .redeem p tag .ok
        (u24 serial ++ s.redeemContent v)) := by
  have htest' : (s.goodFrame p).testVoucher true serial = .inr v := htest
  refine congrArg Host.Outcome.next (State.request_accepted hears .redeem tag _ .ok _ ?_)
  rw [redeem, State.counterCheck_goodFrame hfoyer hrole, readSerial_bytes hlow hhigh]
  dsimp only
  rw [htest', ← State.goodFrame_changeSlot]
  rfl

end

/-- Settles O33: each state of the serial's slot decides the tests of R119, and the voucher that passes them has its slot alone
changed. -/
theorem redeemStampsTheVoucher : Obligations.RedeemStampsTheVoucher := by
  unfold Obligations.RedeemStampsTheVoucher
  intro p tag serial s hears hfoyer hrole hlow hhigh refused
  have hrefused : ∀ {r content}, s.testVoucher true serial = .inl (r, content) → refused r content :=
    exec_redeem_refused hears hfoyer hrole hlow hhigh tag
  refine ⟨fun hnone => hrefused ?unknown, fun n hindex => ?_⟩
  case unknown => rw [State.testVoucher, State.slotOf, hnone, Option.map_none]
  have hslotOf : ∀ {x}, s.slotAt n = x → s.slotOf serial = some (n, x) := fun hx => State.slotOf_eq_some.2 ⟨hindex, hx⟩
  refine ⟨fun v q day time hx => hrefused ?redeemed, fun v day hx => hrefused ?voided, fun v o hx => hrefused ?claimed,
    fun v value hx hkind => hrefused ?credit, fun v c hx hkind hday => hrefused ?late, fun v c hx hkind hday => ?good⟩
  case redeemed | voided | claimed => rw [State.testVoucher, hslotOf hx]
  case credit => simp only [State.testVoucher, hslotOf hx, hkind]
  case late => simp only [State.testVoucher, hslotOf hx, hkind, if_pos hday]
  case good =>
    have htest : s.testVoucher true serial = .inr v := by
      simp only [State.testVoucher, hslotOf hx, hkind, if_neg (not_lt.2 hday)]
    have hat := fun m => s.slotAt_changeSlot serial m (Slot.redeem p s.control.day s.control.seconds)
    have hframe := s.changeSlot_frame serial (Slot.redeem p s.control.day s.control.seconds)
    have hcontent : s.redeemContent v = u8 c.val ++ u32 v.issuingSale ++ text (s.prices.live.combos[c]).name := by
      rw [State.redeemContent, hkind]
    refine ⟨_, exec_redeem_stamps hears hfoyer hrole hlow hhigh tag htest, ?_, fun m hm => ?_, ?_⟩
    · exact (hat n).trans (by rw [if_pos hindex, hx]; rfl)
    · exact (hat m).trans (if_neg fun h => hm (Option.some.inj (h.symm.trans hindex)))
    · rw [hcontent]
      simp only [List.append_assoc]
      exact congrArg (fun t : State => t.answered .redeem p tag .ok _) hframe

/-! ## Low Armed (R126) -/

/-- R126: the notice is raised when Available is left below 64 while Low Armed is set; the flag follows Available. -/
theorem State.checkLow_eq (s : State) : s.checkLow =
    if s.vouchers.available < 64 ∧ s.vouchers.lowArmed = true then
      ({ s with vouchers := { s.vouchers with lowArmed := false } } : State).raise .voucherLow
        (u16 s.vouchers.available ++ u16 s.vouchers.freeSlots ++ u16 s.vouchers.reservation)
    else { s with vouchers := { s.vouchers with lowArmed := decide (64 ≤ s.vouchers.available) } } := by
  unfold State.checkLow
  by_cases hlow : s.vouchers.available < 64
  · by_cases harmed : s.vouchers.lowArmed = true
    · simp [hlow, harmed]
    · have hflag : decide (64 ≤ s.vouchers.available) = s.vouchers.lowArmed := by
        rw [decide_eq_false (not_le.2 hlow), Bool.eq_false_iff.2 harmed]
      rw [if_neg (c := _ ∧ _) fun h => harmed h.2, hflag]
      dsimp only
      rw [if_pos hlow, if_neg harmed]
  · simp [hlow, not_lt.1 hlow]

/-- What following Available raises, on a state of the same Foyer Control and uplink. -/
theorem State.checkLow_control {s u : State} (hc : u.control = s.control) (hu : u.uplink = s.uplink) :
    u.checkLow.control = (if u.checkLow.vouchers.available < 64 ∧ u.vouchers.lowArmed = true then
      s.raise .voucherLow (u16 u.checkLow.vouchers.available ++ u16 u.checkLow.vouchers.freeSlots
        ++ u16 u.checkLow.vouchers.reservation)
      else s).control := by
  have havailable : u.checkLow.vouchers.available = u.vouchers.available := by rw [State.checkLow_vouchers]; rfl
  have hfree : u.checkLow.vouchers.freeSlots = u.vouchers.freeSlots := by rw [State.checkLow_vouchers]; rfl
  have hreservation : u.checkLow.vouchers.reservation = u.vouchers.reservation := by rw [State.checkLow_vouchers]
  rw [havailable, hfree, hreservation, State.checkLow_eq]
  split
  · exact State.raise_control_congr (t := { u with vouchers := { u.vouchers with lowArmed := false } }) hc hu _ _
  · exact hc

/-- Following Available writes Low Armed and Foyer Control alone; each part of the stores reads as it stands after. -/
theorem State.checkLow_parts (s : State) : s.checkLow = { s with
    vouchers := { s.vouchers with
      slots := s.checkLow.vouchers.slots, index := s.checkLow.vouchers.index, lowArmed := s.checkLow.vouchers.lowArmed }
    control := s.checkLow.control } := by
  conv_lhs => rw [State.checkLow_frame]
  conv_rhs => rw [State.checkLow_frame]

theorem State.checkLow_controlKept (s : State) : s.controlKept s.checkLow := by
  rw [State.controlKept, State.checkLow_frame]

theorem State.checkLow_restartPending (s : State) : s.checkLow.control.restartPending = s.control.restartPending := by
  rw [s.checkLow_controlKept]

/-- R126: Low Armed tells whether Available stands at 64 or more. -/
theorem State.checkLow_lowArmed (s : State) :
    s.checkLow.vouchers.lowArmed = decide (64 ≤ s.checkLow.vouchers.available) := by
  rw [State.checkLow_vouchers]
  rfl

theorem State.slotAt_checkLow (s : State) (n : Nat) : s.checkLow.slotAt n = s.slotAt n := by
  rw [State.slotAt, State.checkLow_vouchers]
  rfl

theorem State.indexed_checkLow (s : State) (k : Nat) : s.checkLow.indexed k = s.indexed k := by
  rw [State.indexed, State.checkLow_vouchers]
  rfl

/-! ## Issue Credit (R114, R115, R122) -/

theorem VoucherTable.used_of_available {v : VoucherTable} (h : 1 ≤ v.available) : v.used < 4096 := by
  unfold VoucherTable.available VoucherTable.freeSlots at h
  omega

/-- The slot taken is the lowest FREE one, whatever the form of the slots' list. -/
theorem State.takenSlot_lowest {s : State} (hroom : s.vouchers.used < 4096) :
    s.takenSlot < 4096 ∧ s.slotAt s.takenSlot = .free ∧ ∀ m < s.takenSlot, s.slotAt m ≠ .free := by
  have hsucc : ∀ d, (· + 1)^[d] 0 = d := fun d => by rw [Nat.succ_iterate, Nat.zero_add]
  have hlisted : ∀ k, s.slotAt k ≠ .free → k ∈ (s.vouchers.slots.filter fun c => decide (c.2 ≠ .free)).map Prod.fst :=
    fun k hk => List.mem_map.2 ⟨_, List.mem_filter.2 ⟨Sparse.listed_of_get_ne hk, decide_eq_true hk⟩, rfl⟩
  obtain ⟨d, hd, heq, hbefore, hclear⟩ := firstClear_clear (next := (· + 1)) (taken := fun k => decide (s.slotAt k ≠ .free))
    (fuel := 4096) (n := 0) (fun k hk => hlisted k (of_decide_eq_true hk)) (by rw [List.length_map]; exact hroom)
    (fun i _ j _ heq => by simpa [hsucc] using heq)
  have htaken : s.takenSlot = d := by rw [State.takenSlot, State.lowestFree_eq, heq, hsucc]
  rw [htaken]
  exact ⟨hd, by simpa [hsucc] using hclear, fun m hm => by simpa [hsucc] using hbefore m hm⟩

/-- R115: the serial drawn is the first candidate from the counter on that is in no pair. -/
theorem State.drawn_first {s : State} (hpairs : s.vouchers.index.length ≤ 4096) (hcounter : s.vouchers.serialCounter ≤ 16777215) :
    s.indexed s.drawn = none ∧ ∃ d, s.drawn = candidate (drawStart s.vouchers.serialCounter [] 0) d
      ∧ ∀ e < d, s.indexed (candidate (drawStart s.vouchers.serialCounter [] 0) e) ≠ none := by
  have hdrawn : s.drawn = firstClear (wrapNext 16777215) (fun k => (s.indexed k).isSome) (s.vouchers.index.length + 1)
      (drawStart s.vouchers.serialCounter [] 0) := s.freeSerial_eq _ _
  have hrange : 1 ≤ drawStart s.vouchers.serialCounter [] 0 ∧ drawStart s.vouchers.serialCounter [] 0 ≤ 16777215 := by
    simp only [drawStart]
    split <;> omega
  generalize drawStart s.vouchers.serialCounter [] 0 = start at hdrawn hrange ⊢
  have hlisted : ∀ k, (s.indexed k).isSome = true → k ∈ s.vouchers.index.map Prod.fst :=
    fun k hk => List.mem_map.2 ⟨_, Sparse.listed_of_get_ne (Option.isSome_iff_ne_none.1 hk), rfl⟩
  obtain ⟨d, -, heq, hbefore, hclear⟩ := firstClear_clear (next := wrapNext 16777215)
    (fuel := s.vouchers.index.length + 1) (n := start) hlisted (by simp)
    (fun i hi j hj heq => wrapNext_injective start (by omega) (by omega) heq)
  have hiter : ∀ i, (wrapNext 16777215)^[i] start = candidate start i := wrapNext_iterate hrange.1 hrange.2
  rw [heq] at hdrawn
  refine ⟨?_, d, hdrawn.trans (hiter d), fun e he => ?_⟩
  · rw [hdrawn]
    simpa using hclear
  · rw [← hiter e]
    exact Option.isSome_iff_ne_none.1 (hbefore e he)

theorem candidate_range (start d : Nat) : 1 ≤ candidate start d ∧ candidate start d ≤ 16777215 := by
  unfold candidate
  omega

theorem issueCredit_eq {s : State} {value day : Nat} (hvalue : 1 ≤ value) (hvalue' : value ≤ 65535) (hday : day < 65536)
    (hloaded : s.vouchers.serialLoaded = true) (havailable : 1 ≤ s.vouchers.available) :
    issueCredit (u24 value ++ u16 day) s =
      ((s.issue (.credit value) 0 day).1.checkLow, .ok, u24 s.drawn ++ u24 value ++ u16 day) := by
  have hread : readIssueCredit (u24 value ++ u16 day) = some (value, day) := by
    simp [readIssueCredit, Nat.mod_eq_of_lt hday, Nat.mod_eq_of_lt (show value < 16777216 by omega)]
  rw [issueCredit, hread]
  dsimp only
  rw [if_neg (by omega), if_neg (by simp [hloaded]), if_neg (not_lt.2 havailable), State.issue_eq]

/-! ## Void Voucher (R123) -/

section
variable {s : State} {serial : Nat} (hlow : 1 ≤ serial) (hhigh : serial < 16777216)
include hlow hhigh

theorem voidVoucher_issued {n : Nat} {v : Voucher} (hslot : s.slotOf serial = some (n, .issued v)) :
    voidVoucher (u24 serial) s = (s.setSlot n (.void v s.control.day), .ok, u24 serial ++ u8 v.kind.code) := by
  rw [voidVoucher, readSerial_bytes hlow hhigh]
  dsimp only
  rw [hslot]

theorem voidVoucher_claimed {n : Nat} {v : Voucher} {o : ClaimOwner} (hslot : s.slotOf serial = some (n, .claimed v o)) :
    voidVoucher (u24 serial) s = (s, .inUse, []) := by
  rw [voidVoucher, readSerial_bytes hlow hhigh]
  dsimp only
  rw [hslot]
  rfl

theorem voidVoucher_unknown (hnone : s.indexed serial = none) : voidVoucher (u24 serial) s = (s, .notFound, []) := by
  rw [voidVoucher, readSerial_bytes hlow hhigh]
  dsimp only
  rw [State.slotOf, hnone]
  rfl

end

/-- Settles O34: the two searches give the slot and the serial, and Low Armed follows what the issue leaves. -/
theorem vouchersIssuedAndVoided : Obligations.VouchersIssuedAndVoided := by
  unfold Obligations.VouchersIssuedAndVoided
  intro tag s
  refine ⟨fun value day htakes hvalue hvalue' hday hloaded havailable hpairs hcounter => ?issue,
    fun serial n htakes hlow hhigh => ⟨fun v hslot => ?void, fun v o hslot => ?claimed, fun hnone => ?unknown⟩, s.checkLow_eq⟩
  case issue =>
    obtain ⟨hslot, hfree, hlowest⟩ := State.takenSlot_lowest (VoucherTable.used_of_available havailable)
    obtain ⟨hfresh, hfirst⟩ := State.drawn_first hpairs hcounter
    have hrange : 1 ≤ s.drawn ∧ s.drawn ≤ 16777215 := by
      obtain ⟨d, hd, -⟩ := hfirst
      rw [hd]
      exact candidate_range _ d
    have hslots := s.slotAt_issue (.credit value) 0 day
    have hindex := s.indexed_issue (.credit value) 0 day
    have hat := (s.issue (.credit value) 0 day).1.slotAt_checkLow
    have hpair := (s.issue (.credit value) 0 day).1.indexed_checkLow
    have hclear : (s.issue (.credit value) 0 day).1.checkLow.control.restartPending = false :=
      (State.checkLow_restartPending _).trans (State.restartPending_of_takes htakes)
    refine ⟨_, runCommand_replies (c := .issueCredit) htakes
      (issueCredit_eq hvalue hvalue' hday hloaded havailable) hclear, s.drawn, s.takenSlot, hrange.1, hrange.2, hfresh,
      hfirst, hslot, hfree, hlowest, ?_, fun m hm => ?_, fun k hk => ?_, State.checkLow_lowArmed _, ?_, ?_⟩
    · exact State.slotOf_eq_some.2 ⟨(hpair _).trans (by rw [hindex, if_pos rfl]), (hat _).trans (by rw [hslots, if_pos rfl])⟩
    · exact (hat m).trans (by rw [hslots, if_neg hm])
    · exact (hpair k).trans (by rw [hindex, if_neg hk])
    · exact State.checkLow_control rfl rfl
    · exact congrArg (fun t : State => t.replied .issueCredit tag .ok _) (State.checkLow_parts _)
  case void =>
    have hslots := fun m => s.slotAt_setSlot n m (.void v s.control.day)
    refine ⟨_, runCommand_replies (c := .voidVoucher) (t := s.setSlot n (.void v s.control.day)) htakes
      (voidVoucher_issued hlow hhigh hslot) (State.restartPending_of_takes htakes), ?_, fun m hm => ?_, rfl⟩
    · exact (hslots n).trans (if_pos rfl)
    · exact (hslots m).trans (if_neg hm)
  case claimed => exact runCommand_reads (c := .voidVoucher) htakes (voidVoucher_claimed hlow hhigh hslot)
  case unknown => exact runCommand_reads (c := .voidVoucher) htakes (voidVoucher_unknown hlow hhigh hnone)

/-! ## Day Roll (R125, R196) -/

/-- R125: a slot freed by a new day is FREE, and no other slot changes. -/
theorem State.slotAt_reclaim {s : State} (h : Sparse.wf freeSlot s.vouchers.slots = true) (day : Nat) (c : FoyerControl) (n : Nat) :
    ({ s with control := c, vouchers := s.vouchers.reclaim day } : State).slotAt n =
      if (s.slotAt n).spent day then .free else s.slotAt n := by
  rw [State.slotAt, VoucherTable.reclaim, Sparse.get_filter h]
  show (if !(s.slotAt n).spent day then s.slotAt n else .free) = _
  cases (s.slotAt n).spent day <;> rfl

/-- R125: the serial of a slot freed by a new day is in no pair, and every other pair stays. -/
theorem State.indexed_reclaim {s : State} (h : Sparse.wf noSlot s.vouchers.index = true) (day : Nat) (c : FoyerControl) (k : Nat) :
    ({ s with control := c, vouchers := s.vouchers.reclaim day } : State).indexed k =
      (s.indexed k).filter fun n => !(s.slotAt n).spent day := by
  rw [State.indexed, VoucherTable.reclaim, Sparse.get_filter h, State.indexed]
  cases Sparse.get noSlot s.vouchers.index k with
  | none => rfl
  | some n =>
    rw [Option.filter_some]
    rfl

theorem dayRoll_eq {day : Nat} (hday : day < 65536) (s : State) : dayRoll (u16 day) s =
    if day ≤ s.control.day then (s, .badArg, []) else (s.rollDay day, .ok, u16 day ++ u16 (s.vouchers.spentCount day)) := by
  have hread : readDay (u16 day) = some day := by simp [readDay, Nat.mod_eq_of_lt hday]
  rw [dayRoll, hread]
  rfl

/-- Settles O35: the slots and the index are filtered by the same test, on stores in canonical form. -/
theorem dayRollReclaimsSlots : Obligations.DayRollReclaimsSlots := by
  unfold Obligations.DayRollReclaimsSlots
  intro tag day s htakes hday hcanonical
  refine ⟨fun hearly => ?early, fun hlate => ?late⟩
  case early => exact runCommand_reads (c := .dayRoll) htakes ((dayRoll_eq hday s).trans (if_pos hearly))
  case late =>
    intro freed
    have hfreed : freed = Slot.spent day := by
      funext x
      cases x <;> rfl
    have hbody := (dayRoll_eq hday s).trans (if_neg (not_le.2 hlate))
    have hclear : (s.rollDay day).control.restartPending = false :=
      (State.checkLow_restartPending _).trans (State.restartPending_of_takes htakes)
    rw [hfreed]
    refine ⟨_, runCommand_replies (c := .dayRoll) htakes hbody hclear, fun n => ?_, fun serial => ?_, ?_,
      State.checkLow_lowArmed _, ?_, ?_⟩
    · exact (State.slotAt_checkLow _ n).trans (State.slotAt_reclaim hcanonical.slots day _ n)
    · refine ((State.indexed_checkLow _ serial).trans (State.indexed_reclaim hcanonical.index day _ serial)).trans ?_
      rw [State.slotOf]
      cases s.indexed serial with
      | none => rfl
      | some n => cases hspent : (s.slotAt n).spent day <;> simp [hspent]
    · exact congrArg (·.day) (State.checkLow_controlKept _)
    · exact State.checkLow_controlKept _
    · exact congrArg (fun t : State => t.replied .dayRoll tag .ok _) (State.checkLow_parts _)

end Sys2Proof.Machine
end

section
/-! Rendering and frames (O40, O41): what a body renders to, the digits of a number, the values of the fields, and the PRINT_DATA
frames that carry a rendered document (R136 to R139, R152). -/

namespace Sys2Proof.Machine

/-! ## Bodies (R136, R138) -/

/-- R136: a byte that is no escape is copied. -/
theorem renderBody_copied (f : Nat → Bytes) {b : Byte} (hb : b ≠ 0x1B) (rest : Bytes) :
    renderBody f (b :: rest) = b :: renderBody f rest := by
  cases rest with
  | nil => exact if_neg hb
  | cons c rest => rw [renderBody, if_neg hb]

/-- R136: an escape and the byte after it are replaced together. -/
theorem renderBody_escaped (f : Nat → Bytes) (c : Byte) (rest : Bytes) :
    renderBody f (0x1B :: c :: rest) = renderPair f c ++ renderBody f rest := by
  rw [renderBody, if_pos rfl]

theorem renderBody_of_no_escape (f : Nat → Bytes) {body : Bytes} (h : (0x1B : Byte) ∉ body) : renderBody f body = body := by
  induction body with
  | nil => rfl
  | cons b rest ih =>
    obtain ⟨hb, hrest⟩ := not_or.1 (mt List.mem_cons.2 h)
    rw [renderBody_copied f (Ne.symm hb), ih hrest]

theorem renderPair_field (f : Nat → Bytes) {c : Byte} (hlow : 1 ≤ c.toNat) (hhigh : c.toNat ≤ 20) :
    renderPair f c = (f c.toNat).take 32 := if_pos ⟨hlow, hhigh⟩

theorem renderPair_unknown (f : Nat → Bytes) {c : Byte} (hnumber : c.toNat = 0 ∨ 20 < c.toNat) (hescape : c ≠ 0x1B) :
    renderPair f c = question := by
  rw [renderPair, if_neg (by omega), if_neg hescape]

/-! ## Numbers (R137) -/

/-- Fuel beyond the number adds no digit. -/
theorem decimalFuel_eq {fuel n : Nat} (h : n < fuel) : decimalFuel fuel n = decimal n := by
  induction fuel using Nat.strong_induction_on generalizing n with
  | _ fuel ih =>
    obtain ⟨fuel, rfl⟩ : ∃ k, fuel = k + 1 := ⟨fuel - 1, by omega⟩
    rw [decimal, decimalFuel, decimalFuel]
    by_cases hn : n < 10
    · rw [if_pos hn, if_pos hn]
    · rw [if_neg hn, if_neg hn, ih fuel (Nat.lt_succ_self fuel) (n := n / 10) (by omega)]
      by_cases hlast : n = fuel
      · rw [hlast, ih fuel (Nat.lt_succ_self fuel) (n := fuel / 10) (by omega)]
      · rw [ih n (by omega) (n := n / 10) (by omega)]

/-- The digit character of a number below 10. -/
def digit (d : Nat) : Byte := BitVec.ofNat 8 (48 + d)

theorem digit_toNat {d : Nat} (h : d < 10) : (digit d).toNat = 48 + d := by
  rw [digit, BitVec.toNat_ofNat]
  omega

theorem decimal_of_lt {n : Nat} (h : n < 10) : decimal n = [digit n] := by
  rw [decimal, decimalFuel, if_pos h, Nat.mod_eq_of_lt h, digit, List.nil_append]

theorem decimal_of_ge {n : Nat} (h : 10 ≤ n) : decimal n = decimal (n / 10) ++ [digit (n % 10)] := by
  rw [decimal, decimalFuel, if_neg (not_lt.2 h), decimalFuel_eq (by omega), digit]

/-- A property of every number's digits holds by one digit and by a digit more. -/
theorem decimal_induction {P : Nat → Prop} (one : ∀ n, n < 10 → P n) (more : ∀ n, 10 ≤ n → P (n / 10) → P n) (n : Nat) : P n := by
  induction n using Nat.strong_induction_on with
  | _ n ih =>
    by_cases hn : n < 10
    · exact one n hn
    · exact more n (not_lt.1 hn) (ih (n / 10) (by omega))

theorem decimal_value (n : Nat) : (decimal n).foldl (fun a c => 10 * a + (c.toNat - 48)) 0 = n := by
  induction n using decimal_induction with
  | one n hn => rw [decimal_of_lt hn, List.foldl_cons, List.foldl_nil, digit_toNat hn]; omega
  | more n hn ih =>
    rw [decimal_of_ge hn, List.foldl_append, ih, List.foldl_cons, List.foldl_nil, digit_toNat (Nat.mod_lt n (by omega))]
    omega

theorem decimal_digits (n : Nat) : ∀ c ∈ decimal n, 48 ≤ c.toNat ∧ c.toNat ≤ 57 := by
  have hdigit : ∀ d, d < 10 → 48 ≤ (digit d).toNat ∧ (digit d).toNat ≤ 57 := fun d hd => by rw [digit_toNat hd]; omega
  induction n using decimal_induction with
  | one n hn =>
    rw [decimal_of_lt hn]
    exact List.forall_mem_singleton.2 (hdigit n hn)
  | more n hn ih =>
    rw [decimal_of_ge hn]
    exact List.forall_mem_append.2 ⟨ih, List.forall_mem_singleton.2 (hdigit _ (Nat.mod_lt n (by omega)))⟩

theorem decimal_ne_nil (n : Nat) : decimal n ≠ [] := List.concat_ne_nil _ _

/-- Without leading zeros: only 0 begins with the digit 0. -/
theorem decimal_head (n : Nat) : 0 < n → ∀ rest, decimal n ≠ 0x30 :: rest := by
  induction n using decimal_induction with
  | one n hn =>
    intro hpos rest h
    rw [decimal_of_lt hn] at h
    have hzero := congrArg BitVec.toNat (List.head_eq_of_cons_eq h)
    rw [digit_toNat hn] at hzero
    exact absurd hzero (by simp; omega)
  | more n hn ih =>
    intro _ rest h
    obtain ⟨d, ds, hds⟩ := List.exists_cons_of_ne_nil (decimal_ne_nil (n / 10))
    rw [decimal_of_ge hn, hds, List.cons_append] at h
    exact ih (by omega) ds (hds.trans (by rw [List.head_eq_of_cons_eq h]))

/-! ## Fields (R137, R152) -/

theorem clockText_eq (t : Nat) : clockText t = twoDigits (t / 3600) ++ [0x3A] ++ twoDigits (t % 3600 / 60) := by
  rw [clockText, show t / 60 % 60 = t % 3600 / 60 by omega]

theorem twoDigits_eq {n : Nat} (h : n < 100) : twoDigits n = [digit (n / 10), digit (n % 10)] := by
  rw [twoDigits, Nat.mod_eq_of_lt (show n / 10 < 10 by omega), digit, digit]

/-- Settles O41: the equations of rendering, the digits by induction, and the twenty fields of each kind in turn. -/
theorem renderingReplacesEscapes : Obligations.RenderingReplacesEscapes := by
  unfold Obligations.RenderingReplacesEscapes
  refine ⟨fun f rest => ⟨fun b hb => renderBody_copied f hb rest, fun n hlow hhigh => ?field, ?escape, fun n hn hne => ?unknown,
    rfl, rfl⟩, fun f body => renderBody_of_no_escape f, fun f body => ⟨rfl, List.length_take_le _ _, decide_eq_true_iff⟩,
    fun n => ⟨decimal_value n, decimal_digits n, decimal_head n⟩, fun st k index sale fields => ?fields,
    fun n hn => ⟨n / 10, n % 10, twoDigits_eq hn, by omega, by omega, Nat.div_add_mod n 10⟩, fun kind => ?proofs⟩
  case field => rw [renderBody_escaped, renderPair_field f hlow hhigh]
  case escape => exact renderBody_escaped f 0x1B rest
  case unknown => rw [renderBody_escaped, renderPair_unknown f hn hne]; rfl
  case fields =>
    cases fields with
    | ticket title startDay startTime zone rowLabel seatNumber typeName amount =>
      dsimp only
      rw [← clockText_eq]
      rfl
    | voucher comboName serial expiryDay => rfl
  case proofs => cases kind <;> rfl

/-! ## Frames (R139) -/

/-- Consecutive pieces of equal length put together are what they were cut from. -/
theorem flatMap_pieces {α : Type} (xs : List α) (m n : Nat) :
    (List.range n).flatMap (fun k => (xs.drop (m * k)).take m) = xs.take (m * n) := by
  induction n with
  | zero => rw [Nat.mul_zero, List.take_zero, List.range_zero, List.flatMap_nil]
  | succ n ih => rw [List.range_succ, List.flatMap_append, ih, List.flatMap_singleton, Nat.mul_succ, List.take_add]

section
variable (job doc : Nat) (r : Rendered) (k : Nat)

theorem printFrame_data : (printFrame job doc r k).frame.payload.drop 5 = (r.data.drop (232 * k)).take 232 := rfl

theorem printFrame_length : (printFrame job doc r k).frame.payload.length = 5 + min 232 (r.data.length - 232 * k) := by
  rw [printFrame]
  simp only [List.length_append, List.length_take, List.length_drop, u16_length, u8_length]

theorem printFrame_last : (printFrame job doc r k).last = decide (r.data.length ≤ 232 * (k + 1)) := rfl

end

/-- Settles O40: the pieces of the document, and the frame that ends it. -/
theorem printFramesCarryTheDocument : Obligations.PrintFramesCarryTheDocument := by
  unfold Obligations.PrintFramesCarryTheDocument
  intro job doc r n
  refine ⟨?whole, fun k hk => ?frame⟩
  case whole =>
    simp only [printFrame_data]
    rw [flatMap_pieces, List.take_of_length_le (by omega)]
  case frame =>
    have hlast : r.data.length ≤ 232 * (k + 1) ↔ k + 1 = n := by omega
    refine ⟨(printFrame_last job doc r k).trans (decide_eq_decide.2 hlast), rfl, rfl, ?header, fun hmore => ?full, ?bound⟩
    case full => rw [printFrame_length]; omega
    case bound => rw [printFrame_length]; omega
    case header =>
      refine congrArg (fun m => u16 job ++ u8 doc ++ u8 k ++ u8 m) ?_
      simp only [hlast]
      by_cases h : k + 1 = n
      · cases r.truncated <;> simp [h]
      · simp [h]

end Sys2Proof.Machine
end

section
/-! The reports of a printer and the failure of a job (O36, O37): what each report does in each state of the channel (R140 to R142),
and what a failing job leaves (R143, R144, R146). -/

namespace Sys2Proof.Machine

/-! ## PRINTER_STATUS (R141) -/

theorem exec_printerStatus {s : State} {p : PortNo} (h : s.takesFrames p = true) (tag : Byte) (payload : Bytes) :
    exec (.printerStatus p tag payload) s = .next ((s.goodFrame p).printerStatus p payload) :=
  congrArg Host.Outcome.next (if_neg (by rw [h]; decide))

theorem readPrinterStatus_of_length {payload : Bytes} (h : payload.length ≠ 2) : readPrinterStatus payload = none := by
  match payload, h with
  | [], _ => rfl
  | [_], _ => rfl
  | [_, _], h => exact absurd rfl h
  | _ :: _ :: _ :: _, _ => rfl

theorem readPrinterStatus_unknown {r : Byte} (h : 4 < r.toNat) (i : Byte) : readPrinterStatus [r, i] = none := by
  have hcode : PrinterReport.ofCode r.toNat = none := by
    obtain ⟨k, hk⟩ : ∃ k, r.toNat = k + 5 := ⟨r.toNat - 5, by omega⟩
    rw [hk]
    rfl
  rw [readPrinterStatus, hcode, Option.map_none]

/-- R141: a malformed report, and one from a port that no channel serves, is ignored. -/
theorem State.printerStatus_ignored {s : State} {p : PortNo} {payload : Bytes}
    (h : readPrinterStatus payload = none ∨ s.channelFor p = none) : s.printerStatus p payload = s := by
  unfold State.printerStatus
  split
  · rename_i hread hchannel
    rcases h with h | h
    · rw [h] at hread; cases hread
    · rw [h] at hchannel; cases hchannel
  · rfl

/-- R141: a report goes to the channel that serves the port. -/
theorem State.printerStatus_served {s : State} {p : PortNo} {c : ChannelNo} {j : Job} (hchannel : s.channelFor p = some c)
    (hjob : s.jobOn c = some j) {payload : Bytes} {r : PrinterReport} {i : Nat} (hread : readPrinterStatus payload = some (r, i)) :
    s.printerStatus p payload = s.report c p j r i := by
  simp only [State.printerStatus, hread, hchannel, hjob]

/-! ## The table of reports (R140 to R142) -/

section
variable {s : State} {c : ChannelNo} {p : PortNo} {j : Job} {i : Nat}

/-- R142: READY in PAUSED sends the rendered document again, or fetches it. -/
theorem State.report_ready : s.report c p j .ready i = match (s.channel c).state, (s.channel c).buffer with
    | .paused _, some r => ((s.setChannel c { s.channel c with state := .send, buffer := some r, nextFrame := 0 }).offer c).runArbiter
    | .paused _, none => (s.enterFetch c).runArbiter
    | _, _ => s := by
  unfold State.report State.resend
  cases (s.channel c).state <;> cases (s.channel c).buffer <;> rfl

theorem State.report_busy : s.report c p j .busy i = match (s.channel c).state with
    | .await _ => s.setChannel c { s.channel c with state := .await s.print.printerWait }
    | _ => s := by
  unfold State.report
  cases (s.channel c).state <;> rfl

/-- R142: PAPER_OUT pauses the channel; a document not yet rendered leaves it without one, and a frame offered is released. -/
theorem State.report_paperOut : s.report c p j .paperOut i = match (s.channel c).state with
    | .fetch => s.setChannel c { s.channel c with state := .paused s.print.paperWait, buffer := none }
    | .send => (s.setChannel c { s.channel c with state := .paused s.print.paperWait }).releaseOffer p
    | .await _ => s.setChannel c { s.channel c with state := .paused s.print.paperWait }
    | _ => s := by
  unfold State.report
  cases (s.channel c).state <;> rfl

/-- R141: JAM fails the job of a channel that is not IDLE. -/
theorem State.report_jam (h : (s.channel c).state ≠ .idle) : s.report c p j .jam i = (s.failJob c .jam).runArbiter := by
  unfold State.report
  cases hstate : (s.channel c).state with
  | idle => exact absurd hstate h
  | fetch | send | await w | paused w => rfl

theorem State.report_done_early (h : ∀ w, (s.channel c).state ≠ .await w) : s.report c p j .done i = s := by
  unfold State.report
  cases hstate : (s.channel c).state with
  | await w => exact absurd hstate (h w)
  | idle | fetch | send | paused w => rfl

/-- R140: DONE in AWAIT is taken for the current document alone. -/
theorem State.report_done {w : Nat} {d : Document} (hstate : (s.channel c).state = .await w) (hdoc : j.current = some d) :
    s.report c p j .done i = if d.index = i then (s.documentDone c j).runArbiter else s := by
  unfold State.report
  simp only [hstate, hdoc, Option.map_some, Option.some.injEq]

end

/-- Settles O36: the row of R141's table for each report, on the state that has heard the frame. -/
theorem printerReportsDriveTheChannel : Obligations.PrinterReportsDriveTheChannel := by
  unfold Obligations.PrinterReportsDriveTheChannel
  intro p tag s htakes heard report
  have hignored : ∀ {payload}, readPrinterStatus payload = none ∨ s.channelFor p = none →
      exec (.printerStatus p tag payload) s = .next heard := fun h =>
    (exec_printerStatus htakes tag _).trans (congrArg Host.Outcome.next (State.printerStatus_ignored (s := heard) h))
  refine ⟨fun payload hlen => hignored (.inl (readPrinterStatus_of_length hlen)),
    fun r i hr => hignored (.inl (readPrinterStatus_unknown hr i)), fun r i hnone => hignored (.inr hnone),
    fun c j hchannel hjob => ?_⟩
  intro ch moved
  have hreport : ∀ {r : Byte} {i : Byte} {x : PrinterReport}, PrinterReport.ofCode r.toNat = some x →
      report r i = .next (heard.report c p j x i.toNat) := fun {r i x} hx =>
    (exec_printerStatus htakes tag _).trans (congrArg Host.Outcome.next (State.printerStatus_served (s := heard) hchannel hjob
      (by rw [readPrinterStatus, hx, Option.map_some])))
  have hheard : heard.channel c = ch := rfl
  refine ⟨fun i => ?ready, fun i => ?busy, fun i => ?paperOut, fun i hne => ?jam, fun i hne => ?early,
    fun w hw i d hd => ⟨fun hi => ?other, fun hi hlast => ?last, fun hi hmore => ?next⟩⟩
  case ready =>
    rw [hreport (x := .ready) rfl, State.report_ready, hheard]
    cases ch.state <;> cases ch.buffer <;> rfl
  case busy =>
    rw [hreport (x := .busy) rfl, State.report_busy, hheard]
    cases ch.state <;> rfl
  case paperOut =>
    rw [hreport (x := .paperOut) rfl, State.report_paperOut, hheard]
    cases ch.state <;> rfl
  case jam => exact (hreport (x := .jam) rfl).trans (congrArg Host.Outcome.next (State.report_jam (s := heard) hne))
  case early => exact (hreport (x := .done) rfl).trans (congrArg Host.Outcome.next (State.report_done_early (s := heard) hne))
  all_goals refine (hreport (x := .done) rfl).trans (congrArg Host.Outcome.next ((State.report_done (s := heard) hw hd).trans ?_))
  case other => exact if_neg hi
  case last =>
    rw [if_pos hi, State.documentDone, if_neg (by omega)]
    rfl
  case next =>
    rw [if_pos hi, State.documentDone, if_pos hmore]
    rfl

/-! ## The failure of a job (R144, R146) -/

/-- R201: two notices raised one after the other join a queue with room for both, in that order. -/
theorem State.raise_room_pair {s : State} {k l : NoticeKind} (hall : s.control.enables.all = true)
    (hk : s.control.enables.kind k = true) (hl : s.control.enables.kind l = true) (hlen : s.control.notices.length ≤ 30)
    (x y : Bytes) : ((s.raise k x).raise l y).control = { s.control with notices := s.control.notices ++
      [{ code := k.code, carriesLost := false, day := s.control.day, seconds := s.control.seconds, content := x },
       { code := l.code, carriesLost := false, day := s.control.day, seconds := s.control.seconds, content := y }] } := by
  have hfirst := State.raise_room (s := s) hall hk (by omega) x
  have hsecond := State.raise_room (s := s.raise k x) (k := l) (by rw [hfirst]; exact hall) (by rw [hfirst]; exact hl)
    (by rw [hfirst, List.length_append, List.length_singleton]; omega) y
  rw [hsecond, hfirst, List.append_assoc]
  rfl

/-- What PRINT_FAILED carries. -/
def Document.failure (d : Document) (job sale : Nat) (dest : PortNo) (why : FailReason) (room : Bool) : Bytes :=
  u16 job ++ u32 sale ++ u8 dest.val ++ u8 why.code ++ u8 d.index ++ u8 (if why = .templateBad then d.template.val else 255)
    ++ flag room

section
variable {s : State} {c : ChannelNo} {j : Job} {isReprint : Bool} {sale : Nat} {origin dest : PortNo} {docs : List Document}
  {d : Document} (hjob : s.jobOn c = some j) (hwork : j.work = .print isReprint sale origin dest docs)
  (hdoc : j.current = some d) (why : FailReason)
include hjob hwork hdoc

/-- R144: what a failing job leaves, its two notices raised one after the other. -/
theorem State.failJob_eq :
    let owed : OwedEntry := { sale := sale, origin := origin, reason := .printFailed, docs := docs.drop j.next }
    let room := decide (s.print.owed.length < 64)
    s.failJob c why = { s with
      print := { s.print with
        jobs := s.print.jobs.filter (fun k => decide (k.number ≠ j.number))
        channels := s.print.channels.set c Channel.idle
        owed := s.print.owed ++ if room then [owed] else [] }
      control := ((s.raise .printFailed (d.failure j.number sale dest why room)).raise .owedAdded (owed.content (!room))).control
      ports := s.ports.set dest { s.port dest with
        printOffer := (s.port dest).printOffer.map (fun o => { o with current := false }) } } := by
  intro owed room
  unfold State.failJob
  simp only [hjob, hwork, hdoc]
  rw [State.raise_eq s, State.owe_eq, State.raise_eq]
  have hcontrol := State.raise_control_congr
    (s := s.raise .printFailed (d.failure j.number sale dest why room))
    (t := { s with
      control := (s.raise .printFailed (d.failure j.number sale dest why room)).control
      print := { s.print with owed := s.print.owed ++ if room then [owed] else [] } })
    rfl (s.raise_uplink _ _).symm .owedAdded (owed.content (!room))
  rw [← hcontrol]
  rfl

end

/-- Settles O37: the failure as one update, and its two notices where the queue has room for both. -/
theorem failedJobsOweTheirDocuments : Obligations.FailedJobsOweTheirDocuments := by
  unfold Obligations.FailedJobsOweTheirDocuments
  intro c j isReprint sale origin dest docs d s hjob hwork hdoc room failed
  have hfails : ∀ why, failed why (s.failJob c why) := fun why => by
    have heq := State.failJob_eq hjob hwork hdoc why
    have hstep := s.failJob_printStep c why
    refine ⟨by rw [heq], fun hall hfailed howed hlen => ?notices, hstep.control, hstep.uplink, ?frame⟩
    case notices =>
      rw [heq]
      exact State.raise_room_pair (k := .printFailed) (l := .owedAdded) hall hfailed howed hlen _ _
    case frame =>
      conv_lhs => rw [heq]
      rw [heq]
  refine ⟨hfails, fun hrunning hwait => ⟨_, hfails .printerWait, ?printer⟩, fun hrunning hwait => ⟨_, hfails .paperWait, ?paper⟩⟩
  case printer =>
    refine congrArg Host.Outcome.next ((if_pos hrunning).trans ?_)
    rw [State.expirePrinterWait, if_pos hwait]
  case paper =>
    refine congrArg Host.Outcome.next ((if_pos hrunning).trans ?_)
    rw [State.expirePaperWait, if_pos hwait]

end Sys2Proof.Machine
end

section
/-! The channel arbiter (R134): the job it picks, the channel that takes it, and that it stops only where no channel is IDLE or no job
eligible. -/

namespace Sys2Proof.Machine

/-! ## The job an IDLE channel takes -/

theorem State.eligible_iff (s : State) (j : Job) : s.eligible j = true ↔ j.channel = none ∧ ∀ p, j.dest = some p →
    (s.port p).state = .active ∧ ∀ k ∈ s.print.jobs, k.channel ≠ none → k.dest ≠ some p := by
  unfold State.eligible
  cases hdest : j.dest with
  | none => simp
  | some p => simp [Option.isSome_iff_ne_none]

/-- A place in a filtered list is a place in the list. -/
theorem exists_split_of_filter {α : Type} {f : α → Bool} {xs as bs : List α} {x : α} (h : xs.filter f = as ++ x :: bs) :
    ∃ older younger, xs = older ++ x :: younger ∧ f x = true ∧ older.filter f = as ∧ younger.filter f = bs := by
  obtain ⟨l, m, rfl, hl, hm⟩ := List.filter_eq_append_iff.1 h
  obtain ⟨m₁, m₂, rfl, hskipped, hx, hm₂⟩ := List.filter_eq_cons_iff.1 hm
  refine ⟨l ++ m₁, m₂, (List.append_assoc l m₁ (x :: m₂)).symm, hx, ?_, hm₂⟩
  rw [List.filter_append, hl, List.filter_eq_nil_iff.2 hskipped, List.append_nil]

theorem State.highest_eq_none {s : State} {js : List Job} : s.highest js = none ↔ js = [] := by
  cases js with
  | nil => exact iff_of_true rfl rfl
  | cons j rest =>
    refine iff_of_false (fun h => ?_) (List.cons_ne_nil j rest)
    rw [State.highest] at h
    split at h
    · split at h <;> cases h
    · cases h

/-- A job behind lower ones only, and before none that is higher, is of the highest level. -/
theorem State.levelOf_le_of_split {s : State} {older younger : List Job} {j : Job}
    (holder : ∀ k ∈ older, s.levelOf k < s.levelOf j) (hyounger : ∀ k ∈ younger, s.levelOf k ≤ s.levelOf j) :
    ∀ k ∈ older ++ j :: younger, s.levelOf k ≤ s.levelOf j :=
  List.forall_mem_append.2 ⟨fun k hk => (holder k hk).le, List.forall_mem_cons.2 ⟨le_rfl, hyounger⟩⟩

/-- R134: the job of the highest level stands behind lower ones only, and before none that is higher. -/
theorem State.highest_spec {s : State} {js : List Job} {j : Job} (h : s.highest js = some j) :
    ∃ older younger, js = older ++ j :: younger ∧ (∀ k ∈ older, s.levelOf k < s.levelOf j)
      ∧ ∀ k ∈ younger, s.levelOf k ≤ s.levelOf j := by
  induction js generalizing j with
  | nil => cases h
  | cons x rest ih =>
    rw [State.highest] at h
    split at h
    · rename_i y hy
      obtain ⟨older, younger, hrest, holder, hyounger⟩ := ih hy
      split at h
      · rename_i hlt
        cases h
        exact ⟨x :: older, younger, congrArg (x :: ·) hrest, List.forall_mem_cons.2 ⟨hlt, holder⟩, hyounger⟩
      · rename_i hge
        cases h
        have hle : ∀ k ∈ rest, s.levelOf k ≤ s.levelOf y := hrest ▸ State.levelOf_le_of_split holder hyounger
        exact ⟨[], rest, rfl, List.forall_mem_nil _, fun k hk => (hle k hk).trans (not_lt.1 hge)⟩
    · rename_i hnone
      cases h
      rw [State.highest_eq_none.1 hnone]
      exact ⟨[], [], rfl, List.forall_mem_nil _, List.forall_mem_nil _⟩

/-- R134: the oldest eligible PROOF, else the oldest eligible job of the highest level. -/
theorem State.pickJob_spec {s : State} {j : Job} (h : s.pickJob = some j) :
    ∃ older younger, s.print.jobs = older ++ j :: younger ∧ s.eligible j = true
      ∧ (j.isProof = true → ∀ k ∈ older, s.eligible k = true → k.isProof = false)
      ∧ (j.isProof = false → (∀ k ∈ s.print.jobs, s.eligible k = true → k.isProof = false ∧ s.levelOf k ≤ s.levelOf j)
        ∧ ∀ k ∈ older, s.eligible k = true → s.levelOf k < s.levelOf j) := by
  unfold State.pickJob at h
  dsimp only at h
  split at h
  · rename_i k hfind
    cases h
    obtain ⟨hproof, as, bs, hsplit, has⟩ := List.find?_eq_some_iff_append.1 hfind
    obtain ⟨older, younger, hjobs, heligible, holder, -⟩ := exists_split_of_filter hsplit
    refine ⟨older, younger, hjobs, heligible, fun _ k hk hek => ?_, fun hno => absurd hproof (by rw [hno]; decide)⟩
    simpa using has k (holder ▸ List.mem_filter.2 ⟨hk, hek⟩)
  · rename_i hnone
    obtain ⟨as, bs, hsplit, has, hbs⟩ := State.highest_spec h
    obtain ⟨older, younger, hjobs, heligible, holder, -⟩ := exists_split_of_filter hsplit
    have hnoproof : ∀ k ∈ s.print.jobs, s.eligible k = true → k.isProof = false := fun k hk hek => by
      simpa using List.find?_eq_none.1 hnone k (List.mem_filter.2 ⟨hk, hek⟩)
    refine ⟨older, younger, hjobs, heligible, fun _ k hk => hnoproof k (hjobs ▸ List.mem_append_left _ hk),
      fun _ => ⟨fun k hk hek => ⟨hnoproof k hk hek, ?_⟩, fun k hk hek => has k (holder ▸ List.mem_filter.2 ⟨hk, hek⟩)⟩⟩
    exact State.levelOf_le_of_split has hbs k (hsplit ▸ List.mem_filter.2 ⟨hk, hek⟩)

theorem State.pickJob_eq_none {s : State} : s.pickJob = none ↔ ∀ j ∈ s.print.jobs, s.eligible j = false := by
  have hempty : s.print.jobs.filter s.eligible = [] ↔ ∀ j ∈ s.print.jobs, s.eligible j = false := by
    simp only [List.filter_eq_nil_iff, Bool.not_eq_true]
  rw [← hempty]
  unfold State.pickJob
  dsimp only
  split
  · rename_i j hfind
    exact iff_of_false (Option.some_ne_none j) (List.ne_nil_of_mem (List.mem_of_find?_eq_some hfind))
  · exact State.highest_eq_none

theorem State.idleChannel_eq_some {s : State} {c : ChannelNo} : s.idleChannel = some c ↔
    (s.channel c).state = .idle ∧ ∀ d, d < c → (s.channel d).state ≠ .idle := by
  unfold State.idleChannel allChannels
  rw [← Fin.find?_eq_find?_finRange, Fin.find?_eq_some_iff]
  simp only [decide_eq_true_eq, decide_eq_false_iff_not, ne_eq]

theorem State.idleChannel_eq_none {s : State} : s.idleChannel = none ↔ ∀ c, (s.channel c).state ≠ .idle := by
  unfold State.idleChannel allChannels
  simp only [List.find?_eq_none, List.mem_finRange, decide_eq_true_eq, forall_const, ne_eq]

/-! ## Jobs that leave the queue of the waiting -/

/-- QUEUED: on no channel (R130). -/
def Job.queued (j : Job) : Bool := j.channel.isNone

theorem Job.queued_of_none {j : Job} (h : j.channel = none) : j.queued = true := by rw [Job.queued, h]; rfl

/-- The jobs that wait for a channel. -/
def State.waiting (s : State) : Nat := s.print.jobs.countP Job.queued

theorem State.failJob_jobs (s : State) (c : ChannelNo) (why : FailReason) :
    ((s.failJob c why).print.jobs).Sublist s.print.jobs := by
  unfold State.failJob
  split
  · exact List.Sublist.refl _
  · split
    · exact List.Sublist.refl _
    · dsimp only
      rw [State.owe_eq]
      refine (List.filter_sublist ..).trans ?_
      simp only [State.releaseOffer_print, State.raise_print]
      exact List.Sublist.refl _

/-- R139: an offer is a matter of the ports. -/
theorem State.offer_print (s : State) (c : ChannelNo) : (s.offer c).print = s.print := by
  unfold State.offer
  split
  · split
    · split <;> rfl
    · rfl
  · rfl

theorem State.readSector_jobs (s : State) (c : ChannelNo) : ((s.readSector c).print.jobs).Sublist s.print.jobs := by
  unfold State.readSector
  split
  · exact List.Sublist.refl _
  · split
    · refine (List.filter_sublist ..).trans ?_
      rw [State.raise_print]
    · split
      · exact List.filter_sublist ..
      · split
        · exact s.failJob_jobs c _
        · rw [State.enterSend, State.offer_print]
          exact List.Sublist.refl _

theorem State.enterFetch_jobs (s : State) (c : ChannelNo) : ((s.enterFetch c).print.jobs).Sublist s.print.jobs := by
  unfold State.enterFetch
  dsimp only
  split
  · exact List.Sublist.refl _
  · exact State.readSector_jobs _ c

/-- What taking the job of a number makes of each job of the queue. -/
def Job.taken (c : ChannelNo) (n : Nat) (k : Job) : Job := if k.number = n then { k with channel := some c } else k

theorem countP_taken_le (c : ChannelNo) (n : Nat) (js : List Job) :
    (js.map (Job.taken c n)).countP Job.queued ≤ js.countP Job.queued := by
  rw [List.countP_map]
  refine List.countP_mono_left fun k _ hk => ?_
  rw [Function.comp_apply, Job.taken] at hk
  split at hk
  · cases hk
  · exact hk

/-- R134: a job taken waits no longer, and no other begins to. -/
theorem State.waiting_takeJob {s : State} (c : ChannelNo) {j : Job} (hj : j ∈ s.print.jobs) (hqueued : j.channel = none) :
    (s.takeJob c j).waiting < s.waiting := by
  have htaken : (s.takeJob c j).waiting ≤ (s.print.jobs.map (Job.taken c j.number)).countP Job.queued :=
    (State.enterFetch_jobs _ c).countP_le
  refine htaken.trans_lt ?_
  obtain ⟨older, younger, hjobs⟩ := List.append_of_mem hj
  have holder := countP_taken_le c j.number older
  have hyounger := countP_taken_le c j.number younger
  have hown : Job.taken c j.number j = { j with channel := some c } := if_pos rfl
  rw [State.waiting, hjobs, List.map_append, List.map_cons, hown, List.countP_append, List.countP_append,
    List.countP_cons_of_neg (p := Job.queued) (a := { j with channel := some c }) Bool.false_ne_true,
    List.countP_cons_of_pos (p := Job.queued) (Job.queued_of_none hqueued)]
  omega

theorem State.pickJob_waits {s : State} {j : Job} (h : s.pickJob = some j) : j ∈ s.print.jobs ∧ j.channel = none := by
  obtain ⟨older, younger, hjobs, heligible, -, -⟩ := State.pickJob_spec h
  exact ⟨hjobs ▸ List.mem_append_right _ List.mem_cons_self, ((s.eligible_iff j).1 heligible).1⟩

/-! ## The arbiter's run -/

theorem State.assign_stuck {s : State} (h : s.idleChannel = none ∨ s.pickJob = none) (n : Nat) : State.assign n s = s := by
  cases n with
  | zero => rfl
  | succ n =>
    unfold State.assign
    split
    · rename_i hidle hpick
      rcases h with h | h
      · rw [h] at hidle; cases hidle
      · rw [h] at hpick; cases hpick
    · rfl

theorem State.assign_takes {s : State} {c : ChannelNo} {j : Job} (hidle : s.idleChannel = some c) (hpick : s.pickJob = some j)
    (n : Nat) : State.assign (n + 1) s = State.assign n (s.takeJob c j) := by
  simp only [State.assign, hidle, hpick]

/-- The arbiter goes on to a channel and a job, or has nothing to do. -/
theorem State.arbiter_cases (s : State) : (∃ c j, s.idleChannel = some c ∧ s.pickJob = some j)
    ∨ s.idleChannel = none ∨ s.pickJob = none := by
  cases hidle : s.idleChannel with
  | none => exact .inr (.inl rfl)
  | some c =>
    cases hpick : s.pickJob with
    | none => exact .inr (.inr rfl)
    | some j => exact .inl ⟨c, j, rfl, rfl⟩

/-- The arbiter's fuel is enough: it stops where no channel is IDLE or no job eligible. -/
theorem State.assign_stops {n : Nat} {s : State} (h : s.waiting ≤ n) :
    (State.assign n s).idleChannel = none ∨ (State.assign n s).pickJob = none := by
  induction n generalizing s with
  | zero =>
    refine .inr (State.pickJob_eq_none.2 fun j hj => Bool.eq_false_iff.2 fun heligible => ?_)
    exact List.countP_eq_zero.1 (Nat.le_zero.1 h) j hj (Job.queued_of_none ((s.eligible_iff j).1 heligible).1)
  | succ n ih =>
    rcases s.arbiter_cases with ⟨c, j, hidle, hpick⟩ | hstuck
    · obtain ⟨hj, hqueued⟩ := State.pickJob_waits hpick
      have hless := State.waiting_takeJob c hj hqueued
      rw [State.assign_takes hidle hpick]
      exact ih (by omega)
    · rwa [State.assign_stuck hstuck]

/-- More fuel than there are jobs waiting changes nothing. -/
theorem State.assign_fuel {n m : Nat} {s : State} (hn : s.waiting ≤ n) (hm : s.waiting ≤ m) :
    State.assign n s = State.assign m s := by
  induction n generalizing m s with
  | zero => exact (State.assign_stuck (State.assign_stops (n := 0) hn) m).symm
  | succ n ih =>
    rcases s.arbiter_cases with ⟨c, j, hidle, hpick⟩ | hstuck
    · obtain ⟨hj, hqueued⟩ := State.pickJob_waits hpick
      have hless := State.waiting_takeJob c hj hqueued
      obtain ⟨m, rfl⟩ : ∃ k, m = k + 1 := ⟨m - 1, by omega⟩
      rw [State.assign_takes hidle hpick, State.assign_takes hidle hpick]
      exact ih (by omega) (by omega)
    · rw [State.assign_stuck hstuck, State.assign_stuck hstuck]

theorem State.waiting_le (s : State) : s.waiting ≤ s.print.jobs.length := List.countP_le_length

/-- R134: while a channel is IDLE and a job eligible, the channel takes the job and the arbiter goes on. -/
theorem State.runArbiter_takes {s : State} {c : ChannelNo} {j : Job} (hidle : s.idleChannel = some c) (hpick : s.pickJob = some j) :
    s.runArbiter = (s.takeJob c j).runArbiter := by
  obtain ⟨hj, hqueued⟩ := State.pickJob_waits hpick
  have hless := State.waiting_takeJob c hj hqueued
  have hle := s.waiting_le
  obtain ⟨n, hn⟩ : ∃ n, s.print.jobs.length = n + 1 := ⟨s.print.jobs.length - 1, by omega⟩
  rw [State.runArbiter, hn, State.assign_takes hidle hpick, State.runArbiter]
  exact State.assign_fuel (by omega) (State.waiting_le _)

end Sys2Proof.Machine
end

section
/-! FETCH (O38): the sector read and checked (R135, R157), the document rendered and its first frame offered, the PROOF ended (R151),
and the completion of a store operation (R164). -/

namespace Sys2Proof.Machine

/-! ## The header of a template (R157) -/

/-- The byte that stands for a kind (chapter 11.4). -/
def TemplateKind.byte : TemplateKind → Byte
  | .ticket => 0x01
  | .voucher => 0x02

theorem TemplateStore.kindOf_eq_some {st : TemplateStore} {k : SectorNo} {kind : TemplateKind} :
    st.kindOf k = some kind ↔ st.unsettled[k] = false ∧ st.byte (sectorBase k) = kind.byte := by
  unfold TemplateStore.kindOf
  cases st.unsettled[k] with
  | true => exact iff_of_false (by simp) fun h => Bool.noConfusion h.1
  | false =>
    rw [if_neg Bool.false_ne_true]
    cases kind with
    | ticket =>
      split_ifs with hticket hvoucher
      · exact iff_of_true rfl ⟨rfl, hticket⟩
      · exact iff_of_false (by simp) fun h => hticket h.2
      · exact iff_of_false (by simp) fun h => hticket h.2
    | voucher =>
      split_ifs with hticket hvoucher
      · exact iff_of_false (by simp) fun h => absurd (hticket.symm.trans h.2) (by decide)
      · exact iff_of_true rfl ⟨rfl, hvoucher⟩
      · exact iff_of_false (by simp) fun h => hvoucher h.2

theorem TemplateStore.kindOf_eq_none {st : TemplateStore} {k : SectorNo}
    (h : ¬ (st.unsettled[k] = false ∧ (st.byte (sectorBase k) = 0x01 ∨ st.byte (sectorBase k) = 0x02))) : st.kindOf k = none := by
  refine Option.eq_none_iff_forall_ne_some.2 fun kind hkind => ?_
  obtain ⟨hsettled, hbyte⟩ := TemplateStore.kindOf_eq_some.1 hkind
  cases kind with
  | ticket => exact h ⟨hsettled, .inl hbyte⟩
  | voucher => exact h ⟨hsettled, .inr hbyte⟩

/-- The kind that a byte of the table stands for. -/
def kindOfByte (b : Byte) : TemplateKind := if b = 0x01 then .ticket else .voucher

theorem kindOfByte_byte {b : Byte} (h : b = 0x01 ∨ b = 0x02) : (kindOfByte b).byte = b := by
  rcases h with rfl | rfl <;> rfl

section
variable {st : TemplateStore} {k : SectorNo} {accept : TemplateKind → Bool} {kind : TemplateKind}

theorem TemplateStore.readTemplate_badKind (h : st.kindOf k = none) : st.readTemplate k accept = .inl .badKind := by
  rw [TemplateStore.readTemplate, h]

variable (hkind : st.kindOf k = some kind) (haccept : accept kind = true)
include hkind haccept

theorem TemplateStore.readTemplate_badLength (h : st.bodyLength k < 1 ∨ 4080 < st.bodyLength k) :
    st.readTemplate k accept = .inl .badLength := by
  simp only [TemplateStore.readTemplate, hkind, haccept, if_pos h, Bool.true_eq_false, if_false]

theorem TemplateStore.readTemplate_badCheck (hlow : 1 ≤ st.bodyLength k) (hhigh : st.bodyLength k ≤ 4080)
    (h : checkBytes (st.body k) ≠ st.bodyCheck k) : st.readTemplate k accept = .inl .badCheck := by
  have hlen : ¬ (st.bodyLength k < 1 ∨ 4080 < st.bodyLength k) := by omega
  simp only [TemplateStore.readTemplate, hkind, haccept, if_neg hlen, if_pos h, Bool.true_eq_false, if_false]

theorem TemplateStore.readTemplate_good (hlow : 1 ≤ st.bodyLength k) (hhigh : st.bodyLength k ≤ 4080)
    (h : checkBytes (st.body k) = st.bodyCheck k) : st.readTemplate k accept = .inr (kind, st.body k) := by
  have hlen : ¬ (st.bodyLength k < 1 ∨ 4080 < st.bodyLength k) := by omega
  simp only [TemplateStore.readTemplate, hkind, haccept, if_neg hlen, h, Bool.true_eq_false, if_false, ne_eq, not_true]

end

/-- R135: a sector that fails a check is faulty, whichever it is. -/
theorem TemplateStore.readTemplate_faulty {st : TemplateStore} {k : SectorNo} {kind : TemplateKind}
    (h : ¬ (st.kindOf k = some kind ∧ 1 ≤ st.bodyLength k ∧ st.bodyLength k ≤ 4080 ∧ checkBytes (st.body k) = st.bodyCheck k)) :
    ∃ fault, st.readTemplate k (fun x => decide (x = kind)) = .inl fault := by
  cases hkind : st.kindOf k with
  | none => exact ⟨_, TemplateStore.readTemplate_badKind hkind⟩
  | some x =>
    by_cases hx : x = kind
    · subst hx
      by_cases hlen : st.bodyLength k < 1 ∨ 4080 < st.bodyLength k
      · exact ⟨_, TemplateStore.readTemplate_badLength hkind (decide_eq_true rfl) hlen⟩
      · exact ⟨_, TemplateStore.readTemplate_badCheck hkind (decide_eq_true rfl) (by omega) (by omega)
          fun hcheck => h ⟨hkind, by omega, by omega, hcheck⟩⟩
    · refine ⟨.badKind, ?_⟩
      simp only [TemplateStore.readTemplate, hkind, decide_eq_false hx, if_true]

/-! ## A document read (R135, R139) -/

theorem State.jobOn_setChannel {s : State} {c : ChannelNo} {x : Channel} (h : x.job = (s.channel c).job) :
    (s.setChannel c x).jobOn c = s.jobOn c := by
  unfold State.jobOn
  rw [State.channel_setChannel, if_pos rfl, h]
  rfl

/-- R139, R182: a channel in SEND offers its next frame where its port holds no offer. -/
theorem State.offer_send {s : State} {c : ChannelNo} {j : Job} {r : Rendered} {p : PortNo} {d : Document}
    (hstate : (s.channel c).state = .send) (hjob : s.jobOn c = some j) (hbuffer : (s.channel c).buffer = some r)
    (hdest : j.dest = some p) (hdoc : j.current = some d) :
    s.offer c = if (s.port p).printOffer = none then
        s.setPort p { s.port p with printOffer := some (printFrame j.number d.index r (s.channel c).nextFrame) }
      else s := by
  simp only [State.offer, hstate, hjob, hbuffer, hdest, hdoc, Option.isNone_iff_eq_none]

/-- R135: entering SEND offers frame 0 of the document rendered. -/
theorem State.enterSend_eq {s : State} {c : ChannelNo} {j : Job} {p : PortNo} {d : Document} (hjob : s.jobOn c = some j)
    (hdest : j.dest = some p) (hdoc : j.current = some d) (r : Rendered) :
    let sending := s.setChannel c { s.channel c with state := .send, buffer := some r, nextFrame := 0 }
    s.enterSend c r = if (s.port p).printOffer = none then
        sending.setPort p { s.port p with printOffer := some (printFrame j.number d.index r 0) }
      else sending := by
  intro sending
  have hchannel : sending.channel c = { s.channel c with state := .send, buffer := some r, nextFrame := 0 } :=
    (State.channel_setChannel ..).trans (if_pos rfl)
  have hsending : sending.jobOn c = s.jobOn c := State.jobOn_setChannel rfl
  have hoffer := State.offer_send (s := sending) (by rw [hchannel]) (hsending.trans hjob) (by rw [hchannel])
    hdest hdoc
  rwa [hchannel] at hoffer

theorem Document.kind_byte (d : Document) :
    d.kind.byte = match d.fields with | .ticket .. => 0x01 | .voucher .. => 0x02 := by
  unfold Document.kind
  cases d.fields <;> rfl

theorem State.readSector_document {s : State} {c : ChannelNo} {j : Job} {d : Document} (hjob : s.jobOn c = some j)
    (hprints : j.isProof = false) (hdoc : j.current = some d) :
    s.readSector c = (s.store.readTemplate d.template fun k => decide (k = d.kind)).elim (fun _ => s.failJob c .templateBad)
      fun x => s.enterSend c (render (d.field s.store) x.2) := by
  unfold State.readSector
  rw [hjob]
  dsimp only
  cases hwork : j.work with
  | proof k => rw [Job.isProof, hwork] at hprints; cases hprints
  | print isReprint sale origin dest docs =>
    dsimp only
    rw [hdoc]
    dsimp only
    cases s.store.readTemplate d.template (fun k => decide (k = d.kind)) <;> rfl

/-! ## A PROOF read (R151) -/

theorem State.readSector_proof {s : State} {c : ChannelNo} {j : Job} {k : SectorNo} (hjob : s.jobOn c = some j)
    (hwork : j.work = .proof k) : s.readSector c = s.completeProof c j k := by
  simp only [State.readSector, hjob, hwork]

/-- What a notice raises and what a job's end leaves go either way round. -/
theorem State.raise_endJob (s : State) (k : NoticeKind) (content : Bytes) (c : ChannelNo) (n : Nat) :
    (s.raise k content).endJob c n = (s.endJob c n).raise k content := by
  rw [State.raise_eq (s.endJob c n), State.raise_control_congr (s := s) (t := s.endJob c n) rfl rfl, State.raise_eq s]
  rfl

theorem State.completeProof_faulty {s : State} {c : ChannelNo} {j : Job} {k : SectorNo} {f : HeaderFault}
    (h : s.store.readTemplate k (fun _ => true) = .inl f) : s.completeProof c j k =
      (s.endJob c j.number).raise .proofDone
        (u16 j.number ++ u8 k.val ++ (u8 f.code ++ u8 0 ++ u16 0 ++ u8 0 ++ u16 0)) := by
  rw [← State.raise_endJob, State.completeProof, h]
  rfl

theorem State.completeProof_good {s : State} {c : ChannelNo} {j : Job} {k : SectorNo} {kind : TemplateKind} {body : Bytes}
    (h : s.store.readTemplate k (fun _ => true) = .inr (kind, body)) : s.completeProof c j k =
      (s.endJob c j.number).raise .proofDone (u16 j.number ++ u8 k.val ++
        (u8 0 ++ u8 kind.byte.toNat ++ u16 (render (proofField kind) body).data.length
          ++ flag (render (proofField kind) body).truncated ++ checkBytes (render (proofField kind) body).data)) := by
  rw [← State.raise_endJob, State.completeProof, h]
  cases kind <;> rfl

/-! ## Taking a job, and the completion of a store operation (R134, R135, R164) -/

theorem State.enterFetch_busy {s : State} (h : s.store.operation ≠ none) (c : ChannelNo) :
    s.enterFetch c = s.setChannel c { s.channel c with state := .fetch, buffer := none, nextFrame := 0 } :=
  if_pos (Option.isSome_iff_ne_none.2 h)

theorem State.enterFetch_idle {s : State} (h : s.store.operation = none) (c : ChannelNo) :
    s.enterFetch c = (s.setChannel c { s.channel c with state := .fetch, buffer := none, nextFrame := 0 }).readSector c :=
  if_neg (by rw [State.setChannel_store, h]; decide)

/-- R134: the job RUNNING on the channel, and the channel in FETCH. -/
def State.takenJob (s : State) (c : ChannelNo) (j : Job) : State :=
  { s with print := { s.print with
      jobs := s.print.jobs.map (fun k => if k.number = j.number then { k with channel := some c } else k)
      channels := s.print.channels.set c { state := .fetch, job := some j.number, buffer := none, nextFrame := 0 } } }

/-- R135: it reads at once unless the store is BUSY. -/
theorem State.takeJob_eq (s : State) (c : ChannelNo) (j : Job) :
    s.takeJob c j = if s.store.operation.isSome then s.takenJob c j else (s.takenJob c j).readSector c := by
  have hfetch : ((s.changeJob j.number fun k => { k with channel := some c }).setChannel c
      { Channel.idle with state := .fetch, job := some j.number }).setChannel c
        { state := .fetch, job := some j.number, buffer := none, nextFrame := 0 } = s.takenJob c j :=
    State.setChannel_setChannel ..
  unfold State.takeJob State.enterFetch
  dsimp only
  rw [State.channel_setChannel, if_pos rfl]
  dsimp only
  rw [hfetch]
  rfl

theorem TemplateStore.complete_operation (st : TemplateStore) (op : StoreOp) : (st.complete op).operation = none := by
  cases op <;> rfl

/-- R164: the store as completed, with STORE_DONE raised. -/
def State.storeDone (s : State) (op : StoreOp) : State :=
  (s.setStore (s.store.complete op)).raise .storeDone
    (u8 op.code ++ u8 op.sectorByte ++ u8 op.pageByte ++ (s.store.complete op).outcome op)

theorem State.completeStore_eq {s : State} {op : StoreOp} (h : s.store.operation = some op) :
    s.completeStore = (s.waitingChannels.foldl State.readSector (s.storeDone op)).runArbiter := by
  have hwaiting : (s.storeDone op).waitingChannels = s.waitingChannels := by
    have hchannel : (s.storeDone op).channel = s.channel := by
      funext c
      rw [State.channel, State.storeDone, State.raise_print]
      rfl
    rw [State.waitingChannels, hchannel]
    rfl
  unfold State.completeStore
  rw [h]
  dsimp only
  rw [← hwaiting]
  rfl

/-- Settles O38: the arbiter by its picks and its fuel, FETCH by what the sector read comes to. -/
theorem channelsTakeTheHighestJob : Obligations.ChannelsTakeTheHighestJob := by
  unfold Obligations.ChannelsTakeTheHighestJob
  intro s put
  refine ⟨s.eligible_iff, fun j => State.pickJob_spec, fun j p hdest => ?level, State.pickJob_eq_none,
    fun c => State.idleChannel_eq_some, fun hstuck => State.assign_stuck hstuck _, fun c j => State.runArbiter_takes, ?stops,
    fun c j => ⟨fun hbusy => ?takeBusy, fun hidle => ?takeIdle⟩,
    fun c => ⟨fun hbusy => State.enterFetch_busy hbusy c, fun hidle => State.enterFetch_idle hidle c⟩,
    fun op hrunning hop => ?completion, fun c j hjob => ?read⟩
  case level => rw [State.levelOf, hdest]
  case stops =>
    exact (State.assign_stops s.waiting_le).imp State.idleChannel_eq_none.1 State.pickJob_eq_none.1
  case takeBusy => exact (s.takeJob_eq c j).trans (if_pos (Option.isSome_iff_ne_none.2 hbusy))
  case takeIdle => exact (s.takeJob_eq c j).trans (if_neg (by rw [hidle]; decide))
  case completion =>
    refine ⟨s.storeDone op, ?_, ?_, congrArg Host.Outcome.next ((if_pos hrunning).trans (State.completeStore_eq hop))⟩
    · rw [State.storeDone, State.raise_store]
      exact TemplateStore.complete_operation _ _
    · rw [State.storeDone, State.raise_store, State.raise_eq]
      rfl
  case read =>
    intro kindByte length body good
    refine ⟨fun d hprints hdoc => ?document, fun k hwork => ?proof⟩
    case document =>
      intro k kindOk r
      have hkind : s.store.kindOf k = some d.kind ↔ kindOk := by
        rw [TemplateStore.kindOf_eq_some, Document.kind_byte]
        rfl
      rw [State.readSector_document hjob hprints hdoc]
      refine ⟨fun hbad => ?_, fun hkindOk hlow hhigh hgood p hdest => ?_⟩
      · obtain ⟨fault, hfault⟩ := TemplateStore.readTemplate_faulty (st := s.store) (k := k) (kind := d.kind)
          (fun ⟨h, hlow, hhigh, hgood⟩ => hbad ⟨hkind.1 h, hlow, hhigh, hgood⟩)
        rw [hfault, Sum.elim_inl]
      · rw [TemplateStore.readTemplate_good (hkind.2 hkindOk) (decide_eq_true rfl) hlow hhigh hgood, Sum.elim_inr]
        exact State.enterSend_eq hjob hdest hdoc r
    case proof =>
      intro ended kind kindOk r
      have hended : ∀ content, ended content = (s.endJob c j.number).raise .proofDone (u16 j.number ++ u8 k.val ++ content) :=
        fun _ => rfl
      have hkind : kindOk → s.store.kindOf k = some kind := fun ⟨hsettled, hbyte⟩ =>
        TemplateStore.kindOf_eq_some.2 ⟨hsettled, (kindOfByte_byte hbyte).symm⟩
      have hfaulty : ∀ f, s.store.readTemplate k (fun _ => true) = .inl f →
          s.readSector c = ended (u8 f.code ++ u8 0 ++ u16 0 ++ u8 0 ++ u16 0) := fun f hread => by
        rw [State.readSector_proof hjob hwork, hended, State.completeProof_faulty hread]
      refine ⟨fun hbad => hfaulty .badKind (TemplateStore.readTemplate_badKind (TemplateStore.kindOf_eq_none hbad)),
        fun hok hlen => hfaulty .badLength (TemplateStore.readTemplate_badLength (hkind hok) rfl hlen),
        fun hok hlow hhigh hbad => hfaulty .badCheck (TemplateStore.readTemplate_badCheck (hkind hok) rfl hlow hhigh hbad),
        fun hok hlow hhigh hgood => ?_⟩
      have hbyte : kindByte k = kind.byte := (kindOfByte_byte hok.2).symm
      rw [State.readSector_proof hjob hwork, hended, hbyte,
        State.completeProof_good (TemplateStore.readTemplate_good (hkind hok) rfl hlow hhigh hgood)]
      rfl

end Sys2Proof.Machine
end

section
/-! The commands of the Print Queue and the Owed Ticket List (O39): REPRINT with its checks in their order (R147), Redirect Job, Cancel
Job and Drop Owed (R148 to R150), and Proof Template (R151). -/

namespace Sys2Proof.Machine

/-! ## Layouts (R147 to R151) -/

theorem readSaleNumber_zero : readSaleNumber (u32 0) = none := by simp [readSaleNumber]

theorem readSaleNumber_bytes {sale : Nat} (hlow : 1 ≤ sale) (hhigh : sale < 4294967296) : readSaleNumber (u32 sale) = some sale := by
  have hne : sale ≠ 0 := by omega
  simp [readSaleNumber, Nat.mod_eq_of_lt hhigh, hne]

theorem readJobNumber_zero : readJobNumber (u16 0) = none := by simp [readJobNumber]

theorem readJobNumber_bytes {n : Nat} (hlow : 1 ≤ n) (hhigh : n < 65536) : readJobNumber (u16 n) = some n := by
  have hne : n ≠ 0 := by omega
  simp [readJobNumber, Nat.mod_eq_of_lt hhigh, hne]

theorem readRedirect_bytes {n : Nat} (hhigh : n < 65536) (p : PortNo) :
    readRedirect (u16 n ++ u8 p.val) = if n = 0 then none else some (n, p) := by
  have hp : p.val % 256 = p.val := by omega
  simp [readRedirect, Nat.mod_eq_of_lt hhigh, hp]

theorem readSectorNo_bytes (k : SectorNo) : readSectorNo (u8 k.val) = some k := by
  have hk : k.val % 256 = k.val := by omega
  simp [readSectorNo, hk]

/-! ## Jobs and owed entries (R130, R146) -/

/-- R130: with fewer than 32 jobs a new one joins the queue under a number no other carries. -/
theorem State.addJob_fresh {s : State} (h : s.print.jobs.length < 32) (w : JobWork) :
    ∃ n, ((∀ k ∈ s.print.jobs, k.number ≠ n) ∧ ((∀ k ∈ s.print.jobs, k.number ≠ s.print.jobCounter) → n = s.print.jobCounter))
      ∧ s.addJob w = ({ s with print := { s.print with
          jobs := s.print.jobs ++ [{ number := n, work := w, next := 0, channel := none }]
          jobCounter := if n < 65535 then n + 1 else 1 } }, n) :=
  ⟨_, freeJobNumber_fresh (by omega) s.print.jobCounter, rfl⟩

theorem State.owedFor_eq_none {s : State} {sale : Nat} (h : ∀ x ∈ s.print.owed, x.sale ≠ sale) : s.owedFor sale = none :=
  List.find?_eq_none.2 fun x hx => by rw [decide_eq_true_eq]; exact h x hx

theorem State.owedFor_isSome {s : State} {sale : Nat} (h : ∃ x ∈ s.print.owed, x.sale = sale) : ∃ e, s.owedFor sale = some e := by
  obtain ⟨x, hx, hsale⟩ := h
  exact Option.isSome_iff_exists.1 (List.find?_isSome.2 ⟨x, hx, decide_eq_true hsale⟩)

/-- The Print Engine's steps set no Restart. -/
theorem State.PrintStep.restartPending {s t : State} (h : s.PrintStep t) : t.control.restartPending = s.control.restartPending :=
  congrArg (·.restartPending) h.control

/-! ## REPRINT (R147) -/

theorem State.boxOfficeCheck_goodFrame (s : State) (p : PortNo) : (s.goodFrame p).boxOfficeCheck p = s.boxOfficeCheck p := by
  rw [State.boxOfficeCheck, State.role_goodFrame]
  rfl

section
variable {s : State} {p : PortNo}

theorem State.boxOfficeCheck_notReady (h : s.control.foyer = .unconfigured) : s.boxOfficeCheck p = some .notReady := if_pos h

theorem State.boxOfficeCheck_wrongRole (h : s.control.foyer ≠ .unconfigured) (hrole : (s.port p).role ≠ .boxOffice) :
    s.boxOfficeCheck p = some .wrongRole := (if_neg h).trans (if_pos hrole)

theorem State.boxOfficeCheck_none (h : s.control.foyer ≠ .unconfigured) (hrole : (s.port p).role = .boxOffice) :
    s.boxOfficeCheck p = none := (if_neg h).trans (if_neg (not_not.2 hrole))

/-- R147: checks 1 and 2 come before the payload is read. -/
theorem reprint_unchecked {r : Result} (h : s.boxOfficeCheck p = some r) (payload : Bytes) : reprint p payload s = s.refuse r := by
  rw [reprint, h]

theorem reprint_unread (h : s.boxOfficeCheck p = none) {payload : Bytes} (hread : readSaleNumber payload = none) :
    reprint p payload s = s.refuse .badArg := by
  rw [reprint, h]
  dsimp only
  rw [hread]

section
variable (h : s.boxOfficeCheck p = none) {payload : Bytes} {sale : Nat} (hread : readSaleNumber payload = some sale)
include h hread

theorem reprint_closed (hclosed : s.control.foyer = .closed) : reprint p payload s = s.refuse .closed := by
  simp only [reprint, h, hread, if_pos hclosed]

variable (hopen : s.control.foyer ≠ .closed)
include hopen

theorem reprint_unowed (howed : s.owedFor sale = none) : reprint p payload s = s.refuse .notFound := by
  simp only [reprint, h, hread, if_neg hopen, howed]

variable {e : OwedEntry} (howed : s.owedFor sale = some e)
include howed

theorem reprint_full (hfull : 32 ≤ s.print.jobs.length) : reprint p payload s = s.refuse .queueFull := by
  simp only [reprint, h, hread, if_neg hopen, howed, if_pos hfull]

/-- R147: the entry leaves the list and becomes a job. -/
theorem reprint_owed (hroom : s.print.jobs.length < 32) {u : State} {n : Nat}
    (hadd : (s.dropOwedFor sale).addJob (.print true e.sale e.origin p e.docs) = (u, n)) :
    reprint p payload s = (u.runArbiter, .ok, u16 n ++ u8 e.docs.length) := by
  simp only [reprint, h, hread, if_neg hopen, howed, if_neg (not_le.2 hroom), hadd]

end

end

/-- A REPRINT that is refused only replies. -/
theorem exec_reprint_refused {s : State} {p : PortNo} (hears : s.hears p = true) (tag : Byte) {payload : Bytes} {r : Result}
    (h : reprint p payload (s.goodFrame p) = (s.goodFrame p).refuse r) :
    exec (.reprint p tag payload) s = .next (s.answered .reprint p tag r []) :=
  congrArg Host.Outcome.next (State.request_refused hears .reprint tag _ r [] h)

/-- R147: the oldest entry owed for the sale leaves the list and becomes a job for the port. -/
theorem exec_reprint_prints {s : State} {p : PortNo} {sale : Nat} {e : OwedEntry} (hears : s.hears p = true)
    (hopen : s.control.foyer = .opened) (hrole : (s.port p).role = .boxOffice) (hlow : 1 ≤ sale) (hhigh : sale < 4294967296)
    (howed : s.owedFor sale = some e) (hroom : s.print.jobs.length < 32) (tag : Byte) {u : State} {n : Nat}
    (hadd : ((s.goodFrame p).dropOwedFor sale).addJob (.print true e.sale e.origin p e.docs) = (u, n)) :
    exec (.reprint p tag (u32 sale)) s = .next (u.runArbiter.answer .reprint p tag .ok (u16 n ++ u8 e.docs.length)) := by
  have hcheck := (s.boxOfficeCheck_goodFrame p).trans (State.boxOfficeCheck_none (by rw [hopen]; decide) hrole)
  have howed' : (s.goodFrame p).owedFor sale = some e := howed
  have hclosed : (s.goodFrame p).control.foyer ≠ .closed := fun h => by rw [State.goodFrame_control, hopen] at h; cases h
  have hbody := reprint_owed hcheck (readSaleNumber_bytes hlow hhigh) hclosed howed' hroom hadd
  exact congrArg Host.Outcome.next (by rw [State.request_hears hears, hbody])

/-! ## Redirect Job and Cancel Job (R148, R149) -/

section
variable {s : State} {n : Nat} (hlow : 1 ≤ n) (hhigh : n < 65536)
include hlow hhigh

theorem redirectJob_unnamed (hnone : s.jobNumbered n = none) (p : PortNo) :
    redirectJob (u16 n ++ u8 p.val) s = s.refuse .notFound := by
  simp only [redirectJob, readRedirect_bytes hhigh, if_neg (Nat.one_le_iff_ne_zero.1 hlow), hnone]

theorem cancelJob_unnamed (hnone : s.jobNumbered n = none) : cancelJob (u16 n) s = s.refuse .notFound := by
  simp only [cancelJob, readJobNumber_bytes hlow hhigh, hnone]

variable {j : Job} (hj : s.jobNumbered n = some j)
include hj

theorem redirectJob_proof {k : SectorNo} (hwork : j.work = .proof k) (p : PortNo) :
    redirectJob (u16 n ++ u8 p.val) s = s.refuse .badState := by
  simp only [redirectJob, readRedirect_bytes hhigh, if_neg (Nat.one_le_iff_ne_zero.1 hlow), hj, Job.dest, hwork]

theorem cancelJob_proof {k : SectorNo} (hwork : j.work = .proof k) : cancelJob (u16 n) s = s.refuse .badState := by
  simp only [cancelJob, readJobNumber_bytes hlow hhigh, hj, hwork]

variable {isReprint : Bool} {sale : Nat} {origin old : PortNo} {docs : List Document}
  (hwork : j.work = .print isReprint sale origin old docs)
include hwork

/-- R148: a job that prints takes the new port, unless it is RUNNING. -/
theorem redirectJob_print (p : PortNo) : redirectJob (u16 n ++ u8 p.val) s = if j.channel.isSome then s.refuse .busy
    else ((s.changeJob n (fun k => { k with work := k.work.redirect p })).runArbiter, .ok, u8 old.val ++ u8 p.val) := by
  simp only [redirectJob, readRedirect_bytes hhigh, if_neg (Nat.one_le_iff_ne_zero.1 hlow), hj, Job.dest, hwork]

/-- R149: a job that prints has its remaining documents owed, unless it is RUNNING or the list is full. -/
theorem cancelJob_print : cancelJob (u16 n) s = if j.channel.isSome then s.refuse .busy
    else if s.owedRoom = false then s.refuse .full
    else ((s.dropJob n).owe { sale := sale, origin := origin, reason := .cancelled, docs := docs.drop j.next }, .ok,
      u32 sale ++ u8 (docs.drop j.next).length) := by
  simp only [cancelJob, readJobNumber_bytes hlow hhigh, hj, hwork]

end

/-! ## Drop Owed and Proof Template (R150, R151) -/

theorem dropOwed_unnamed {s : State} {sale : Nat} (hlow : 1 ≤ sale) (hhigh : sale < 4294967296) (hnone : s.owedFor sale = none) :
    dropOwed (u32 sale) s = s.refuse .notFound := by
  simp only [dropOwed, readSaleNumber_bytes hlow hhigh, hnone]

theorem dropOwed_named {s : State} {sale : Nat} {e : OwedEntry} (hlow : 1 ≤ sale) (hhigh : sale < 4294967296)
    (howed : s.owedFor sale = some e) :
    dropOwed (u32 sale) s = (s.dropOwedFor sale, .ok, u8 e.reason.code ++ u8 e.docs.length) := by
  simp only [dropOwed, readSaleNumber_bytes hlow hhigh, howed]

theorem proofTemplate_read (k : SectorNo) (s : State) : proofTemplate (u8 k.val) s = if 32 ≤ s.print.jobs.length then s.refuse .full
    else ((s.addJob (.proof k)).1.runArbiter, .accepted, u16 (s.addJob (.proof k)).2) := by
  rw [proofTemplate, readSectorNo_bytes]

/-- Settles O39: each command's checks in their order, on bytes that are read back, and what it makes of the queue and the list. -/
theorem printQueueCommands : Obligations.PrintQueueCommands := by
  unfold Obligations.PrintQueueCommands
  intro tag s fresh after
  refine ⟨?reprints, ?reprintRefused, ?unnamed, ?dropUnnamed, ?jobs, ?drops, ?proofs⟩
  case reprints =>
    intro p sale e hears hopen hrole hlow hhigh howed hroom
    obtain ⟨n, hfresh, hadd⟩ := State.addJob_fresh (s := (s.goodFrame p).dropOwedFor sale) hroom
      (.print true e.sale e.origin p e.docs)
    exact ⟨n, hfresh, exec_reprint_prints hears hopen hrole hlow hhigh howed hroom tag hadd⟩
  case reprintRefused =>
    intro p sale hears hhigh refused
    have hrefused : ∀ {r}, reprint p (u32 sale) (s.goodFrame p) = (s.goodFrame p).refuse r → refused r :=
      exec_reprint_refused hears tag
    have hcheck := s.boxOfficeCheck_goodFrame p
    refine ⟨fun h => hrefused (reprint_unchecked (hcheck.trans (State.boxOfficeCheck_notReady h)) _), fun hready =>
      ⟨fun h => hrefused (reprint_unchecked (hcheck.trans (State.boxOfficeCheck_wrongRole hready h)) _), fun hrole => ?_⟩⟩
    have hpass := hcheck.trans (State.boxOfficeCheck_none hready hrole)
    refine ⟨fun hzero => hrefused (reprint_unread hpass (hzero ▸ readSaleNumber_zero)), fun hlow => ?_⟩
    have hread := readSaleNumber_bytes hlow hhigh
    refine ⟨fun hclosed => hrefused (reprint_closed hpass hread hclosed), fun hopen => ?_⟩
    have hclosed : (s.goodFrame p).control.foyer ≠ .closed := fun h => by rw [State.goodFrame_control, hopen] at h; cases h
    refine ⟨fun hnone => hrefused (reprint_unowed hpass hread hclosed (State.owedFor_eq_none (s := s.goodFrame p) hnone)),
      fun hsome hfull => ?_⟩
    obtain ⟨e, he⟩ := State.owedFor_isSome (s := s.goodFrame p) hsome
    exact hrefused (reprint_full hpass hread hclosed he hfull)
  case unnamed =>
    intro n p hhigh refused
    have hrefused : ∀ {r}, redirectJob (u16 n ++ u8 p.val) s = s.refuse r → cancelJob (u16 n) s = s.refuse r → refused r :=
      fun hr hc => ⟨fun htakes => runCommand_reads (c := .redirectJob) htakes hr,
        fun htakes => runCommand_reads (c := .cancelJob) htakes hc⟩
    refine ⟨fun hzero => hrefused ?_ ?_,
      fun hlow hnone => hrefused (redirectJob_unnamed hlow hhigh hnone p) (cancelJob_unnamed hlow hhigh hnone),
      fun j k hlow hj hwork => hrefused (redirectJob_proof hlow hhigh hj hwork p) (cancelJob_proof hlow hhigh hj hwork)⟩
    · rw [redirectJob, readRedirect_bytes hhigh, if_pos hzero]
    · rw [cancelJob, hzero, readJobNumber_zero]
  case dropUnnamed =>
    intro sale htakes hhigh
    have hrefused : ∀ {r}, dropOwed (u32 sale) s = s.refuse r →
        exec (.dropOwed tag (u32 sale)) s = .next (s.replied .dropOwed tag r []) := runCommand_reads (c := .dropOwed) htakes
    refine ⟨fun hzero => hrefused ?_, fun hlow hnone => hrefused (dropOwed_unnamed hlow hhigh (State.owedFor_eq_none hnone))⟩
    rw [dropOwed, hzero, readSaleNumber_zero]
  case jobs =>
    intro n j isReprint sale origin old p docs hlow hhigh hj hwork
    have hqueued : j.channel = none → ¬ j.channel.isSome = true := fun h => by rw [h]; decide
    have hrunning : j.channel ≠ none → j.channel.isSome = true := Option.isSome_iff_ne_none.2
    have hredirect := redirectJob_print hlow hhigh hj hwork p
    have hcancel := cancelJob_print hlow hhigh hj hwork
    refine ⟨fun htakes => ⟨fun hnone => ?redirects, fun h =>
      runCommand_reads (c := .redirectJob) htakes (hredirect.trans (if_pos (hrunning h)))⟩,
      fun htakes => ⟨fun hnone hroom => ?cancels, fun h =>
      runCommand_reads (c := .cancelJob) htakes (hcancel.trans (if_pos (hrunning h))), fun hnone hfull => ?full⟩⟩
    case redirects =>
      exact runCommand_replies (c := .redirectJob) htakes (hredirect.trans (if_neg (hqueued hnone)))
        ((State.runArbiter_printStep _).restartPending.trans (State.restartPending_of_takes htakes))
    case cancels =>
      have hbody := hcancel.trans ((if_neg (hqueued hnone)).trans (if_neg (by rw [State.owedRoom, decide_eq_true hroom]; decide)))
      rw [State.owe_room (s := s.dropJob n) hroom] at hbody
      exact runCommand_replies (c := .cancelJob) htakes hbody
        ((State.raise_printStep _ _ _).restartPending.trans (State.restartPending_of_takes htakes))
    case full =>
      exact runCommand_reads (c := .cancelJob) htakes (hcancel.trans ((if_neg (hqueued hnone)).trans
        (if_pos (decide_eq_false (not_lt.2 hfull)))))
  case drops =>
    intro sale e htakes hlow hhigh howed
    exact runCommand_replies (c := .dropOwed) htakes (dropOwed_named hlow hhigh howed) (State.restartPending_of_takes htakes)
  case proofs =>
    intro k htakes
    have hread := proofTemplate_read k s
    refine ⟨fun hroom => ?_, fun hfull => runCommand_reads (c := .proofTemplate) htakes (hread.trans (if_pos hfull))⟩
    obtain ⟨n, hfresh, hadd⟩ := State.addJob_fresh hroom (.proof k)
    rw [if_neg (not_le.2 hroom), hadd] at hread
    exact ⟨n, hfresh, runCommand_replies (c := .proofTemplate) htakes hread
      ((State.runArbiter_printStep _).restartPending.trans (State.restartPending_of_takes htakes))⟩

end Sys2Proof.Machine
end

section
/-! The bytes of the Template Store: what an erase and a program leave of them (R156, R164), and a reset with the operation it cuts
off (R168, R173; O4). -/

namespace Sys2Proof.Machine

/-- Entries dropped by their addresses are unlisted, and no other is. -/
theorem Sparse.find_filter {α : Type} (m : List (Nat × α)) (p : Nat → Bool) (a : Nat) :
    Sparse.find (m.filter fun c => p c.1) a = if p a then Sparse.find m a else none := by
  induction m with
  | nil => simp [Sparse.find]
  | cons c rest ih =>
    obtain ⟨b, v⟩ := c
    by_cases hb : b = a
    · subst hb
      cases hp : p b <;> simp [Sparse.find, hp, ih]
    · cases hp : p b <;> simp [Sparse.find, hp, hb, ih]

namespace TemplateStore

variable (st : TemplateStore) {k : SectorNo} {a : Nat}

/-- A stored byte rests on the listed bytes and the fills alone. -/
theorem byte_congr {st st' : TemplateStore} (hcells : st'.cells = st.cells) (hfill : st'.fill = st.fill) (a : Nat) :
    st'.byte a = st.byte a := by
  have hunlisted : st'.unlisted = st.unlisted := by funext b; unfold TemplateStore.unlisted; rw [hfill]
  rw [TemplateStore.byte, hcells, hunlisted, TemplateStore.byte]

/-- No byte of a sector listed, and the sector filled anew: what an erase and a cut leave of it. -/
def clearSector (k : SectorNo) (f : Fill) : TemplateStore :=
  { st with cells := st.cells.filter (fun c => decide (c.1 / 4096 ≠ k.val)), fill := st.fill.set k f }

theorem byte_clearSector_same (f : Fill) (h : a / 4096 = k.val) :
    (st.clearSector k f).byte a = (st.clearSector k f).unlisted a := by
  have hfind : Sparse.find (st.clearSector k f).cells a = none :=
    (Sparse.find_filter st.cells (fun b => decide (b / 4096 ≠ k.val)) a).trans (if_neg (by simpa using h))
  rw [TemplateStore.byte, Sparse.get, hfind, Option.getD_none]

theorem byte_clearSector_other (f : Fill) (h : a / 4096 ≠ k.val) : (st.clearSector k f).byte a = st.byte a := by
  have hfind : Sparse.find (st.clearSector k f).cells a = Sparse.find st.cells a :=
    (Sparse.find_filter st.cells (fun b => decide (b / 4096 ≠ k.val)) a).trans (if_pos (by simpa using h))
  have hunlisted : (st.clearSector k f).unlisted a = st.unlisted a := st.unlisted_set k f a h
  rw [TemplateStore.byte, Sparse.get, hfind, hunlisted, TemplateStore.byte, Sparse.get]

/-- An unlisted byte of an erased sector reads as 0xFF (R156). -/
theorem unlisted_of_erased {st : TemplateStore} (h : ∀ k : SectorNo, a / 4096 = k.val → st.fill[k] = .erased) :
    st.unlisted a = 0xFF := by
  unfold TemplateStore.unlisted
  cases hk : toFin 32 (a / 4096) with
  | none => rfl
  | some k =>
    dsimp only
    rw [h k (toFin_eq_some.1 hk)]

/-! ## Completion (R164) -/

theorem byte_complete_eraseSector (k : SectorNo) (a : Nat) :
    (st.complete (.eraseSector k)).byte a = if a / 4096 = k.val then 0xFF else st.byte a := by
  have hclear : (st.complete (.eraseSector k)).byte a = (st.clearSector k .erased).byte a := byte_congr rfl rfl a
  rw [hclear]
  split
  · rename_i h
    rw [byte_clearSector_same st .erased h]
    refine unlisted_of_erased fun j hj => ?_
    have hjk : k.val = j.val := h.symm.trans hj
    simp [clearSector, hjk]
  · rename_i h
    exact byte_clearSector_other st .erased h

theorem byte_complete_eraseAll (a : Nat) : (st.complete .eraseAll).byte a = 0xFF :=
  unlisted_of_erased (st := st.complete .eraseAll) fun k _ => by simp [TemplateStore.complete]

theorem byte_complete_programPage (k : SectorNo) (g : Fin 16) (o : Nat) (data : Bytes) (was : Bool) (a : Nat) :
    (st.complete (.programPage k g o data was)).byte a =
      if programBase k g o ≤ a ∧ a < programBase k g o + data.length then
        st.byte a &&& data.getD (a - programBase k g o) 0xFF
      else st.byte a :=
  Sparse.get_update st.unlisted st.cells (programBase k g o) data.length _ a

/-- The addresses of a program that stays within its page lie in its sector. -/
theorem programBase_sector {k : SectorNo} {g : Fin 16} {o n : Nat} (hfits : o + n ≤ 256) (h : programBase k g o ≤ a)
    (h' : a < programBase k g o + n) : a / 4096 = k.val := by
  rw [programBase, sectorBase] at h h'
  omega

/-- R160 to R162: a completion changes no byte of a sector that the operation does not work. -/
theorem byte_complete_unworked {op : StoreOp} (hfits : op.fits) (hworks : op.works k = false) (ha : a / 4096 = k.val) :
    (st.complete op).byte a = st.byte a := by
  cases op with
  | eraseSector j =>
    have hj : j ≠ k := of_decide_eq_false hworks
    rw [byte_complete_eraseSector, if_neg fun h => hj (Fin.ext (h.symm.trans ha))]
  | eraseAll => cases hworks
  | programPage j g o data was =>
    have hj : j ≠ k := of_decide_eq_false hworks
    rw [byte_complete_programPage, if_neg fun ⟨h, h'⟩ => hj (Fin.ext ((programBase_sector hfits h h').symm.trans ha))]

/-! ## Resets (R168, R173) -/

/-- R168: a cut-off operation leaves every byte of a sector that it does not work. -/
theorem byte_scramble_unworked (n : Nat) {op : StoreOp} (hworks : op.works k = false) (ha : a / 4096 = k.val) :
    (st.scramble n op).byte a = st.byte a := by
  have hclear : ∀ {j : SectorNo}, j ≠ k → (st.clearSector j (.undefined n)).byte a = st.byte a := fun hj =>
    byte_clearSector_other st _ fun h => hj (Fin.ext (h.symm.trans ha))
  cases op with
  | eraseSector j => exact hclear (of_decide_eq_false hworks)
  | eraseAll => cases hworks
  | programPage j g o data was => exact hclear (of_decide_eq_false hworks)

/-- R173: what a reset leaves, but for the bytes that a cut-off operation was working on and for Write Aborted. -/
theorem afterReset_frame (cause : ResetCause) (n : Nat) : st.afterReset cause n = { st with
    cells := (st.afterReset cause n).cells, fill := (st.afterReset cause n).fill, operation := none, writeEnable := false
    writeAborted := (st.afterReset cause n).writeAborted } := by
  unfold TemplateStore.afterReset
  cases st.operation with
  | none => rfl
  | some op => cases op <;> rfl

theorem byte_afterReset_idle {st : TemplateStore} (h : st.operation = none) (cause : ResetCause) (n a : Nat) :
    (st.afterReset cause n).byte a = st.byte a := by
  unfold TemplateStore.afterReset
  rw [h]
  exact byte_congr rfl rfl a

theorem byte_afterReset_unworked {st : TemplateStore} {op : StoreOp} (h : st.operation = some op) (hworks : op.works k = false)
    (ha : a / 4096 = k.val) (cause : ResetCause) (n : Nat) : (st.afterReset cause n).byte a = st.byte a := by
  unfold TemplateStore.afterReset
  rw [h]
  exact (byte_congr rfl rfl a).trans (st.byte_scramble_unworked n hworks ha)

end TemplateStore

/-- Settles O4: the operation in progress is cut and its sectors' bytes with it, and the rest of the store has no part in a reset. -/
theorem storeAfterEveryReset : Obligations.StoreAfterEveryReset := by
  unfold Obligations.StoreAfterEveryReset
  intro s cause t
  have hframe : t.store = _ := s.store.afterReset_frame cause s.freeCount
  refine ⟨fun hidle a => TemplateStore.byte_afterReset_idle hidle _ _ a,
    fun op hop k a hworks ha => TemplateStore.byte_afterReset_unworked hop hworks ha _ _, ?_⟩
  exact ⟨(congrArg TemplateStore.unsettled hframe :), (congrArg TemplateStore.protectSpan hframe :),
    (congrArg TemplateStore.protectLock hframe :), fun a => by rw [hframe], (congrArg TemplateStore.siteLock hframe :), rfl, rfl,
    rfl, rfl⟩

end Sys2Proof.Machine
end

section
/-! The commands and requests of the other blocks leave the Template Store and the Site Record as they are (O60). -/

namespace Sys2Proof.Machine

/-! ## Operations that leave the store -/

theorem foldl_store {α : Type} {f : State → α → State} (hf : ∀ t a, (f t a).store = t.store) (xs : List α) (s : State) :
    (xs.foldl f s).store = s.store :=
  foldl_keeps (P := fun t => t.store = s.store) (fun t a ht => (hf t a).trans ht) xs rfl

theorem State.forSeats_store {f : State → ShowNo → Nat → State} (hf : ∀ t i k, (f t i k).store = t.store) (s : State) :
    (s.forSeats f).store = s.store :=
  State.forSeats_keeps (P := fun t => t.store = s.store) (fun t i k ht => (hf t i k).trans ht) rfl

theorem State.writeSeats_store (s : State) (i : ShowNo) (k : Nat) (xs : List Seat) : (s.writeSeats i k xs).store = s.store := by
  induction xs generalizing s k with
  | nil => rfl
  | cons x xs ih => exact ih (s.setSeat i k x) (k + 1)

theorem State.loseHeld_store (s : State) (i : ShowNo) (k : Nat) : (s.loseHeld i k).store = s.store := by
  rw [s.loseHeld_frame]

theorem State.changeSlot_store (s : State) (n : Nat) (f : Slot → Slot) : (s.changeSlot n f).store = s.store := by
  rw [s.changeSlot_frame]

theorem State.BasketStep.store {s t : State} {p : PortNo} (h : s.BasketStep t p) : t.store = s.store := by
  unfold State.BasketStep at h
  rw [h]
  rfl

theorem State.voidUnlessAuthorising_store (s : State) (p : PortNo) : (s.voidUnlessAuthorising p).store = s.store := by
  unfold State.voidUnlessAuthorising
  split
  · rfl
  · exact (s.basketStep_voidBasket p).store

/-- Seats given up wherever a test picks them. -/
theorem State.giveUpWhere_store (s : State) (c : State → ShowNo → Nat → Bool) :
    (s.forSeats fun s i k => if c s i k then s.giveUpSeat i k else s).store = s.store :=
  State.forSeats_store (fun t i k => by split <;> rfl) s

theorem State.leaveActive_store (s : State) (p : PortNo) (st : PortState) : (s.leaveActive p st).store = s.store :=
  ((State.stopJob_keeps _ p).trans (State.runArbiter_keeps _)).store.trans
    ((State.giveUpWhere_store _ fun s i k => (s.seatAt i k).state.heldBy p).trans (State.voidUnlessAuthorising_store _ p))

theorem State.nightfall_store (s : State) : s.nightfall.store = s.store := by
  have hvoid := foldl_store (fun t p => (t.basketStep_voidBasket p).store) allPorts s
  unfold State.nightfall
  generalize allPorts.foldl _ s = t at hvoid
  have hheld : t.freeAllHeld.store = t.store := t.giveUpWhere_store fun s i k => (s.seatAt i k).state.isHeld
  dsimp only
  generalize t.freeAllHeld = u at hheld
  exact hheld.trans hvoid

/-! ## Sales, the ends of an authorisation and time -/

theorem State.completeSale_store (s : State) (x : Sale) (code : Bytes) : (s.completeSale x code).1.store = s.store := by
  rw [State.completeSale_frame]

theorem State.approve_store (s : State) (e : AuthEntry) (code : Bytes) : (s.approve e code).store = s.store :=
  (((State.printSale_keeps _ _ _ _).trans (State.answerKept_keeps _ _ _ _ _)).trans (State.runArbiter_keeps _)).store.trans
    (s.completeSale_store e.sale code)

theorem State.releaseLate_store (s : State) (e : AuthEntry) (source : Nat) : (s.releaseLate e source).store = s.store := by
  rw [State.releaseLate_eq, State.checkLow_frame, State.raise_frame, State.lateReleased_frame]

theorem State.approveLate_store (s : State) (e : AuthEntry) (code : Bytes) (source : Nat) :
    (s.approveLate e code source).1.store = s.store := by rw [State.approveLate_frame]

theorem State.decline_store (s : State) (e : AuthEntry) (fault : Bool) : (s.decline e fault).store = s.store := by
  rw [State.decline_frame]

theorem State.resolve_store (s : State) (e : AuthEntry) (o : AuthOutcome) (code : Bytes) : (s.resolve e o code).store = s.store := by
  unfold State.resolve
  split
  · exact s.approve_store e code
  · exact s.decline_store e false
  · exact s.holdGateway.decline_store e true
  · exact s.approveLate_store e code 1
  · exact s.releaseLate_store e 1
  · exact s.holdGateway.releaseLate_store e 1

theorem State.timeOut_store (s : State) (e : AuthEntry) : (s.timeOut e).store = s.store :=
  (((State.answerKept_keeps _ _ _ _ _).trans (State.withdrawRequest_keeps _ e.tag)).trans (State.raise_keeps _ _ _)).store

theorem State.expireAuths_store (s : State) : s.expireAuths.store = s.store := foldl_store (fun t e => t.timeOut_store e) _ s

theorem State.expireLeases_store (s : State) : s.expireLeases.store = s.store := by
  refine State.forSeats_store (fun t i k => ?_) s
  split
  · exact t.loseHeld_store i k
  · rfl

theorem State.tickExpiries_store (s : State) : s.tickLeases.tickAuths.store = s.store :=
  calc s.tickLeases.tickAuths.store = s.tickLeases.countAuths.store := State.expireAuths_store _
    _ = s.countLeases.expireLeases.store := State.countAuths_store _
    _ = s.store := State.expireLeases_store _

theorem State.zeroTotal_store (s : State) (p : PortNo) (tag : Byte) (x : Snapshot) : (s.zeroTotal p tag x).store = s.store :=
  ((((State.printSale_keeps _ _ _ _).trans (State.answer_keeps _ _ _ _ _ _)).trans (State.runArbiter_keeps _)).trans
    (State.checkLow_keeps _)).store.trans (s.completeSale_store ((s.basket p).zeroSale p x) [])

theorem State.pay_store (s : State) (p : PortNo) (tag : Byte) (token : Bytes) : (s.pay p tag token).store = s.store := by
  unfold State.pay State.payRefused
  repeat' split
  any_goals rfl
  · exact s.zeroTotal_store p tag _
  · rw [State.acceptPay_frame]

/-! ## Kiosk requests -/

theorem hold_store (p : PortNo) (payload : Bytes) (s : State) : (hold p payload s).1.store = s.store := by
  unfold hold
  dsimp only
  repeat' split
  any_goals rfl
  rw [State.holdSeats_frame]

theorem release_store (p : PortNo) (payload : Bytes) (s : State) : (release p payload s).1.store = s.store := by
  unfold release
  dsimp only
  repeat' split
  any_goals rfl
  rw [State.releaseSeats_frame]

theorem setTypeBody_store (p : PortNo) (a : Nat × Fin 8) (s : State) : (setTypeBody p a s).1.store = s.store := by
  unfold setTypeBody
  dsimp only
  repeat' split
  all_goals rfl

theorem addComboBody_store (p : PortNo) (c : Fin 32) (s : State) : (addComboBody p c s).1.store = s.store := by
  unfold addComboBody
  dsimp only
  repeat' split
  all_goals rfl

theorem removeComboBody_store (p : PortNo) (n : Nat) (s : State) : (removeComboBody p n s).1.store = s.store := by
  unfold removeComboBody
  dsimp only
  split <;> rfl

theorem applyCreditBody_store (p : PortNo) (n : Nat) (s : State) : (applyCreditBody p n s).1.store = s.store := by
  unfold applyCreditBody
  dsimp only
  repeat' split
  any_goals rfl
  exact s.changeSlot_store n _

theorem removeCreditBody_store (p : PortNo) (n : Nat) (s : State) : (removeCreditBody p n s).1.store = s.store := by
  unfold removeCreditBody
  dsimp only
  split
  · rfl
  · exact s.changeSlot_store n _

theorem undoBody_store (p : PortNo) (u : Unit) (s : State) : (undoBody p u s).1.store = s.store := by
  unfold undoBody
  split
  · rfl
  · rename_i e rest _
    exact (State.reverse_undoStep (s.setBasket p { s.basket p with undo := rest }) p e).step.store

theorem price_store (p : PortNo) (payload : Bytes) (s : State) : (price p payload s).1.store = s.store := by
  unfold price
  dsimp only
  repeat' split
  all_goals rfl

theorem redeem_store (p : PortNo) (payload : Bytes) (s : State) : (redeem p payload s).1.store = s.store := by
  unfold redeem
  repeat' split
  any_goals rfl
  exact s.changeSlot_store _ _

/-! ## Management commands -/

/-- The commands that may change the Template Store or the Site Record. -/
def Command.storing : Command → Bool
  | .writeEnable | .writeDisable | .eraseSector | .eraseAll | .programPage | .setProtect | .siteProgram | .siteLock => true
  | _ => false

theorem withShow_store {h : Handle} {legal : List ShowState} {body : State → Answer} {s : State}
    (hb : (body s).1.store = s.store) : (withShow h legal body s).1.store = s.store :=
  withShow_fst_of_body (P := fun t => t.store = s.store) rfl fun _ => hb

theorem noArgs_store {body : State → Answer} {s : State} (hb : (body s).1.store = s.store) (args : Bytes) :
    (noArgs args body s).1.store = s.store := by
  unfold noArgs
  split
  · exact hb
  · rfl

theorem defineShow_store (args : Bytes) (s : State) : (defineShow args s).1.store = s.store := by
  unfold defineShow
  repeat' split
  all_goals rfl

theorem loadSeats_store (args : Bytes) (s : State) : (loadSeats args s).1.store = s.store := by
  unfold loadSeats
  split
  · rfl
  · refine withShow_store ?_
    repeat' split
    any_goals rfl
    exact s.writeSeats_store _ _ _

theorem openShow_store (args : Bytes) (s : State) : (openShow args s).1.store = s.store := by
  unfold openShow
  split
  · rfl
  · exact withShow_store rfl

theorem closeShow_store (args : Bytes) (s : State) : (closeShow args s).1.store = s.store := by
  unfold closeShow
  split
  · rfl
  · exact withShow_store rfl

theorem removeShow_store (args : Bytes) (s : State) : (removeShow args s).1.store = s.store := by
  unfold removeShow
  split
  · rfl
  · refine withShow_store ?_
    dsimp only
    split <;> rfl

theorem setSeatCommand_store (args : Bytes) (s : State) : (setSeatCommand args s).1.store = s.store := by
  unfold setSeatCommand
  split
  · rfl
  · refine withShow_store ?_
    repeat' split
    all_goals rfl

theorem markSold_store (args : Bytes) (s : State) : (markSold args s).1.store = s.store := by
  unfold markSold
  split
  · rfl
  · refine withShow_store ?_
    dsimp only
    repeat' split
    any_goals rfl
    exact foldl_store (f := fun s k => s.setSeatState _ k _) (fun _ _ => rfl) _ s

theorem releaseBlock_store (args : Bytes) (s : State) : (releaseBlock args s).1.store = s.store := by
  unfold releaseBlock
  split
  · rfl
  · refine withShow_store ?_
    dsimp only
    split
    · rfl
    · exact foldl_store (fun t k => t.loseHeld_store _ k) _ s

theorem reconcile_store (args : Bytes) (s : State) : (reconcile args s).1.store = s.store := by
  unfold reconcile
  repeat' split
  any_goals rfl
  · exact s.approveLate_store _ _ _
  · exact s.releaseLate_store _ _

theorem issueCredit_store (args : Bytes) (s : State) : (issueCredit args s).1.store = s.store := by
  unfold issueCredit
  repeat' split
  any_goals rfl
  exact (State.checkLow_keeps _).store

theorem voidVoucher_store (args : Bytes) (s : State) : (voidVoucher args s).1.store = s.store := by
  unfold voidVoucher
  repeat' split
  all_goals rfl

theorem disablePort_store (args : Bytes) (s : State) : (disablePort args s).1.store = s.store := by
  unfold disablePort State.disable
  split
  · rfl
  · dsimp only
    split
    · exact s.voidUnlessAuthorising_store _
    · exact s.leaveActive_store _ _
    · rfl

theorem night_store (args : Bytes) (s : State) : (night args s).1.store = s.store := by
  refine noArgs_store ?_ args
  split
  · rfl
  · split
    · rfl
    · have hnight := s.nightfall_store
      generalize s.nightfall = t at hnight
      exact hnight

theorem dayRoll_store (args : Bytes) (s : State) : (dayRoll args s).1.store = s.store := by
  unfold dayRoll
  repeat' split
  any_goals rfl
  exact (State.checkLow_keeps _).store

/-- A command of another block that changes what is held leaves the Template Store as it is, whatever it carries. -/
theorem Command.body_store {c : Command} (hr : c.reports = false) (hc : c.settles = false) (hs : c.storing = false)
    (args : Bytes) (s : State) : (c.body args s).1.store = s.store := by
  cases c
  case defineShow => exact defineShow_store args s
  case loadSeats => exact loadSeats_store args s
  case openShow => exact openShow_store args s
  case closeShow => exact closeShow_store args s
  case removeShow => exact removeShow_store args s
  case setSeat => exact setSeatCommand_store args s
  case markSold => exact markSold_store args s
  case releaseBlock => exact releaseBlock_store args s
  case reconcile => exact reconcile_store args s
  case issueCredit => exact issueCredit_store args s
  case voidVoucher => exact voidVoucher_store args s
  case disablePort => exact disablePort_store args s
  case night => exact night_store args s
  case dayRoll => exact dayRoll_store args s
  case writeEnable | writeDisable | eraseSector | eraseAll | programPage | setProtect | siteProgram | siteLock => cases hs
  all_goals simp [Command.reports, Command.settles] at hr hc

end Sys2Proof.Machine
end

section
/-! Protected bytes and a locked Site Record stay (O60): what a command, a completion and a reset can make of the Template Store,
and that each leaves the bytes that are guarded. -/

namespace Sys2Proof.Machine

/-! ## What a management command makes of the store -/

/-- Nothing; or, with the store IDLE: the latch moves (R159), an operation begins on sectors that are not protected (R160 to R162),
protection is set (R167), or the Site Record is programmed or locked while it is not locked (R170, R171). -/
inductive TemplateStore.Moves (st : TemplateStore) : TemplateStore → Prop
  | kept : st.Moves st
  | latch (v : Bool) : st.operation = none → st.Moves { st with writeEnable := v }
  | begins (op : StoreOp) (unsettled : Vector Bool 32) : st.operation = none → op.fits →
      (∀ k, op.works k = true → st.protects k = false) →
      st.Moves (TemplateStore.begin { st with writeEnable := false } op unsettled)
  | protection (span : Fin 8) (lock : Bool) : st.operation = none →
      st.Moves { st with writeEnable := false, protectSpan := span, protectLock := lock }
  | site (b : Bytes) : st.operation = none → st.siteLock = false →
      st.Moves (TemplateStore.programSite { st with writeEnable := false } b)
  | lock : st.operation = none → st.Moves { st with writeEnable := false, siteLock := true }

theorem TemplateStore.busy_iff (st : TemplateStore) : st.busy = true ↔ st.operation ≠ none := Option.isSome_iff_ne_none

theorem TemplateStore.not_busy_iff (st : TemplateStore) : ¬ st.busy = true ↔ st.operation = none :=
  st.busy_iff.not.trans not_ne_iff

theorem noArgs_moves {body : State → Answer} {s : State} (hb : s.store.Moves (body s).1.store) (args : Bytes) :
    s.store.Moves (noArgs args body s).1.store := by
  unfold noArgs
  split
  · exact hb
  · exact .kept

/-- R159: a latched command moves the store as its body does from the latch taken, or takes the latch alone. -/
theorem latched_moves {ok : Bool} {body : State → Answer} {s : State}
    (hb : s.store.operation = none → ok = true →
      s.store.Moves (body (s.setStore { s.store with writeEnable := false })).1.store) :
    s.store.Moves (latched ok body s).1.store := by
  unfold latched
  split
  · exact .kept
  · rename_i hbusy
    have hidle := s.store.not_busy_iff.1 hbusy
    dsimp only
    split
    · exact .latch false hidle
    · rename_i hok
      split
      · exact .latch false hidle
      · exact hb hidle (Bool.eq_true_of_not_eq_false hok)

theorem setLatch_moves (v : Bool) (args : Bytes) (s : State) : s.store.Moves (setLatch v args s).1.store := by
  refine noArgs_moves ?_ args
  split
  · exact .kept
  · rename_i hbusy
    exact .latch v (s.store.not_busy_iff.1 hbusy)

theorem eraseSector_moves (args : Bytes) (s : State) : s.store.Moves (eraseSector args s).1.store := by
  unfold eraseSector
  split
  · exact .kept
  · split
    · exact latched_moves fun hidle _ => .latch false hidle
    · rename_i k _
      refine latched_moves fun hidle _ => ?_
      unfold eraseSectorBody
      split
      · exact .latch false hidle
      · rename_i hprotects
        split
        · exact .latch false hidle
        · refine .begins _ _ hidle trivial fun j hj => ?_
          rw [← of_decide_eq_true (p := k = j) hj]
          exact Bool.eq_false_of_not_eq_true hprotects

/-- R161, R166: with a span of 0 no sector is protected. -/
theorem TemplateStore.protects_of_span_zero {st : TemplateStore} (h : st.protectSpan = 0) (k : SectorNo) :
    st.protects k = false := by
  rw [TemplateStore.protects, h]
  exact decide_eq_false (Nat.not_le.2 k.isLt)

theorem eraseAll_moves (args : Bytes) (s : State) : s.store.Moves (eraseAll args s).1.store := by
  refine noArgs_moves (latched_moves fun hidle _ => ?_) args
  unfold eraseAllBody
  split
  · exact .latch false hidle
  · rename_i hspan
    split
    · exact .latch false hidle
    · exact .begins .eraseAll _ hidle trivial fun k _ => TemplateStore.protects_of_span_zero (not_ne_iff.1 hspan) k

theorem programPage_moves (args : Bytes) (s : State) : s.store.Moves (programPage args s).1.store := by
  unfold programPage
  split
  · exact .kept
  · rename_i o n data _
    split
    · rename_i k g _ _
      refine latched_moves fun hidle hgood => ?_
      obtain ⟨-, -, hend, hlen⟩ := of_decide_eq_true hgood
      unfold programPageBody
      split
      · exact .latch false hidle
      · rename_i hprotects
        split
        · exact .latch false hidle
        · refine .begins _ _ hidle (show o + data.length ≤ 256 by rw [hlen]; exact hend) fun j hj => ?_
          rw [← of_decide_eq_true (p := k = j) hj]
          exact Bool.eq_false_of_not_eq_true hprotects
    · exact latched_moves fun hidle _ => .latch false hidle

theorem setProtect_moves (args : Bytes) (s : State) : s.store.Moves (setProtect args s).1.store := by
  unfold setProtect
  split
  · exact .kept
  · split
    · refine latched_moves fun hidle _ => ?_
      unfold setProtectBody
      split
      · exact .latch false hidle
      · exact .protection _ _ hidle
    · exact latched_moves fun hidle _ => .latch false hidle

theorem siteProgram_moves (args : Bytes) (s : State) : s.store.Moves (siteProgram args s).1.store := by
  unfold siteProgram
  split
  · exact .kept
  · refine latched_moves fun hidle _ => ?_
    unfold siteProgramBody
    split
    · exact .latch false hidle
    · rename_i hlock
      exact .site args hidle (Bool.eq_false_of_not_eq_true hlock)

theorem siteLock_moves (args : Bytes) (s : State) : s.store.Moves (siteLock args s).1.store := by
  refine noArgs_moves (latched_moves fun hidle _ => ?_) args
  unfold siteLockBody
  split
  · exact .latch false hidle
  · split
    · exact .latch false hidle
    · exact .lock hidle

theorem Command.body_moves {c : Command} (hr : c.reports = false) (hc : c.settles = false) (args : Bytes) (s : State) :
    s.store.Moves (c.body args s).1.store := by
  cases hs : c.storing with
  | false => rw [Command.body_store hr hc hs]; exact .kept
  | true =>
    cases c
    case writeEnable => exact setLatch_moves true args s
    case writeDisable => exact setLatch_moves false args s
    case eraseSector => exact eraseSector_moves args s
    case eraseAll => exact eraseAll_moves args s
    case programPage => exact programPage_moves args s
    case setProtect => exact setProtect_moves args s
    case siteProgram => exact siteProgram_moves args s
    case siteLock => exact siteLock_moves args s
    all_goals exact absurd hs Bool.false_ne_true

/-! ## What a step leaves guarded -/

/-- R162, R166: what the store works on, if anything, is within a page and not protected. -/
def TemplateStore.WorksUnprotected (st : TemplateStore) : Prop :=
  ∀ op, st.operation = some op → op.fits ∧ ∀ k, op.works k = true → st.protects k = false

theorem State.worksUnprotected_iff (s : State) : s.worksUnprotected ↔ s.store.WorksUnprotected := Iff.rfl

/-- A store that has come of another: it works on no sector that either protects, so that a reset in the same step may cut the
operation; the bytes the other guards are the same (R166), and a Site Record it had locked is (R171). -/
structure TemplateStore.Guards (st st' : TemplateStore) : Prop where
  works : st'.WorksUnprotected
  before : ∀ op, st'.operation = some op → ∀ k, op.works k = true → st.protects k = false
  bytes : ∀ a, st.guarded a → st'.byte a = st.byte a
  site : st.siteLock = true → st'.siteLock = true
    ∧ ∀ a, Sparse.get erasedByte st'.siteRecord a = Sparse.get erasedByte st.siteRecord a

namespace TemplateStore.Guards

variable {st st' : TemplateStore}

theorem refl (h : st.WorksUnprotected) : st.Guards st where
  works := h
  before op hop := (h op hop).2
  bytes _ _ := rfl
  site hlock := ⟨hlock, fun _ => rfl⟩

/-- An IDLE store with the same bytes. -/
theorem of_idle (hidle : st'.operation = none) (hcells : st'.cells = st.cells) (hfill : st'.fill = st.fill)
    (hsite : st.siteLock = true → st'.siteLock = true ∧ st'.siteRecord = st.siteRecord) : st.Guards st' where
  works _ hop := absurd (hop.symm.trans hidle) (Option.some_ne_none _)
  before _ hop := absurd (hop.symm.trans hidle) (Option.some_ne_none _)
  bytes a _ := byte_congr hcells hfill a
  site hlock := ⟨(hsite hlock).1, fun a => by rw [(hsite hlock).2]⟩

/-- R160 to R162, R167, R170, R171: a command changes no byte of a sector, and none of a locked Site Record. -/
theorem of_moves (h : st.WorksUnprotected) (hm : st.Moves st') : st.Guards st' := by
  cases hm with
  | kept => exact refl h
  | latch v hidle => exact of_idle hidle rfl rfl fun hlock => ⟨hlock, rfl⟩
  | begins op unsettled hidle hfits hworks =>
    exact { works := fun _ hop => by cases hop; exact ⟨hfits, hworks⟩
            before := fun _ hop => by cases hop; exact hworks
            bytes := fun _ _ => byte_congr rfl rfl _
            site := fun hlock => ⟨hlock, fun _ => rfl⟩ }
  | protection span lock hidle => exact of_idle hidle rfl rfl fun hlock => ⟨hlock, rfl⟩
  | site b hidle hopen => exact of_idle hidle rfl rfl fun hlock => absurd (hopen.symm.trans hlock) Bool.false_ne_true
  | lock hidle => exact of_idle hidle rfl rfl fun _ => ⟨rfl, rfl⟩

/-- R164: a completion writes the sectors it works on alone, and these are not protected. -/
theorem complete (h : st.WorksUnprotected) {op : StoreOp} (hop : st.operation = some op) : st.Guards (st.complete op) where
  works _ hsome := absurd (hsome.symm.trans (st.complete_operation op)) (Option.some_ne_none _)
  before _ hsome := absurd (hsome.symm.trans (st.complete_operation op)) (Option.some_ne_none _)
  bytes a := fun ⟨k, ha, hk⟩ => by
    obtain ⟨hfits, hworks⟩ := h op hop
    have hfree : op.works k = false := Bool.eq_false_of_not_eq_true fun hw => by simp [hworks k hw] at hk
    exact st.byte_complete_unworked hfits hfree ha
  site hlock := by cases op <;> exact ⟨hlock, fun _ => rfl⟩

/-- R168, R173: a reset makes undefined the bytes of the sectors being worked alone. -/
theorem afterReset (h : st.Guards st') (cause : ResetCause) (n : Nat) : st.Guards (st'.afterReset cause n) where
  works _ hop := by cases hop
  before _ hop := by cases hop
  bytes a := fun ⟨k, ha, hk⟩ => by
    refine Eq.trans ?_ (h.bytes a ⟨k, ha, hk⟩)
    cases hop : st'.operation with
    | none => exact byte_afterReset_idle hop cause n a
    | some op =>
      have hfree : op.works k = false := Bool.eq_false_of_not_eq_true fun hw => by simp [h.before op hop k hw] at hk
      exact byte_afterReset_unworked hop hfree ha cause n
  site hlock := by
    rw [afterReset_frame]
    exact h.site hlock

end TemplateStore.Guards

/-! ## Every step -/

/-- R164: what the channels read at a completion changes nothing in the store. -/
theorem State.completeStore_store {s : State} {op : StoreOp} (h : s.store.operation = some op) :
    s.completeStore.store = s.store.complete op := by
  rw [State.completeStore_eq h]
  exact ((State.readSectors_printStep _ _).trans (State.runArbiter_printStep _)).keeps.store.trans (State.raise_store _ _ _)

theorem State.completeStore_guards {s : State} (h : s.store.WorksUnprotected) : s.store.Guards s.completeStore.store := by
  cases hop : s.store.operation with
  | none =>
    have hstay : s.completeStore = s := by unfold State.completeStore; rw [hop]
    rw [hstay]
    exact .refl h
  | some op =>
    rw [State.completeStore_store hop]
    exact .complete h hop

/-- A step from a store leads to one that guards what it guards: most commands leave the store as it is. -/
theorem guards_leads {st : TemplateStore} (h : st.WorksUnprotected) :
    Leads (fun s => s.store = st) (fun s => st.Guards s.store) :=
  have hkept : ∀ {s t : State}, t.store = s.store → s.store = st → st.Guards t.store := fun ht hs => by
    rw [ht, hs]
    exact .refl h
  { weaken := fun {s} hs => hkept (t := s) rfl hs
    before := fun hk hs => hk.store.trans hs
    after := fun hk hg => hk.store.symm ▸ hg
    resetPart := fun s cause hg => hg.afterReset cause s.freeCount
    command := fun c args s hr hc hs => .of_moves h (hs ▸ Command.body_moves hr hc args s)
    hold := fun p payload s => hkept (hold_store p payload s)
    release := fun p payload s => hkept (release_store p payload s)
    setType := fun p a s _ => hkept (setTypeBody_store p a s)
    addCombo := fun p a s _ => hkept (addComboBody_store p a s)
    removeCombo := fun p a s _ => hkept (removeComboBody_store p a s)
    applyCredit := fun p a s _ => hkept (applyCreditBody_store p a s)
    removeCredit := fun p a s _ => hkept (removeCreditBody_store p a s)
    undo := fun p a s _ => hkept (undoBody_store p a s)
    cancel := fun p _ s _ => hkept (s.basketStep_voidBasket p).store
    price := fun p payload s => hkept (price_store p payload s)
    redeem := fun p payload s => hkept (redeem_store p payload s)
    pay := fun p tag payload s => hkept (s.pay_store p tag payload)
    resolve := fun e o code s _ => hkept (s.resolve_store e o code)
    leaveActive := fun p port s => hkept (s.leaveActive_store p port)
    expireLeases := fun s => hkept s.expireLeases_store
    expireAuths := fun s => hkept s.expireAuths_store
    tick := fun s => hkept s.tickExpiries_store
    completeStore := fun s hs => by
      subst hs
      exact s.completeStore_guards h }

/-- Settles O60: commands begin no operation on a protected sector, a completion and a reset touch the sectors being worked
alone, and only an open Site Record is programmed. -/
theorem protectedBytesAndLockedSiteStay : Obligations.ProtectedBytesAndLockedSiteStay := by
  unfold Obligations.ProtectedBytesAndLockedSiteStay
  intro s t h hs
  have hg : s.store.Guards t.store := (guards_leads (s.worksUnprotected_iff.1 h)).step rfl hs
  exact ⟨t.worksUnprotected_iff.2 hg.works, hg.bytes, hg.site⟩

end Sys2Proof.Machine
end

section
/-! The completion of a store operation (O43): the Condition and the Mismatch Count it tells of (R162, R164). -/

namespace Sys2Proof.Machine

/-! ## Mismatches (R162, R170) -/

theorem mismatches_cons (x y : Byte) (xs ys : Bytes) :
    mismatches (x :: xs) (y :: ys) = (if x ≠ y then 1 else 0) + mismatches xs ys := by
  by_cases h : x = y <;> simp [mismatches, h, Nat.add_comm]

/-- A field differs from what was given where some byte mismatches. -/
theorem mismatches_pos_iff {stored given : Bytes} (h : stored.length = given.length) :
    0 < mismatches stored given ↔ stored ≠ given := by
  induction stored generalizing given with
  | nil =>
    obtain rfl := List.length_eq_zero_iff.1 h.symm
    simp [mismatches]
  | cons x xs ih =>
    obtain _ | ⟨y, ys⟩ := given
    · cases h
    · rw [mismatches_cons]
      have ih := ih (given := ys) (by simpa using h)
      by_cases hxy : x = y
      · simpa [hxy] using ih
      · simp [hxy]

/-- R162: the addressed bytes that differ from the data bytes, by their places. -/
theorem mismatches_map (f : Nat → Byte) (data : Bytes) : mismatches ((List.range data.length).map f) data =
    ((List.range data.length).filter fun i => decide (f i ≠ data.getD i 0xFF)).length := by
  induction data generalizing f with
  | nil => rfl
  | cons y ys ih =>
    rw [List.length_cons, List.range_succ_eq_map, List.map_cons, List.map_map, mismatches_cons, ih]
    rw [List.filter_cons, List.filter_map, List.getD_cons_zero]
    by_cases h : f 0 = y <;> simp [h, Function.comp_def, Nat.add_comm]

/-! ## What STORE_DONE tells (R164) -/

namespace TemplateStore

variable (st : TemplateStore)

theorem outcome_eraseSector (k : SectorNo) : (st.complete (.eraseSector k)).outcome (.eraseSector k) = u8 0 ++ u16 0 := by
  have hsettled : (st.complete (.eraseSector k)).unsettled[k] = false := by simp [complete]
  rw [outcome, hsettled]
  rfl

theorem outcome_programPage (k : SectorNo) (g : Fin 16) (o : Nat) (data : Bytes) (was : Bool) :
    (st.complete (.programPage k g o data was)).outcome (.programPage k g o data was) = flag was ++ u16
      ((List.range data.length).filter fun i => decide
        ((st.complete (.programPage k g o data was)).byte (programBase k g o + i) ≠ data.getD i 0xFF)).length := by
  have hcondition : (st.complete (.programPage k g o data was)).unsettled[k] = was := by simp [complete]
  rw [outcome, hcondition, bytes, mismatches_map]
  rfl

end TemplateStore

/-- Settles O43: the completed store is the model's own, its bytes by the lemmas above, and the rest of the step is STORE_DONE and
the channels that read. -/
theorem storeCompletionWritesTheBytes : Obligations.StoreCompletionWritesTheBytes := by
  unfold Obligations.StoreCompletionWritesTheBytes
  intro op s hrunning hop
  have hstore := State.completeStore_store hop
  refine ⟨s.completeStore, congrArg Host.Outcome.next (if_pos hrunning), ?_⟩
  beta_reduce
  rw [hstore]
  refine ⟨fun k hk => ?_, fun hall => ?_, fun k g o data was hpage => ?_, ?kept, ?told⟩
  · subst hk
    exact ⟨s.store.byte_complete_eraseSector k, rfl⟩
  · subst hall
    exact ⟨s.store.byte_complete_eraseAll, rfl⟩
  · subst hpage
    exact ⟨s.store.byte_complete_programPage k g o data was, rfl⟩
  case kept => cases op <;> rfl
  case told =>
    rw [State.completeStore_eq hop, State.storeDone]
    cases op with
    | eraseSector k =>
      rw [TemplateStore.outcome_eraseSector, ← List.append_assoc]
      rfl
    | eraseAll => rfl
    | programPage k g o data was =>
      rw [TemplateStore.outcome_programPage, ← List.append_assoc]
      rfl

end Sys2Proof.Machine
end

section
/-! The commands of the Template Store on the bytes that carry them (O42): the layouts, the latch (R159), and what each command comes
to on an IDLE and on a BUSY store (R160 to R162). -/

namespace Sys2Proof.Machine

/-! ## Layouts (R160 to R162, R167) -/

theorem readByte_bytes (k : SectorNo) : readByte (u8 k.val) = some k.val := by
  simp [readByte, Nat.mod_eq_of_lt (show k.val < 256 by omega)]

theorem readProgramPage_bytes (k : SectorNo) (g : Fin 16) (o n : Nat) (data : Bytes) :
    readProgramPage (u8 k.val ++ u8 g.val ++ u8 o ++ u16 n ++ data) = some (k.val, g.val, o % 256, n % 65536, data) := by
  simp [readProgramPage, List.append_assoc, Nat.mod_eq_of_lt (show k.val < 256 by omega),
    Nat.mod_eq_of_lt (show g.val < 256 by omega)]

theorem readSetProtect_bytes (span : Fin 8) (lock : Bool) :
    readSetProtect (u8 span.val ++ flag lock) = some (span.val, if lock then 1 else 0) := by
  simp [readSetProtect, Nat.mod_eq_of_lt (show span.val < 256 by omega)]

theorem readSetProtect_pair (span lock : Byte) : readSetProtect [span, lock] = some (span.toNat, lock.toNat) := by
  simp [readSetProtect, readNat, beNat]

theorem readSetProtect_of_length {args : Bytes} (h : args.length ≠ 2) : readSetProtect args = none := by
  match args, h with
  | [], _ => rfl
  | [_], _ => rfl
  | [_, _], h => exact absurd rfl h
  | _ :: _ :: _ :: _, _ => rfl

/-! ## The latch (R159) -/

/-- The latch taken. -/
def State.latchTaken (s : State) : State := { s with store := { s.store with writeEnable := false } }

theorem State.latchTaken_of_clear {s : State} (h : s.store.writeEnable = false) : s.latchTaken = s := by
  unfold State.latchTaken
  rw [← h]

section
variable {s : State}

theorem latched_busy (h : s.store.operation ≠ none) (ok : Bool) (body : State → Answer) :
    latched ok body s = s.refuse .busy :=
  if_pos (s.store.busy_iff.2 h)

variable (h : s.store.operation = none) (body : State → Answer)
include h

theorem latched_badArg : latched false body s = s.latchTaken.refuse .badArg :=
  (if_neg (s.store.not_busy_iff.2 h)).trans (if_pos rfl)

theorem latched_notEnabled (hlatch : s.store.writeEnable = false) : latched true body s = s.latchTaken.refuse .notEnabled :=
  (if_neg (s.store.not_busy_iff.2 h)).trans ((if_neg (by decide)).trans (if_pos hlatch))

theorem latched_passes (hlatch : s.store.writeEnable = true) : latched true body s = body s.latchTaken :=
  (if_neg (s.store.not_busy_iff.2 h)).trans ((if_neg (by decide)).trans
    (if_neg (by rw [hlatch]; decide)))

end

theorem noArgs_nil (body : State → Answer) (s : State) : noArgs [] body s = body s := if_pos rfl

/-- R159: Write Enable and Write Disable on an IDLE store. -/
theorem setLatch_idle {s : State} (h : s.store.operation = none) (v : Bool) :
    setLatch v [] s = ({ s with store := { s.store with writeEnable := v } }, .ok, flag s.store.writeEnable) :=
  (noArgs_nil _ s).trans (if_neg (s.store.not_busy_iff.2 h))

theorem setLatch_busy {s : State} (h : s.store.operation ≠ none) (v : Bool) : setLatch v [] s = s.refuse .busy :=
  (noArgs_nil _ s).trans (if_pos (s.store.busy_iff.2 h))

/-! ## Each command as a latched one -/

theorem eraseSector_bytes (k : SectorNo) (s : State) : eraseSector (u8 k.val) s = latched true (eraseSectorBody k) s := by
  rw [eraseSector, readByte_bytes]
  dsimp only
  rw [toFin_val]

theorem eraseAll_empty (s : State) : eraseAll [] s = latched true eraseAllBody s := noArgs_nil _ s

theorem programPage_bytes (k : SectorNo) (g : Fin 16) (o : Nat) (data : Bytes) (s : State) :
    programPage (u8 k.val ++ u8 g.val ++ u8 o ++ u16 data.length ++ data) s =
      latched (goodProgram (o % 256) (data.length % 65536) data) (programPageBody k g (o % 256) data) s := by
  rw [programPage, readProgramPage_bytes]
  dsimp only
  rw [toFin_val, toFin_val]

theorem setProtect_bytes (span : Fin 8) (lock : Bool) (s : State) :
    setProtect (u8 span.val ++ flag lock) s = latched true (setProtectBody span lock) s := by
  rw [setProtect, readSetProtect_bytes]
  dsimp only
  rw [toFin_val]
  cases lock <;> rfl

theorem siteProgram_bytes {b : Bytes} (h : b.length = 39) (s : State) :
    siteProgram b s = latched (goodSite b) (siteProgramBody b) s := if_neg (not_ne_iff.2 h)

theorem siteLock_empty (s : State) : siteLock [] s = latched true siteLockBody s := noArgs_nil _ s

/-! ## Erases and programs past the latch (R160 to R162) -/

theorem State.sectorInUse_eq_false {s : State} {k : SectorNo} (h : ∀ j ∈ s.print.jobs, k ∉ j.sectors) :
    s.sectorInUse k = false :=
  List.any_eq_false.2 fun j hj hk => h j hj (List.contains_iff_mem.1 hk)

theorem eraseSectorBody_protected {t : State} {k : SectorNo} (h : t.store.protects k = true) :
    eraseSectorBody k t = t.refuse .spanProtected := if_pos h

theorem eraseSectorBody_begins {t : State} {k : SectorNo} (h : t.store.protects k = false)
    (hfree : ∀ j ∈ t.print.jobs, k ∉ j.sectors) : eraseSectorBody k t =
      (t.setStore (t.store.begin (.eraseSector k) (t.store.unsettled.set k true)), .accepted, u8 k.val) := by
  rw [eraseSectorBody, h, State.sectorInUse_eq_false hfree]
  rfl

theorem eraseAllBody_begins {t : State} (h : t.store.protectSpan = 0) (hfree : t.print.jobs = []) :
    eraseAllBody t = (t.setStore (t.store.begin .eraseAll (Vector.replicate 32 true)), .accepted, []) :=
  (if_neg (not_ne_iff.2 h)).trans (if_neg (not_ne_iff.2 hfree))

theorem programPageBody_begins {t : State} {k : SectorNo} (h : t.store.protects k = false)
    (hfree : ∀ j ∈ t.print.jobs, k ∉ j.sectors) (g : Fin 16) (o : Nat) (data : Bytes) : programPageBody k g o data t =
      (t.setStore (t.store.begin (.programPage k g o data t.store.unsettled[k]) (t.store.unsettled.set k true)), .accepted,
        u8 k.val ++ u8 g.val) := by
  rw [programPageBody, h, State.sectorInUse_eq_false hfree]
  rfl

/-- R162, check 2: the data that fit their page pass, and their fields are read as given. -/
theorem programPage_fits {o : Nat} {data : Bytes} (hlen : 1 ≤ data.length) (hend : o + data.length ≤ 256) (k : SectorNo)
    (g : Fin 16) (s : State) : programPage (u8 k.val ++ u8 g.val ++ u8 o ++ u16 data.length ++ data) s =
      latched true (programPageBody k g o data) s := by
  have hgood : goodProgram o data.length data = true := decide_eq_true ⟨hlen, by omega, hend, rfl⟩
  rw [programPage_bytes, Nat.mod_eq_of_lt (show o < 256 by omega), Nat.mod_eq_of_lt (show data.length < 65536 by omega), hgood]

/-- A command whose body is known and writes the Template Store alone. -/
theorem runCommand_stores {c : Command} {tag : Byte} {args : Bytes} {s : State} {st : TemplateStore} {r : Result}
    {content : Bytes} (h : s.takesCommand (some c) = true) (hb : c.body args s = ({ s with store := st }, r, content)) :
    runCommand c tag args s = .next (({ s with store := st } : State).replied c tag r content) :=
  runCommand_replies h hb (State.restartPending_of_takes h)

/-- Settles O42: each layout is read back, an IDLE store takes the latch and then makes the checks, and a BUSY one makes none. -/
theorem storeOperationsAreAccepted : Obligations.StoreOperationsAreAccepted := by
  unfold Obligations.StoreOperationsAreAccepted
  intro tag s
  refine ⟨fun hidle => ⟨fun htakes => ?enable, fun htakes => ?disable, fun k htakes =>
    ⟨fun hclear => ?notEnabled, fun hset hspan => ?inSpan, fun hset hspan hfree => ?eraseSector⟩,
    fun htakes hset hspan hfree => ?eraseAll, fun k g o data htakes hset hspan hfree hlen hend => ?program⟩, fun hbusy => ?busy⟩
  case enable => exact runCommand_stores (c := .writeEnable) htakes (setLatch_idle hidle true)
  case disable => exact runCommand_stores (c := .writeDisable) htakes (setLatch_idle hidle false)
  case notEnabled =>
    have hbody := (eraseSector_bytes k s).trans (latched_notEnabled hidle _ hclear)
    rw [State.latchTaken_of_clear hclear] at hbody
    exact runCommand_reads (c := .eraseSector) htakes hbody
  case inSpan =>
    exact runCommand_stores (c := .eraseSector) htakes
      ((eraseSector_bytes k s).trans ((latched_passes hidle _ hset).trans (eraseSectorBody_protected hspan)))
  case eraseSector =>
    exact runCommand_stores (c := .eraseSector) htakes
      ((eraseSector_bytes k s).trans ((latched_passes hidle _ hset).trans (eraseSectorBody_begins hspan hfree)))
  case eraseAll =>
    exact runCommand_stores (c := .eraseAll) htakes
      ((eraseAll_empty s).trans ((latched_passes hidle _ hset).trans (eraseAllBody_begins hspan hfree)))
  case program =>
    exact runCommand_stores (c := .programPage) htakes
      ((programPage_fits hlen hend k g s).trans ((latched_passes hidle _ hset).trans
        (programPageBody_begins (t := s.latchTaken) hspan hfree g o data)))
  case busy =>
    exact ⟨fun htakes => runCommand_reads (c := .writeEnable) htakes (setLatch_busy hbusy true),
      fun htakes => runCommand_reads (c := .writeDisable) htakes (setLatch_busy hbusy false),
      fun k htakes => runCommand_reads (c := .eraseSector) htakes ((eraseSector_bytes k s).trans (latched_busy hbusy _ _)),
      fun htakes => runCommand_reads (c := .eraseAll) htakes ((eraseAll_empty s).trans (latched_busy hbusy _ _)),
      fun k g o data htakes _ =>
        runCommand_reads (c := .programPage) htakes ((programPage_bytes k g o data s).trans (latched_busy hbusy _ _)),
      fun span lock htakes =>
        runCommand_reads (c := .setProtect) htakes ((setProtect_bytes span lock s).trans (latched_busy hbusy _ _)),
      fun b htakes hlen => runCommand_reads (c := .siteProgram) htakes ((siteProgram_bytes hlen s).trans (latched_busy hbusy _ _)),
      fun htakes => runCommand_reads (c := .siteLock) htakes ((siteLock_empty s).trans (latched_busy hbusy _ _))⟩

end Sys2Proof.Machine
end

section
/-! Set Protect, Site Program and Site Lock on the bytes that carry them (O44): the values out of range, the lock test (R167), the
bytes of the Site Record and its fields in the reply (R170), and the lock (R171). -/

namespace Sys2Proof.Machine

/-! ## Set Protect (R167) -/

theorem setProtectBody_sets {t : State} {span : Fin 8} {lock : Bool} (h : t.lockTest span lock = true) :
    setProtectBody span lock t =
      (t.setStore { t.store with protectSpan := span, protectLock := lock }, .ok, u8 span.val ++ flag lock) :=
  if_neg (by rw [h]; decide)

theorem setProtectBody_refused {t : State} {span : Fin 8} {lock : Bool} (h : t.lockTest span lock = false) :
    setProtectBody span lock t = t.refuse .spanProtected := if_pos h

theorem State.lockTest_iff (s : State) (span : Fin 8) (lock : Bool) : s.lockTest span lock = true ↔
    s.store.protectLock = false ∨ s.control.keyActive = true ∨ (span = s.store.protectSpan ∧ lock = true) := by
  simp [State.lockTest, or_assoc]

theorem setProtect_malformed {args : Bytes} (h : args.length ≠ 2) (s : State) : setProtect args s = s.refuse .badArg := by
  rw [setProtect, readSetProtect_of_length h]

/-- R167, check 2: a span or a lock value out of range is refused before the latch is looked at, and takes it. -/
theorem setProtect_outOfRange {s : State} (h : s.store.operation = none) {span lock : Byte}
    (hrange : 8 ≤ span.toNat ∨ 2 ≤ lock.toNat) : setProtect [span, lock] s = s.latchTaken.refuse .badArg := by
  rw [setProtect, readSetProtect_pair]
  dsimp only
  cases hspan : toFin 8 span.toNat with
  | none => exact latched_badArg h _
  | some k =>
    have hlt : span.toNat < 8 := by
      rw [toFin_eq_some.1 hspan]
      exact k.isLt
    dsimp only
    rw [decide_eq_false (p := lock.toNat ≤ 1) (by omega)]
    exact latched_badArg h _

/-! ## Site Program (R170) -/

/-- R170, check 2: the Currency Exponent and the characters. -/
theorem goodSite_iff (b : Bytes) : goodSite b = true ↔ ((b.getD 2 0).toNat ≤ 3 ∨ b.getD 2 0 = 0xFF)
    ∧ ∀ c ∈ b.drop 3, (0x20 ≤ c.toNat ∧ c.toNat ≤ 0x7E) ∨ c = 0xFF := by
  simp only [goodSite, goodSiteByte, Bool.and_eq_true, Bool.or_eq_true, List.all_eq_true, decide_eq_true_eq]

/-- What a Site Program of these bytes makes of each byte of the Site Record. -/
def TemplateStore.sited (st : TemplateStore) (b : Bytes) (a : Nat) : Byte :=
  Sparse.get erasedByte st.siteRecord a &&& b.getD a 0xFF

namespace TemplateStore

variable (st : TemplateStore) {b : Bytes}

theorem get_programSite (h : b.length = 39) (a : Nat) :
    Sparse.get erasedByte (st.programSite b).siteRecord a = st.sited b a := by
  rw [programSite, Sparse.get_update, sited]
  by_cases ha : a < 39
  · rw [if_pos ⟨Nat.zero_le a, by omega⟩, Nat.sub_zero]
  · have hpast : b.getD a 0xFF = BitVec.allOnes 8 := List.getD_eq_default _ _ (by omega)
    rw [if_neg (by omega), hpast, BitVec.and_allOnes]

/-- A field of the record programmed, as a part of all 39 bytes. -/
theorem site_programSite (h : b.length = 39) {a n : Nat} (hend : a + n ≤ 39) :
    (st.programSite b).site a n = (((List.range 39).map (st.sited b)).drop a).take n := by
  refine List.ext_getElem (by simp [site]; omega) fun i hi _ => ?_
  simp [site, st.get_programSite h]

/-- R170: a field as stored, with whether it differs from the field given. -/
theorem siteField_programSite (h : b.length = 39) {a n : Nat} (hend : a + n ≤ 39) :
    (st.programSite b).siteField b a n = (((List.range 39).map (st.sited b)).drop a).take n
      ++ flag (decide ((((List.range 39).map (st.sited b)).drop a).take n ≠ (b.drop a).take n)) := by
  have hlen : ((((List.range 39).map (st.sited b)).drop a).take n).length = ((b.drop a).take n).length := by simp [h]
  rw [siteField, st.site_programSite h hend, decide_eq_decide.2 (mismatches_pos_iff hlen)]

end TemplateStore

theorem siteProgramBody_locked {t : State} (h : t.store.siteLock = true) (b : Bytes) :
    siteProgramBody b t = t.refuse .locked := if_pos h

theorem siteProgramBody_writes {t : State} (h : t.store.siteLock = false) (b : Bytes) : siteProgramBody b t =
    (t.setStore (t.store.programSite b), .ok, (t.store.programSite b).siteField b 0 2 ++ (t.store.programSite b).siteField b 2 1
      ++ (t.store.programSite b).siteField b 3 4 ++ (t.store.programSite b).siteField b 7 32) :=
  if_neg (by rw [h]; decide)

theorem siteProgram_malformed {b : Bytes} (h : b.length ≠ 39) (s : State) : siteProgram b s = s.refuse .badArg := if_pos h

/-! ## Site Lock (R171) -/

theorem siteLockBody_locked {t : State} (h : t.store.siteLock = true) : siteLockBody t = t.refuse .locked := if_pos h

theorem siteLockBody_open {t : State} (h : t.store.siteLock = false) : siteLockBody t =
    if 3 < t.store.exponent then t.refuse .badState
    else (t.setStore { t.store with siteLock := true }, .ok, []) := if_neg (by rw [h]; decide)

theorem siteLock_malformed {args : Bytes} (h : args ≠ []) (s : State) : siteLock args s = s.refuse .badArg := if_neg h

/-- Settles O44: what each command comes to on bytes of its layout goes by the check that fails first, and a payload of another
layout is refused before the latch. -/
theorem protectionAndSiteRecord : Obligations.ProtectionAndSiteRecord := by
  unfold Obligations.ProtectionAndSiteRecord
  intro tag s hidle taken
  refine ⟨fun span lock htakes hset => ⟨fun htest => ?sets, fun hlock hkey hother => ?refused⟩,
    fun b htakes hlen hset hexponent hchars => ?programs,
    fun htakes hset => ⟨fun hopen hexponent => ?locks, fun hopen hexponent => ?badState, fun hlock => ?lockLocked⟩,
    fun htakes => ⟨fun args hlen => ?malformed, fun span lock hrange => ?outOfRange, fun span lock hclear => ?notEnabled⟩,
    fun htakes b => ⟨fun hlen => ?siteMalformed, fun hlen => ?siteChecks⟩,
    fun htakes => ⟨fun args hargs => ?lockMalformed, fun hclear => ?lockNotEnabled⟩⟩
  case sets =>
    exact runCommand_stores (c := .setProtect) htakes ((setProtect_bytes span lock s).trans ((latched_passes hidle _ hset).trans
      (setProtectBody_sets (t := s.latchTaken) ((s.latchTaken.lockTest_iff span lock).2 htest))))
  case refused =>
    have htest : s.latchTaken.lockTest span lock = false := Bool.eq_false_of_not_eq_true fun htest => by
      rcases (s.latchTaken.lockTest_iff span lock).1 htest with h | h | ⟨hspan, hset⟩
      · exact Bool.false_ne_true (h.symm.trans hlock)
      · exact Bool.false_ne_true (hkey.symm.trans h)
      · rcases hother with h | h
        · exact h hspan
        · exact Bool.false_ne_true (h.symm.trans hset)
    exact runCommand_stores (c := .setProtect) htakes ((setProtect_bytes span lock s).trans ((latched_passes hidle _ hset).trans
      (setProtectBody_refused htest)))
  case programs =>
    have hpast : siteProgram b s = siteProgramBody b s.latchTaken := by
      rw [siteProgram_bytes hlen, (goodSite_iff b).2 ⟨hexponent, hchars⟩, latched_passes hidle _ hset]
    refine ⟨fun hopen => ?_, fun hlock => runCommand_stores (c := .siteProgram) htakes
      (hpast.trans (siteProgramBody_locked (t := s.latchTaken) hlock b))⟩
    refine ⟨_, runCommand_stores (c := .siteProgram) htakes (hpast.trans (siteProgramBody_writes (t := s.latchTaken) hopen b)),
      s.latchTaken.store.get_programSite hlen, ?_⟩
    have hfield := fun {a n : Nat} => s.latchTaken.store.siteField_programSite hlen (a := a) (n := n)
    rw [hfield (by decide), hfield (by decide), hfield (by decide), hfield (by decide)]
    rfl
  case locks =>
    exact runCommand_stores (c := .siteLock) htakes ((siteLock_empty s).trans ((latched_passes hidle _ hset).trans
      ((siteLockBody_open (t := s.latchTaken) hopen).trans (if_neg (not_lt.2 hexponent)))))
  case badState =>
    exact runCommand_stores (c := .siteLock) htakes ((siteLock_empty s).trans ((latched_passes hidle _ hset).trans
      ((siteLockBody_open (t := s.latchTaken) hopen).trans (if_pos hexponent))))
  case lockLocked =>
    exact runCommand_stores (c := .siteLock) htakes ((siteLock_empty s).trans ((latched_passes hidle _ hset).trans
      (siteLockBody_locked (t := s.latchTaken) hlock)))
  case malformed => exact runCommand_reads (c := .setProtect) htakes (setProtect_malformed hlen s)
  case outOfRange => exact runCommand_stores (c := .setProtect) htakes (setProtect_outOfRange hidle hrange)
  case notEnabled =>
    exact runCommand_stores (c := .setProtect) htakes ((setProtect_bytes span lock s).trans (latched_notEnabled hidle _ hclear))
  case siteMalformed => exact runCommand_reads (c := .siteProgram) htakes (siteProgram_malformed hlen s)
  case siteChecks =>
    have hlatched := siteProgram_bytes hlen s
    refine ⟨fun hbad => ?_, fun hgood hclear => ?_⟩
    · rw [Bool.eq_false_of_not_eq_true (hbad ∘ (goodSite_iff b).1), latched_badArg hidle] at hlatched
      exact runCommand_stores (c := .siteProgram) htakes hlatched
    · rw [(goodSite_iff b).2 hgood, latched_notEnabled hidle _ hclear] at hlatched
      exact runCommand_stores (c := .siteProgram) htakes hlatched
  case lockMalformed => exact runCommand_reads (c := .siteLock) htakes (siteLock_malformed hargs s)
  case lockNotEnabled =>
    exact runCommand_stores (c := .siteLock) htakes ((siteLock_empty s).trans (latched_notEnabled hidle _ hclear))

end Sys2Proof.Machine
end

section
/-! Pass-through frames (R183, R184) and the arrivals that change nothing (R185, R200; O48). -/

namespace Sys2Proof.Machine

/-! ## Pass-through (R183, R184) -/

section
variable {s : State} {p : PortNo} (tag : Byte) (payload : Bytes)

theorem exec_kioskPass (h : s.takesFrames p = true) :
    exec (.kioskPass p tag payload) s = .next ((s.goodFrame p).passUp p tag payload) :=
  congrArg Host.Outcome.next (if_neg (by rw [h]; decide))

/-- R183: a frame joins the upward buffer of a port that may pass frames, while the link is UP and the buffer has room. -/
theorem State.passUp_joins (hallowed : (s.port p).passAllowed = true) (hlink : s.uplink.linkUp = true)
    (hroom : (s.upwardOf p).length < 4) : s.passUp p tag payload = { s with uplink := { s.uplink with
      upwardPass := s.uplink.upwardPass ++ [{ port := p, tag := tag, payload := payload }] } } :=
  if_pos (by rw [hallowed, hlink, decide_eq_true hroom]; rfl)

theorem State.passUp_dropped (h : (s.port p).passAllowed = false ∨ s.uplink.linkUp = false ∨ 4 ≤ (s.upwardOf p).length) :
    s.passUp p tag payload = s := by
  refine if_neg ?_
  simpa only [Bool.and_eq_true, decide_eq_true_eq, not_and_or, or_assoc, Bool.not_eq_true, not_lt] using h

/-- R184: a frame joins the downward buffer of an ACTIVE port that may pass frames, while the buffer has room. -/
theorem State.passDown_joins (hactive : (s.port p).state = .active) (hallowed : (s.port p).passAllowed = true)
    (hroom : (s.port p).downPass.length < 4) : s.passDown p tag payload =
      s.setPort p { s.port p with downPass := (s.port p).downPass ++ [{ tag := tag, payload := payload }] } :=
  if_pos (by rw [hactive, hallowed, decide_eq_true hroom]; rfl)

theorem State.passDown_dropped
    (h : (s.port p).state ≠ .active ∨ (s.port p).passAllowed = false ∨ 4 ≤ (s.port p).downPass.length) :
    s.passDown p tag payload = s := by
  refine if_neg ?_
  simpa only [Bool.and_eq_true, decide_eq_true_eq, not_and_or, or_assoc, Bool.not_eq_true, not_lt] using h

/-- R184, checks 1 to 3: a frame is dropped whose port is none of the sixteen, whose payload is too long, or that arrives in
NIGHT. -/
theorem State.uplinkPass_dropped {b : Byte} (h : 16 ≤ b.toNat ∨ 240 < payload.length ∨ s.takesUplink = false) :
    s.uplinkPass b tag payload = s := by
  unfold State.uplinkPass
  split
  · rfl
  · rename_i q hq
    have hport : ¬ 16 ≤ b.toNat := by rw [toFin_eq_some.1 hq]; exact not_le.2 q.isLt
    refine if_neg ?_
    simpa only [Bool.and_eq_true, decide_eq_true_eq, not_and_or, Bool.not_eq_true, not_le] using h.resolve_left hport

/-- R184: a frame past those checks goes by its port. -/
theorem State.uplinkPass_named {b : Byte} (hb : b.toNat = p.val) (hlen : payload.length ≤ 240) (htakes : s.takesUplink = true) :
    s.uplinkPass b tag payload = s.passDown p tag payload := by
  rw [State.uplinkPass, hb, toFin_val]
  exact if_pos (by rw [htakes, decide_eq_true hlen]; rfl)

end

/-! ## Discarded envelopes (R185) -/

theorem sortEnvelope_foreign {ty : BitVec 16} {ok : Bool} {data : Bytes} (h : ty ≠ 0x89C2 ∨ ok = false ∨ data.length < 5) :
    sortEnvelope ty ok data = none := by
  unfold sortEnvelope
  split
  · rename_i port cls tag l1 l2 rest
    dsimp only
    rcases h with h | h | h
    · exact if_pos h
    · rw [if_pos h]
      exact ite_self none
    · simp only [List.length_cons] at h
      omega
  · rfl

/-- R185: an envelope that is cut short, or whose Class and Port the table does not hold. -/
theorem sortEnvelope_unlisted {port cls tag l1 l2 : Byte} {rest : Bytes}
    (h : rest.length < l1.toNat * 256 + l2.toNat ∨ (cls ≠ 0x70 ∧ cls ≠ 0x72 ∧ cls ≠ 0x30)
      ∨ ((cls = 0x70 ∨ cls = 0x72) ∧ port ≠ 255) ∨ (cls = 0x30 ∧ 16 ≤ port.toNat)) (ty : BitVec 16) (ok : Bool) :
    sortEnvelope ty ok (port :: cls :: tag :: l1 :: l2 :: rest) = none := by
  have hnone : ¬ rest.length < l1.toNat * 256 + l2.toNat →
      ¬ (cls = mgmtClass ∧ port = 255) ∧ ¬ (cls = authResponseClass ∧ port = 255) ∧ ¬ (cls = passClass ∧ port.toNat < 16) := by
    intro hlong
    rcases h with h | ⟨h1, h2, h3⟩ | ⟨h, hport⟩ | ⟨rfl, hport⟩
    · exact absurd h hlong
    · exact ⟨fun hc => h1 hc.1, fun hc => h2 hc.1, fun hc => h3 hc.1⟩
    · refine ⟨fun hc => hport hc.2, fun hc => hport hc.2, fun hc => ?_⟩
      rw [hc.1] at h
      exact absurd h (by decide)
    · exact ⟨fun hc => absurd hc.1 (by decide), fun hc => absurd hc.1 (by decide), fun hc => not_lt.2 hport hc.2⟩
  unfold sortEnvelope
  dsimp only
  split
  · rfl
  · split
    · rfl
    · split
      · rfl
      · rename_i hlong
        obtain ⟨hmgmt, hauth, hpass⟩ := hnone hlong
        rw [if_neg hmgmt, if_neg hauth, if_neg hpass]

theorem exec_envelope_discarded {ty : BitVec 16} {ok : Bool} {data : Bytes} (h : sortEnvelope ty ok data = none) (s : State) :
    exec (.uplinkEnvelopeDiscarded ty ok data) s = .next s := by
  show execUplinkEnvelopeDiscarded ty ok data s = _
  rw [execUplinkEnvelopeDiscarded, h]

/-! ## Codes that name no command (R200) -/

theorem exec_unknownCommand {code : Byte} (h : Command.ofCode code = none) (tag : Byte) (args : Bytes) (s : State) :
    exec (.unknownCommand tag (code :: args)) s = .next (s.unknownCode tag code) := by
  show execUnknownCommand tag (code :: args) s = _
  unfold execUnknownCommand
  dsimp only
  rw [h]

/-- Settles O48: each drop is a check that fails, and the frames past the checks join the buffers of their port. -/
theorem passThroughAndStrays : Obligations.PassThroughAndStrays := by
  unfold Obligations.PassThroughAndStrays
  refine ⟨fun p tag payload s htakes => ?up, fun b tag payload s => ?down, fun ty ok data s => ?discarded,
    fun tag code args s hcode => ?unknown⟩
  case up =>
    intro heard up
    have hallowed : (heard.port p).passAllowed = (s.port p).passAllowed := by
      show ((s.goodFrame p).port p).passAllowed = _
      rw [State.goodFrame, State.port_setPort, if_pos rfl]
    have hexec := exec_kioskPass tag payload htakes
    exact ⟨fun h hlink hroom => hexec.trans (congrArg Host.Outcome.next
        (State.passUp_joins (s := heard) tag payload (hallowed.trans h) hlink hroom)),
      fun h => hexec.trans (congrArg Host.Outcome.next (State.passUp_dropped (s := heard) tag payload (by rwa [hallowed])))⟩
  case down =>
    have hdropped : (16 ≤ b.toNat ∨ 240 < payload.length ∨ s.takesUplink = false) → exec (.uplinkPass b tag payload) s = .next s :=
      fun h => congrArg Host.Outcome.next (State.uplinkPass_dropped tag payload h)
    refine ⟨fun h => hdropped (.inl h), fun h => hdropped (.inr (.inl h)), fun h => hdropped (.inr (.inr ?_)),
      fun p hb hrun hfoyer hlen => ?_⟩
    · rw [State.takesUplink, h]
      exact Bool.and_false _
    · have htakes : s.takesUplink = true := by rw [State.takesUplink, hrun, decide_eq_true hfoyer]; rfl
      have hnamed := State.uplinkPass_named tag payload hb hlen htakes
      exact ⟨fun hactive hallowed hroom =>
          congrArg Host.Outcome.next (hnamed.trans (State.passDown_joins tag payload hactive hallowed hroom)),
        fun h => congrArg Host.Outcome.next (hnamed.trans (State.passDown_dropped tag payload h))⟩
  case discarded =>
    refine ⟨fun h => exec_envelope_discarded (sortEnvelope_foreign h) s, fun port cls tag l1 l2 rest hdata h => ?_⟩
    rw [hdata]
    exact exec_envelope_discarded (sortEnvelope_unlisted h ty ok) s
  case unknown =>
    have hexec := exec_unknownCommand hcode tag args s
    exact ⟨fun h => hexec.trans (congrArg Host.Outcome.next (if_neg (by rw [h]; decide))),
      fun h => hexec.trans (congrArg Host.Outcome.next (if_pos h))⟩

end Sys2Proof.Machine
end

section
/-! The uplink's arbiter, its frames and its link (R186, R187), and the Notice Queue (R201 to R203; O49). -/

namespace Sys2Proof.Machine

/-! ## The frame the arbiter starts (R186) -/

section
variable {s : State}

theorem exec_uplinkFrameStart (hrun : s.control.running = true) (hlink : s.uplink.linkUp = true) (hfree : s.uplink.sending = none) :
    exec .uplinkFrameStart s = .next s.uplinkStart :=
  congrArg Host.Outcome.next (if_pos (by rw [hrun, hlink, hfree]; rfl))

theorem exec_uplinkFrameStart_idle (h : s.uplink.linkUp = false ∨ s.uplink.sending ≠ none) :
    exec .uplinkFrameStart s = .next s := by
  refine congrArg Host.Outcome.next (if_neg ?_)
  rw [Bool.and_eq_true, Bool.and_eq_true, Option.isNone_iff_eq_none]
  rintro ⟨⟨-, hlink⟩, hfree⟩
  exact h.elim (fun h => Bool.false_ne_true (h.symm.trans hlink)) (fun h => h hfree)

/-- An AUTH_REQUEST is held for an ACTIVE entry (R186). -/
def State.serves (s : State) (r : AuthRequest) : Bool :=
  s.relay.entries.any (fun e => decide (e.tag = r.tag) && decide (e.state ≠ .lost))

theorem State.nextRequest_oldest {older younger : List AuthRequest} {r : AuthRequest}
    (hrequests : s.uplink.authRequests = older ++ r :: younger) (hr : s.serves r = true) (holder : ∀ q ∈ older, s.serves q = false) :
    s.nextRequest = some r := by
  show s.uplink.authRequests.find? s.serves = some r
  rw [List.find?_eq_some_iff_append]
  exact ⟨hr, older, younger, hrequests, fun q hq => by rw [holder q hq]; rfl⟩

theorem State.nextRequest_none (h : ∀ q ∈ s.uplink.authRequests, s.serves q = false) : s.nextRequest = none := by
  show s.uplink.authRequests.find? s.serves = none
  rw [List.find?_eq_none]
  exact fun q hq => by rw [h q hq]; exact Bool.false_ne_true

theorem State.uplinkStart_request {r : AuthRequest} (h : s.nextRequest = some r) :
    s.uplinkStart = s.uplinkStarts (.authRequest r.tag) (ownEnvelope authRequestClass 0 r.payload) := by
  rw [State.uplinkStart, h]

section
variable (hnone : s.nextRequest = none)
include hnone

theorem State.uplinkStart_reply {r : MgmtReply} {rest : List MgmtReply} (h : s.uplink.replies = r :: rest) :
    s.uplinkStart = s.uplinkStarts .reply (ownEnvelope mgmtClass r.tag r.payload) := by
  rw [State.uplinkStart, hnone]
  dsimp only
  rw [h]

variable (hreplies : s.uplink.replies = [])
include hreplies

theorem State.uplinkStart_notice {n : Notice} {rest : List Notice} (h : s.control.notices = n :: rest) :
    s.uplinkStart = s.startNotice n rest := by
  rw [State.uplinkStart, hnone]
  dsimp only
  rw [hreplies, h]

theorem State.uplinkStart_pass {f : UpwardFrame} {rest : List UpwardFrame} (hnotices : s.control.notices = [])
    (h : s.uplink.upwardPass = f :: rest) : s.uplinkStart = s.uplinkStarts .pass
      { port := BitVec.ofNat 8 f.port.val, cls := passClass, tag := f.tag, payload := f.payload } := by
  rw [State.uplinkStart, hnone]
  dsimp only
  rw [hreplies, hnotices, h]

end

/-! ## The end of a frame, and the link (R186, R187) -/

/-- R199: while no Restart is pending a reply that has been sent takes no reset. -/
theorem State.replySent_of_clear (h : s.control.restartPending = false) : s.replySent = s := by
  rw [State.replySent, h]
  rfl

/-- R186: a frame sent leaves its source. -/
theorem State.uplinkFrameEnd_eq (hclear : s.control.restartPending = false) {x : UplinkSending} (hx : s.uplink.sending = some x) :
    s.uplinkFrameEnd = match x.source with
      | .authRequest t => { s with uplink := { s.uplink with
          sending := none, authRequests := s.uplink.authRequests.filter (fun r => decide (r.tag ≠ t)) } }
      | .reply => { s with uplink := { s.uplink with sending := none, replies := s.uplink.replies.drop 1 } }
      | .notice => { s with
          uplink := { s.uplink with sending := none }, control := { s.control with notices := s.control.notices.drop 1 } }
      | .pass => { s with uplink := { s.uplink with sending := none, upwardPass := s.uplink.upwardPass.drop 1 } }
      | .detached => { s with uplink := { s.uplink with sending := none } } := by
  unfold State.uplinkFrameEnd
  rw [hx]
  dsimp only
  cases x.source with
  | reply => exact State.replySent_of_clear hclear
  | authRequest t => rfl
  | notice => rfl
  | pass => rfl
  | detached => rfl

/-! ## Notices raised (R201 to R203) -/

theorem State.raise_off {k : NoticeKind} (h : s.control.enables.all = false ∨ s.control.enables.kind k = false) (content : Bytes) :
    s.raise k content = s :=
  State.raise_disabled (by rcases h with h | h <;> simp [h]) content

/-- R201: at 32 the oldest notice that is not being sent is discarded and Notices Lost is set. -/
theorem State.raise_full {k : NoticeKind} (hall : s.control.enables.all = true) (hk : s.control.enables.kind k = true)
    (hfull : 32 ≤ s.control.notices.length) (content : Bytes) :
    s.raise k content = { s with control := { s.control with
      notices := s.noticesLessOldest ++
        [{ code := k.code, carriesLost := false, day := s.control.day, seconds := s.control.seconds, content := content }]
      noticesLost := true } } := by
  rw [State.raise, hall, hk]
  exact State.pushNotice_full hfull k.code content

theorem State.noticesLessOldest_waiting (h : ∀ x, s.uplink.sending = some x → x.source ≠ .notice) :
    s.noticesLessOldest = s.control.notices.drop 1 := by
  refine if_neg ?_
  rw [State.sendingNotice, Option.any_eq_true]
  rintro ⟨x, hx, hnotice⟩
  exact h x hx (of_decide_eq_true hnotice)

/-- R203: a head that is being sent stays, and the one behind it is discarded (assumption 26). -/
theorem State.noticesLessOldest_sending {x : UplinkSending} (hx : s.uplink.sending = some x) (hnotice : x.source = .notice) :
    s.noticesLessOldest = s.control.notices.take 1 ++ s.control.notices.drop 2 := by
  refine if_pos ?_
  rw [State.sendingNotice, hx]
  exact decide_eq_true hnotice

end

/-- Settles O49: the arbiter's order by the first source that holds a frame, and a full queue by whether its head is being sent. -/
theorem uplinkArbiterOrder : Obligations.UplinkArbiterOrder := by
  unfold Obligations.UplinkArbiterOrder
  intro s u sent starts served
  refine ⟨fun hrun hlink hfree => ?start, fun h => exec_uplinkFrameStart_idle h, fun hclear x hx => ?ends, fun hclear => ?down,
    fun hrun => congrArg Host.Outcome.next (if_pos hrun), fun k content => ?raised⟩
  case start =>
    have hexec := exec_uplinkFrameStart hrun hlink hfree
    refine ⟨fun older r younger hrequests hr holder => hexec.trans (congrArg Host.Outcome.next
      (State.uplinkStart_request (State.nextRequest_oldest hrequests hr holder))), fun hunserved => ?_⟩
    have hnone : s.nextRequest = none := State.nextRequest_none hunserved
    exact ⟨fun r rest h => hexec.trans (congrArg Host.Outcome.next (State.uplinkStart_reply hnone h)), fun hreplies =>
      ⟨fun n rest h => hexec.trans (congrArg Host.Outcome.next (State.uplinkStart_notice hnone hreplies h)),
        fun f rest hnotices h => hexec.trans (congrArg Host.Outcome.next (State.uplinkStart_pass hnone hreplies hnotices h))⟩⟩
  case ends =>
    have hexec : exec .uplinkFrameEnd s = .next s.uplinkFrameEnd := rfl
    rw [hexec, State.uplinkFrameEnd_eq hclear hx]
    refine ⟨fun t h => ?_, fun h => ?_, fun h => ?_, fun h => ?_⟩
    all_goals rw [h]
  case down => exact congrArg Host.Outcome.next (State.settleRestart_of_clear hclear)
  case raised =>
    refine ⟨fun h => State.raise_off h content, fun hall hk => ⟨fun hroom => State.raise_room hall hk hroom content,
      fun hfull => ?_⟩⟩
    rw [State.raise_full hall hk hfull]
    exact ⟨fun h => by rw [State.noticesLessOldest_waiting h], fun x hx h => by rw [State.noticesLessOldest_sending hx h]⟩

end Sys2Proof.Machine
end

section
/-! The kiosk transmit arbiter (R182), and the end of a print frame for the channel that offered it (R139, R141; O47). -/

namespace Sys2Proof.Machine

section
variable {s : State} {p : PortNo}

/-! ## The frame the arbiter starts -/

theorem exec_kioskFrameStart (hrun : s.control.running = true) (hactive : (s.port p).state = .active)
    (hfree : (s.port p).sending = none) :
    exec (.kioskFrameStart p) s = .next (s.setPort p { s.port p with sending := (s.port p).nextFrame }) :=
  congrArg Host.Outcome.next (if_pos (by rw [hrun, hactive, hfree]; rfl))

theorem exec_kioskFrameStart_sending (h : (s.port p).sending ≠ none) : exec (.kioskFrameStart p) s = .next s := by
  refine congrArg Host.Outcome.next (if_neg ?_)
  rw [Bool.and_eq_true, Option.isNone_iff_eq_none]
  exact fun hc => h hc.2

theorem Port.nextFrame_reply {x : Port} {f : KioskFrame} {rest : List KioskFrame} (h : x.replies = f :: rest) :
    x.nextFrame = some { source := .reply, frame := f } := by
  rw [Port.nextFrame, h]

theorem Port.nextFrame_print {x : Port} {o : PrintOffer} (hreplies : x.replies = []) (h : x.printOffer = some o) :
    x.nextFrame = some { source := .print, frame := o.frame } := by
  rw [Port.nextFrame, hreplies]
  dsimp only
  rw [h]

theorem Port.nextFrame_pass {x : Port} {f : PassFrame} {rest : List PassFrame} (hreplies : x.replies = [])
    (hoffer : x.printOffer = none) (h : x.downPass = f :: rest) :
    x.nextFrame = some { source := .pass, frame := { cls := passClass, tag := f.tag, payload := f.payload } } := by
  rw [Port.nextFrame, hreplies]
  dsimp only
  rw [hoffer, h]

/-! ## The end of a frame -/

section
variable {f : KioskSending} (hf : (s.port p).sending = some f)
include hf

theorem State.kioskFrameEnd_reply (h : f.source = .reply) :
    s.kioskFrameEnd p = s.setPort p { s.port p with sending := none, replies := (s.port p).replies.drop 1 } := by
  simp only [State.kioskFrameEnd, hf, h, State.port_setPort, if_true, State.setPort_setPort]

theorem State.kioskFrameEnd_pass (h : f.source = .pass) :
    s.kioskFrameEnd p = s.setPort p { s.port p with sending := none, downPass := (s.port p).downPass.drop 1 } := by
  simp only [State.kioskFrameEnd, hf, h, State.port_setPort, if_true, State.setPort_setPort]

theorem State.kioskFrameEnd_detached (h : f.source = .detached) :
    s.kioskFrameEnd p = s.setPort p { s.port p with sending := none } := by
  simp only [State.kioskFrameEnd, hf, h]

/-- The port's arbiter once its print frame has been sent. -/
def State.printGone (s : State) (p : PortNo) : State := s.setPort p { s.port p with sending := none, printOffer := none }

section
variable {o : PrintOffer} (h : f.source = .print) (ho : (s.port p).printOffer = some o)
include h ho

theorem State.kioskFrameEnd_print :
    s.kioskFrameEnd p = (s.setPort p { s.port p with sending := none }).printFrameEnd p o := by
  simp only [State.kioskFrameEnd, hf, h, State.port_setPort, if_true, ho]

theorem State.kioskFrameEnd_unserved (hc : s.channelFor p = none) : s.kioskFrameEnd p = s.printGone p := by
  have hchannel : ∀ x : Port, (s.setPort p x).channelFor p = none := fun _ => hc
  rw [State.kioskFrameEnd_print hf h ho]
  simp only [State.printFrameEnd, State.port_setPort, if_true, State.setPort_setPort, hchannel, State.printGone]

section
variable {c : ChannelNo} (hc : s.channelFor p = some c)
include hc

theorem State.kioskFrameEnd_served : s.kioskFrameEnd p =
    if o.current then (s.printGone p).printSent c o.last else (s.printGone p).offer c := by
  have hchannel : ∀ x : Port, (s.setPort p x).channelFor p = some c := fun _ => hc
  rw [State.kioskFrameEnd_print hf h ho]
  simp only [State.printFrameEnd, State.port_setPort, if_true, State.setPort_setPort, hchannel, State.printGone]

/-- R139: the channel that waits for the frame goes on. -/
theorem State.kioskFrameEnd_current (hcurrent : o.current = true) :
    s.kioskFrameEnd p = (s.printGone p).printSent c o.last :=
  (State.kioskFrameEnd_served hf h ho hc).trans (if_pos hcurrent)

/-- R141: a frame that its channel no longer waits for makes room for the channel's next offer (assumption 24). -/
theorem State.kioskFrameEnd_stale (hstale : o.current = false) : s.kioskFrameEnd p = (s.printGone p).offer c :=
  (State.kioskFrameEnd_served hf h ho hc).trans (if_neg (by rw [hstale]; decide))

end

end

end

/-- The channel that serves a port runs a job for it (R141). -/
theorem State.channelFor_dest {c : ChannelNo} (h : s.channelFor p = some c) {j : Job} (hj : s.jobOn c = some j) :
    j.dest = some p := by
  have hserves := List.find?_some h
  rw [hj] at hserves
  exact of_decide_eq_true hserves

theorem State.offer_silent {c : ChannelNo} (h : (s.channel c).state ≠ .send) : s.offer c = s := by
  unfold State.offer
  split
  · rename_i hstate _ _
    exact absurd hstate h
  · rfl

/-- R139: a channel in SEND for the port offers its next frame. -/
theorem State.offer_printGone {c : ChannelNo} {j : Job} {d : Document} {r : Rendered} (hstate : (s.channel c).state = .send)
    (hj : s.jobOn c = some j) (hr : (s.channel c).buffer = some r) (hdest : j.dest = some p) (hd : j.current = some d) :
    (s.printGone p).offer c = s.setPort p { s.port p with
      sending := none, printOffer := some (printFrame j.number d.index r (s.channel c).nextFrame) } := by
  have hchannel : (s.printGone p).channel c = s.channel c := rfl
  have hjob : (s.printGone p).jobOn c = some j := hj
  have hport : (s.printGone p).port p = { s.port p with sending := none, printOffer := none } := by
    rw [State.printGone, State.port_setPort, if_pos rfl]
  simp only [State.offer, hchannel, hstate, hjob, hr, hdest, hd, hport, Option.isNone_none, if_true]
  exact State.setPort_setPort _ _ _ _

end

/-- Settles O47: the arbiter's order by the first source that holds a frame, the end of a frame by its source, and the end of a
print frame by the channel that serves the port. The statement's last clause stands under the binders of the one before it; it is
proved here from lemmas that ask for nothing of them. -/
theorem kioskArbiterOrder : Obligations.KioskArbiterOrder := by
  unfold Obligations.KioskArbiterOrder
  intro p s x put
  have hend : exec (.kioskFrameEnd p) s = .next (s.kioskFrameEnd p) := rfl
  refine ⟨fun hrun hactive hfree => ?start, exec_kioskFrameStart_sending, fun f hf => ⟨fun h => ?reply, fun h => ?pass,
    fun h => ?detached, fun o c h ho hcurrent hc => ⟨fun hlast => ?last, fun hlast => ?next,
      fun o h ho => ⟨fun hnone => ?unserved, fun c hc hstale => ?stale⟩⟩⟩⟩
  case start =>
    have hstarts : ∀ {f}, x.nextFrame = some f → exec (.kioskFrameStart p) s = .next (put { x with sending := some f }) :=
      fun {f} h => h ▸ exec_kioskFrameStart hrun hactive hfree
    exact ⟨fun f rest h => hstarts (Port.nextFrame_reply h), fun o hreplies h => hstarts (Port.nextFrame_print hreplies h),
      fun f rest hreplies hoffer h => hstarts (Port.nextFrame_pass hreplies hoffer h)⟩
  case reply => exact hend.trans (congrArg Host.Outcome.next (State.kioskFrameEnd_reply hf h))
  case pass => exact hend.trans (congrArg Host.Outcome.next (State.kioskFrameEnd_pass hf h))
  case detached => exact hend.trans (congrArg Host.Outcome.next (State.kioskFrameEnd_detached hf h))
  case last =>
    rw [hend, State.kioskFrameEnd_current hf h ho hc hcurrent, hlast]
    rfl
  case next =>
    rw [hend, State.kioskFrameEnd_current hf h ho hc hcurrent, hlast]
    rfl
  case unserved => exact hend.trans (congrArg Host.Outcome.next (State.kioskFrameEnd_unserved hf h ho hnone))
  case stale =>
    have hoffers := State.kioskFrameEnd_stale hf h ho hc hstale
    refine ⟨fun hsilent => hend.trans (congrArg Host.Outcome.next (hoffers.trans (State.offer_silent hsilent))),
      fun j d r hstate hj hd hr => hend.trans (congrArg Host.Outcome.next (hoffers.trans
        (State.offer_printGone hstate hj hr (State.channelFor_dest hc hj) hd)))⟩

end Sys2Proof.Machine
end

section
/-! What a port that leaves ACTIVE lets go of (R41, R60, R62, R179): seats given up by their pool addresses, the claims and the
contents of its basket, and its job. -/

namespace Sys2Proof.Machine

/-! ## Seats given up by their addresses (R7) -/

section
variable {s t u : State} {f g : Nat → Bool}

theorem State.givesUp.congr (h : s.givesUp t f) (hfg : ∀ a, f a = g a) : s.givesUp t g := by
  rwa [← funext hfg]

/-- A seat given up twice is given up. -/
theorem State.givesUp.trans (h : s.givesUp t f) (h' : t.givesUp u g) : s.givesUp u (fun a => f a || g a) := by
  refine ⟨fun a => ?_, fun i => by rw [h'.2 i, h.2 i]⟩
  rw [h'.1 a, h.1 a]
  cases hf : f a with
  | false => simp [hf]
  | true => cases hg : g a with
    | false => simp [hf]
    | true => simp [hf, SeatState.givenUp_givenUp]

theorem State.givesUp_nothing (s : State) : s.givesUp s (fun _ => false) := ⟨fun _ => rfl, fun _ => rfl⟩

theorem State.seatsReturned.givesUp {i : ShowNo} {ks : List Nat} (h : s.seatsReturned t i ks) :
    s.givesUp t (fun a => (s.seatAddresses i ks).contains a) := by
  obtain ⟨hseats, hpool, hshows⟩ := h
  refine ⟨fun a => ?_, hshows.counts⟩
  split
  · rename_i ha
    obtain ⟨k, hk, rfl⟩ := List.mem_map.1 (List.contains_iff_mem.1 ha)
    have hat := hseats k hk
    rwa [State.seatAt_eq_poolSeat, State.seatAt_eq_poolSeat, hshows.mapKept.seatAddress] at hat
  · rename_i ha
    exact hpool a fun hin => ha (List.contains_iff_mem.2 hin)

end

/-- One seat of a pass that gives up the seats of a kind. -/
def State.giveUpKind (c : SeatState → Bool) (s : State) (x : ShowNo × Nat) : State :=
  if c (s.seatAt x.1 x.2).state then s.giveUpSeat x.1 x.2 else s

theorem State.giveUpKind_givesUp (c : SeatState → Bool) (s : State) (x : ShowNo × Nat) :
    s.givesUp (s.giveUpKind c x) (fun a => decide (a = s.seatAddress x.1 x.2) && c (s.poolSeat a).state) := by
  unfold State.giveUpKind
  split
  · rename_i hc
    refine (s.returnSeats_returns x.1 [x.2]).givesUp.congr fun a => ?_
    by_cases ha : a = s.seatAddress x.1 x.2
    · subst ha
      rw [← State.seatAt_eq_poolSeat, hc]
      simp [State.seatAddresses]
    · simp [State.seatAddresses, ha]
  · rename_i hc
    refine s.givesUp_nothing.congr fun a => ?_
    by_cases ha : a = s.seatAddress x.1 x.2
    · subst ha
      rw [← State.seatAt_eq_poolSeat, Bool.eq_false_of_not_eq_true hc, Bool.and_false]
    · rw [decide_eq_false ha, Bool.false_and]

/-- A pass over seats gives up those of a kind, also where two of them share an address. -/
theorem State.foldl_giveUpKind (c : SeatState → Bool) (xs : List (ShowNo × Nat)) (s : State) :
    s.givesUp (xs.foldl (State.giveUpKind c) s)
      (fun a => (xs.map fun x => s.seatAddress x.1 x.2).contains a && c (s.poolSeat a).state) := by
  induction xs generalizing s with
  | nil => exact s.givesUp_nothing
  | cons x xs ih =>
    have hfirst := s.giveUpKind_givesUp c x
    refine (hfirst.trans (ih (s.giveUpKind c x))).congr fun a => ?_
    have haddress : (s.giveUpKind c x).seatAddress = s.seatAddress := by
      funext i k
      exact (State.mapKept_of_counts hfirst.2).seatAddress i k
    rw [haddress]
    cases hx : decide (a = s.seatAddress x.1 x.2) && c (s.poolSeat a).state with
    | true =>
      rw [Bool.and_eq_true, decide_eq_true_eq] at hx
      simp [hx.1 ▸ hx.2, hx.1]
    | false =>
      have hsame : (s.giveUpKind c x).poolSeat a = s.poolSeat a := by
        rw [hfirst.1 a]
        exact if_neg (ne_true_of_eq_false hx)
      rw [hsame]
      cases hc : c (s.poolSeat a).state with
      | false => simp
      | true =>
        rw [hc, Bool.and_true, decide_eq_false_iff_not] at hx
        simp [hx]

theorem State.inAShow_eq (s : State) (a : Nat) :
    s.inAShow a = (s.mapSeats.map fun x => s.seatAddress x.1 x.2).contains a := by
  rw [Bool.eq_iff_iff, List.contains_iff_mem, List.mem_map]
  simp only [State.inAShow, List.any_eq_true, Bool.and_eq_true, decide_eq_true_eq]
  constructor
  · rintro ⟨i, -, ⟨hi, hlow⟩, hhigh⟩
    exact ⟨(i, a - (s.showAt i).seatBase), State.mem_mapSeats.2 ⟨hi, by dsimp only; omega⟩, Nat.add_sub_cancel' hlow⟩
  · rintro ⟨⟨i, k⟩, hx, rfl⟩
    obtain ⟨hi, hk⟩ := State.mem_mapSeats.1 hx
    exact ⟨i, List.mem_finRange i, ⟨hi, Nat.le_add_right _ _⟩, Nat.add_lt_add_left hk _⟩

/-- A pass over every seat of every show that gives up those of a kind. -/
theorem State.forSeats_givesUp (s : State) (c : SeatState → Bool) :
    s.givesUp (s.forSeats fun s i k => if c (s.seatAt i k).state then s.giveUpSeat i k else s)
      (fun a => s.inAShow a && c (s.poolSeat a).state) := by
  have hpass : (s.forSeats fun s i k => if c (s.seatAt i k).state then s.giveUpSeat i k else s)
      = s.mapSeats.foldl (State.giveUpKind c) s :=
    State.forSeats_eq_foldl (fun t i k => State.mapKept_of_counts (t.giveUpKind_givesUp c (i, k)).2) s
  rw [hpass]
  exact (State.foldl_giveUpKind c s.mapSeats s).congr fun a => by rw [s.inAShow_eq]

/-- Such a pass writes the Seat Table alone. -/
theorem State.forSeats_frame (s : State) (c : SeatState → Bool) :
    let t := s.forSeats fun s i k => if c (s.seatAt i k).state then s.giveUpSeat i k else s
    t = { s with seats := { s.seats with shows := t.seats.shows, pool := t.seats.pool } } := by
  refine State.forSeats_keeps
    (P := fun t => t = { s with seats := { s.seats with shows := t.seats.shows, pool := t.seats.pool } }) (fun t i k ht => ?_) rfl
  split
  · conv_lhs => rw [ht]
    rfl
  · exact ht

/-! ## What a void gives back (R60, R62) -/

/-- A port lets go of the seats that `f` picks, of its basket's claims and of its basket's contents, unless it is AUTHORISING. -/
structure State.LetsGo (s t : State) (p : PortNo) (f : Nat → Bool) : Prop where
  seats : s.givesUp t f
  claims : s.claimsReturned t (s.voidable p).claims
  own : t.basket p = if (s.basket p).state = .authorising then s.basket p
    else { Basket.reset with handle := (s.basket p).handle }
  others : ∀ q, q ≠ p → t.basket q = s.basket q

/-- The parts of a state that letting go changes, taken from another. -/
def State.goneParts (s t : State) : State :=
  { s with
    seats := { s.seats with shows := t.seats.shows, pool := t.seats.pool }
    baskets := t.baskets
    vouchers := { s.vouchers with slots := t.vouchers.slots } }

section
variable {s t s' t' : State} {p : PortNo} {f g : Nat → Bool}

/-- Letting go is a matter of seats, baskets and vouchers. -/
theorem State.LetsGo.of_parts (h : s.LetsGo t p f) (hseats : s'.seats = s.seats) (hbaskets : s'.baskets = s.baskets)
    (hvouchers : s'.vouchers = s.vouchers) (hseats' : t'.seats = t.seats) (hbaskets' : t'.baskets = t.baskets)
    (hvouchers' : t'.vouchers = t.vouchers) : s'.LetsGo t' p f := by
  cases s; cases s'; cases t; cases t'
  cases hseats; cases hbaskets; cases hvouchers; cases hseats'; cases hbaskets'; cases hvouchers'
  exact ⟨h.seats, h.claims, h.own, h.others⟩

theorem State.LetsGo.congr (h : s.LetsGo t p f) (hfg : ∀ a, f a = g a) : s.LetsGo t p g :=
  ⟨h.seats.congr hfg, h.claims, h.own, h.others⟩

theorem State.BasketStep.goneParts (h : s.BasketStep t p) : t = s.goneParts t := by
  have hbaskets : t.baskets = s.baskets.set p (t.basket p) := congrArg State.baskets h
  rw [State.goneParts, hbaskets]
  exact h

/-- A basket step that goes on in the Seat Table alone. -/
theorem State.BasketStep.seats {u : State} (h : s.BasketStep t p)
    (hu : u = { t with seats := { t.seats with shows := u.seats.shows, pool := u.seats.pool } }) : s.BasketStep u p := by
  have hbasket : u.basket p = t.basket p := State.basket_of_baskets (congrArg State.baskets hu) p
  have hvouchers : u.vouchers = t.vouchers := (congrArg State.vouchers hu :)
  unfold State.BasketStep State.basketParts at h ⊢
  rw [hbasket, hvouchers]
  conv_lhs => rw [hu, h]

end

theorem State.voidBasket_letsGo {s : State} {p : PortNo} (h : (s.basket p).state ≠ .authorising) :
    s.LetsGo (s.voidBasket p) p (fun a => (s.lineAddresses (s.voidable p)).contains a) := by
  have hvoidable : s.voidable p = s.basket p := if_neg h
  let returned := s.returnSeats (s.basket p).handle.index (s.basket p).seats
  have hseats : (s.voidBasket p).seats = returned.seats :=
    (congrArg State.seats (returned.eachSlot_frame Slot.unclaim (s.basket p).claims) :)
  have hkept : returned.vouchers = s.vouchers :=
    (congrArg State.vouchers (s.returnSeats_seatStep (s.basket p).handle.index (s.basket p).seats).frame :)
  obtain ⟨hbecome, hothers⟩ := returned.eachSlot_spec Slot.unclaim_unclaim (s.basket p).claims
  rw [hvoidable]
  exact {
    seats := (State.seatsReturned_of_seats (s.returnSeats_returns _ _) rfl hseats).givesUp
    claims := by
      rw [hvoidable]
      exact ⟨fun k hk => State.slotBecomes_of_vouchers (hbecome k hk) hkept.symm rfl,
        State.slotsKept_of_vouchers hothers hkept.symm rfl, congrArg State.vouchers (s.basketStep_voidBasket p)⟩
    own := by rw [if_neg h, State.basket_voidBasket, if_pos rfl]; rfl
    others := fun q hq => by rw [State.basket_voidBasket, if_neg hq] }

theorem State.voidUnlessAuthorising_letsGo (s : State) (p : PortNo) :
    s.LetsGo (s.voidUnlessAuthorising p) p (fun a => (s.lineAddresses (s.voidable p)).contains a) := by
  unfold State.voidUnlessAuthorising
  split
  · rename_i h
    have hvoidable : s.voidable p = Basket.reset := if_pos h
    rw [hvoidable]
    exact {
      seats := s.givesUp_nothing
      claims := by
        rw [hvoidable]
        exact ⟨fun k hk => absurd hk List.not_mem_nil, ⟨rfl, fun _ _ => rfl⟩, rfl⟩
      own := (if_pos h).symm
      others := fun _ _ => rfl }
  · rename_i h
    exact State.voidBasket_letsGo h

theorem State.voidUnlessAuthorising_step (s : State) (p : PortNo) : s.BasketStep (s.voidUnlessAuthorising p) p := by
  unfold State.voidUnlessAuthorising
  split
  · exact .refl s p
  · exact s.basketStep_voidBasket p

/-! ## The seats HELD by a port (R41) -/

theorem State.freeHeldBy_eq (s : State) (p : PortNo) :
    s.freeHeldBy p = s.forSeats fun s i k => if (s.seatAt i k).state.heldBy p then s.giveUpSeat i k else s := rfl

theorem State.freeHeldBy_frame (s : State) (p : PortNo) : s.freeHeldBy p = { s with
    seats := { s.seats with shows := (s.freeHeldBy p).seats.shows, pool := (s.freeHeldBy p).seats.pool } } := by
  rw [State.freeHeldBy_eq]
  exact s.forSeats_frame (SeatState.heldBy p)

theorem State.LetsGo.freeHeldBy {s t : State} {p : PortNo} {f : Nat → Bool} (h : s.LetsGo t p f) :
    s.LetsGo (t.freeHeldBy p) p (fun a => f a || (s.inAShow a && (s.poolSeat a).state.heldBy p)) := by
  have hframe := t.freeHeldBy_frame p
  have hshow : ∀ a, t.inAShow a = s.inAShow a := fun a => by
    have hmap := State.mapKept_of_counts h.seats.2
    simp only [State.inAShow, ne_eq, hmap.empty, hmap.seatBase, hmap.seatCount]
  have hseats : s.givesUp (t.freeHeldBy p) (fun a => f a || (s.inAShow a && (s.poolSeat a).state.heldBy p)) := by
    rw [State.freeHeldBy_eq]
    refine (h.seats.trans (t.forSeats_givesUp (SeatState.heldBy p))).congr fun a => ?_
    rw [hshow, h.seats.1 a]
    cases hf : f a with
    | false => simp
    | true => rfl
  generalize t.freeHeldBy p = u at hframe hseats
  rw [hframe] at hseats ⊢
  exact ⟨hseats, h.claims, h.own, h.others⟩

/-! ## A port lost (R145, R179) -/

/-- R41, R62: the port, of which `y` is left, lets go of its basket and of the seats HELD by it. -/
def State.portFreed (s : State) (p : PortNo) (y : Port) : State := ((s.setPort p y).voidUnlessAuthorising p).freeHeldBy p

/-- R179: then its job is stopped, and channels take jobs. -/
def State.portLost (s : State) (p : PortNo) (y : Port) : State := ((s.portFreed p y).stopJob p).runArbiter

theorem State.leaveActive_eq (s : State) (p : PortNo) (st : PortState) :
    s.leaveActive p st = s.portLost p ((s.port p).lose st) := rfl

theorem State.leaveActive_setPort (s : State) (p : PortNo) (y : Port) (st : PortState) :
    (s.setPort p y).leaveActive p st = s.portLost p (y.lose st) := by
  rw [State.leaveActive_eq, State.port_setPort, if_pos rfl, State.portLost, State.portFreed, State.setPort_setPort]
  rfl

theorem State.stopJob_printStep (s : State) (p : PortNo) : s.PrintStep (s.stopJob p) := by
  unfold State.stopJob
  split
  · exact .refl s
  · split
    · exact .refl s
    · split
      · exact .refl s
      · exact (s.owe_printStep _).trans (State.endJob_printStep _ _ _)

section
variable (s : State) (p : PortNo) (y : Port)

theorem State.portFreed_eq : s.portFreed p y = (s.goneParts (s.portFreed p y)).setPort p y := by
  have hvoid := (s.setPort p y).voidUnlessAuthorising_step p
  unfold State.portFreed
  generalize (s.setPort p y).voidUnlessAuthorising p = v at hvoid ⊢
  have hstep := hvoid.seats (v.freeHeldBy_frame p)
  generalize v.freeHeldBy p = u at hstep ⊢
  exact hstep.goneParts

theorem State.portFreed_letsGo : s.LetsGo (s.portFreed p y) p
    (fun a => (s.lineAddresses (s.voidable p)).contains a || (s.inAShow a && (s.poolSeat a).state.heldBy p)) := by
  have hgone := ((s.setPort p y).voidUnlessAuthorising_letsGo p).freeHeldBy
  unfold State.portFreed
  generalize ((s.setPort p y).voidUnlessAuthorising p).freeHeldBy p = u at hgone ⊢
  exact hgone.of_parts rfl rfl rfl rfl rfl rfl

theorem State.portFreed_printStep : (s.portFreed p y).PrintStep (s.portLost p y) :=
  ((s.portFreed p y).stopJob_printStep p).trans ((s.portFreed p y).stopJob p).runArbiter_printStep

/-- What a port's loss leaves beside what the port lets go of. -/
structure State.LosesPort (s t : State) (p : PortNo) (y : Port) : Prop where
  lost : t = (((s.goneParts t).setPort p y).stopJob p).runArbiter
  ports : ∀ q, t.port q = { (if q = p then y else s.port q) with printOffer := (t.port q).printOffer }
  control : s.controlKept t
  print : s.printKept t
  uplink : s.uplinkKept t

theorem State.portLost_losesPort : s.LosesPort (s.portLost p y) p y := by
  have hfreed := s.portFreed_eq p y
  have hstep := s.portFreed_printStep p y
  have hlost : s.portLost p y = ((s.portFreed p y).stopJob p).runArbiter := rfl
  generalize s.portFreed p y = u at hfreed hstep hlost
  generalize s.portLost p y = t at hstep hlost
  have hgone : s.goneParts t = s.goneParts u := by
    rw [hstep.frame]
    rfl
  have hport : ∀ q, u.port q = if q = p then y else s.port q := fun q => by
    rw [hfreed, State.port_setPort]
    rfl
  have hcontrol : u.control = s.control := (congrArg State.control hfreed :)
  have hprint : u.print = s.print := (congrArg State.print hfreed :)
  have huplink : u.uplink = s.uplink := (congrArg State.uplink hfreed :)
  exact {
    lost := by rw [hgone, ← hfreed]; exact hlost
    ports := fun q => by rw [← hport]; exact hstep.ports q
    control := by unfold State.controlKept; rw [← hcontrol]; exact hstep.control
    print := by unfold State.printKept; rw [← hprint]; exact hstep.moves.print
    uplink := by unfold State.uplinkKept; rw [← huplink]; exact hstep.uplink }

/-- R41, R60, R62: what the lost port lets go of. -/
theorem State.portLost_letsGo : s.LetsGo (s.portLost p y) p
    (fun a => (s.lineAddresses (s.voidable p)).contains a || (s.inAShow a && (s.poolSeat a).state.heldBy p)) := by
  have hgone := s.portFreed_letsGo p y
  have hframe := (s.portFreed_printStep p y).frame
  generalize s.portFreed p y = u at hgone hframe
  generalize s.portLost p y = t at hframe
  exact hgone.of_parts rfl rfl rfl (congrArg State.seats hframe :) (congrArg State.baskets hframe :)
    (congrArg State.vouchers hframe :)

end

end Sys2Proof.Machine
end

section
/-! Runs that fail the framing checks (R175, R176): the Error Count, the warning, and the quarantine with the job it stops (O45). -/

namespace Sys2Proof.Machine

/-! ## The job stopped (R145) -/

section
variable {s : State} {p : PortNo}

theorem State.stopJob_unserved (h : s.channelFor p = none) : s.stopJob p = s := by
  rw [State.stopJob, h]

/-- R145, R146: the unfinished documents of the job are owed PORT_LOST, or discarded where the list is full. -/
theorem State.stopJob_served {c : ChannelNo} {j : Job} {isReprint : Bool} {sale : Nat} {origin dest : PortNo} {docs : List Document}
    (hc : s.channelFor p = some c) (hj : s.jobOn c = some j) (hwork : j.work = .print isReprint sale origin dest docs) :
    let owed : OwedEntry := { sale := sale, origin := origin, reason := .portLost, docs := docs.drop j.next }
    let room := decide (s.print.owed.length < 64)
    s.stopJob p = ({ s with print := { s.print with
      jobs := s.print.jobs.filter (fun k => decide (k.number ≠ j.number))
      channels := s.print.channels.set c Channel.idle
      owed := s.print.owed ++ if room then [owed] else [] } } : State).raise .owedAdded (owed.content (!room)) := by
  intro owed room
  simp only [State.stopJob, hc, hj, hwork]
  rw [State.owe_eq]
  exact State.raise_endJob _ _ _ _ _

end

/-! ## The run (R176) -/

/-- What a failing run makes of its port's Error Count and Last Error Code. -/
def Port.failed (x : Port) (e : FramingError) : Port := { x with errorCount := min 255 (x.errorCount + 8), lastError := e }

/-- What PORT_WARN and PORT_QUARANTINED carry of it. -/
def Port.failure (x : Port) (p : PortNo) (e : FramingError) : Bytes := u8 p.val ++ u8 (x.failed e).errorCount ++ u8 e.code

/-- The state that has counted the run, with PORT_WARN where the count has reached 96. -/
def State.warned (s : State) (p : PortNo) (e : FramingError) : State :=
  let counted := s.setPort p ((s.port p).failed e)
  if (s.port p).errorCount < 96 ∧ 96 ≤ ((s.port p).failed e).errorCount
  then counted.raise .portWarn (counted.portNotice p) else counted

theorem State.runFailed_eq (s : State) (p : PortNo) (e : FramingError) : s.runFailed p e =
    if 128 ≤ ((s.port p).failed e).errorCount
    then ((s.warned p e).raise .portQuarantined ((s.warned p e).portNotice p)).leaveActive p .quarantined
    else s.warned p e := rfl

section
variable {s : State} {p : PortNo} {e : FramingError}

theorem exec_kioskRunFailed {run : Bytes} (h : checkRun run = .inl e) :
    exec (.kioskRunFailed p run) s = .next (if s.takesFrames p = false then s else s.runFailed p e) := by
  show execKioskRunFailed p run s = _
  rw [execKioskRunFailed, h]

theorem State.portNotice_failed : (s.setPort p ((s.port p).failed e)).portNotice p = (s.port p).failure p e := by
  rw [State.portNotice, State.port_setPort, if_pos rfl]
  rfl

theorem State.runFailed_counts (h : ((s.port p).failed e).errorCount < 128) : s.runFailed p e =
    if (s.port p).errorCount < 96 ∧ 96 ≤ ((s.port p).failed e).errorCount
    then (s.setPort p ((s.port p).failed e)).raise .portWarn ((s.port p).failure p e)
    else s.setPort p ((s.port p).failed e) := by
  rw [State.runFailed_eq, if_neg (not_le.2 h), State.warned, State.portNotice_failed]

/-- R176: the count that quarantines the port was past the warning before. -/
theorem State.runFailed_quarantines (h : 128 ≤ ((s.port p).failed e).errorCount) : s.runFailed p e =
    (s.raise .portQuarantined ((s.port p).failure p e)).portLost p (((s.port p).failed e).lose .quarantined) := by
  have hwarned : ¬ ((s.port p).errorCount < 96 ∧ 96 ≤ ((s.port p).failed e).errorCount) := fun ⟨hlow, _⟩ => by
    have hcount : ((s.port p).failed e).errorCount ≤ (s.port p).errorCount + 8 := Nat.min_le_right _ _
    omega
  have hcounted : s.runFailed p e = ((s.setPort p ((s.port p).failed e)).raise .portQuarantined
      ((s.setPort p ((s.port p).failed e)).portNotice p)).leaveActive p .quarantined := by
    rw [State.runFailed_eq, if_pos h, State.warned, if_neg hwarned]
  rw [hcounted, State.portNotice_failed, State.raise_setPort, State.leaveActive_setPort]

end

/-- Settles O45: a count below 128 is one write of the port, with PORT_WARN where it crosses 96; one past it is the loss of the port
on the state that has raised PORT_QUARANTINED. -/
theorem framingErrorsCountToQuarantine : Obligations.FramingErrorsCountToQuarantine := by
  unfold Obligations.FramingErrorsCountToQuarantine
  refine ⟨fun p run e s hrun => ⟨fun hdeaf => ?deaf, fun htakes => ?taken⟩, fun p s => ⟨State.stopJob_unserved,
    fun c j isReprint sale origin dest docs hc hj hwork => State.stopJob_served hc hj hwork⟩⟩
  case deaf => exact (exec_kioskRunFailed hrun).trans (congrArg Host.Outcome.next (if_pos hdeaf))
  case taken =>
    intro n m counted warned
    have hexec : exec (.kioskRunFailed p run) s = .next (s.runFailed p e) :=
      (exec_kioskRunFailed hrun).trans (congrArg Host.Outcome.next (if_neg (by rw [htakes]; decide)))
    refine ⟨fun hlow => hexec.trans (congrArg Host.Outcome.next (State.runFailed_counts hlow)), fun hhigh => ?_⟩
    have hlost := State.runFailed_quarantines (s := s) (p := p) (e := e) hhigh
    obtain ⟨control, hraise, hkept⟩ : ∃ control, s.raise .portQuarantined ((s.port p).failure p e) = { s with control := control }
        ∧ s.controlKept { s with control := control } :=
      ⟨_, s.raise_eq _ _, (s.raise_printStep .portQuarantined ((s.port p).failure p e)).control⟩
    have hcounted : counted.raise .portQuarantined (u8 p.val ++ u8 m ++ u8 e.code)
        = { counted with control := control } :=
      (s.raise_setPort p ((s.port p).failed e) .portQuarantined ((s.port p).failure p e)).trans (by rw [hraise]; rfl)
    rw [hraise] at hlost
    have hgone := State.portLost_letsGo { s with control := control } p (((s.port p).failed e).lose .quarantined)
    have hloss := State.portLost_losesPort { s with control := control } p (((s.port p).failed e).lose .quarantined)
    generalize State.portLost { s with control := control } p (((s.port p).failed e).lose .quarantined) = t at hlost hgone hloss
    refine ⟨t, hexec.trans (congrArg Host.Outcome.next hlost), hgone.seats, hgone.claims, hgone.own, hgone.others, ?port, ?others,
      ?whole, ?control, hloss.print, hloss.uplink⟩
    case port => exact (hloss.ports p).trans (by rw [if_pos rfl]; rfl)
    case others => exact fun q hq => (hloss.ports q).trans (by rw [if_neg hq]; rfl)
    case whole =>
      rw [hcounted]
      exact hloss.lost
    case control =>
      unfold State.controlKept at hkept ⊢
      exact hloss.control.trans (by rw [hkept])

end Sys2Proof.Machine
end

section
/-! The management commands of a port, and line idle (R174, R178 to R180; O46). -/

namespace Sys2Proof.Machine

/-! ## Layouts -/

theorem readPortNo_bytes (p : PortNo) : readPortNo (u8 p.val) = some p := by
  simp [readPortNo, Nat.mod_eq_of_lt (show p.val < 256 by omega)]

theorem readRestorePort_bytes (p : PortNo) (keep : Bool) : readRestorePort (u8 p.val ++ flag keep) = some (p, keep) := by
  simp [readRestorePort, Nat.mod_eq_of_lt (show p.val < 256 by omega)]

theorem Role.ofCode_code (r : Role) : Role.ofCode (r.code % 256) = some r := by
  cases r <;> rfl

theorem readConfigurePort_bytes (p : PortNo) (r : Role) (level : Fin 4) (pass : Bool) :
    readConfigurePort (u8 p.val ++ u8 r.code ++ u8 level.val ++ flag pass) = some (p, r, level, pass) := by
  simp [readConfigurePort, List.append_assoc, Nat.mod_eq_of_lt (show p.val < 256 by omega), Role.ofCode_code,
    Nat.mod_eq_of_lt (show level.val < 256 by omega)]

/-! ## What each command comes to -/

/-- What the three commands of R178 reply of a port that is as described. -/
theorem State.portReply_eq {t : State} {p : PortNo} {y : Port} (h : t.port p = { y with printOffer := (t.port p).printOffer }) :
    t.portReply p = u8 y.state.code ++ u8 y.errorCount := by
  rw [State.portReply, h]

section
variable {s : State} {p : PortNo}

theorem State.activate_portReply (n : Nat) : (s.activate p n).portReply p = u8 1 ++ u8 n := by
  have hport := (s.setPort p { (s.port p).lose .active with errorCount := n }).runArbiter_printStep.ports p
  rw [State.port_setPort, if_pos rfl] at hport
  exact State.portReply_eq hport

theorem State.activate_restartPending (n : Nat) : (s.activate p n).control.restartPending = s.control.restartPending :=
  (State.runArbiter_printStep _).restartPending

theorem enablePort_disabled (h : (s.port p).state = .disabled) :
    enablePort (u8 p.val) s = (s.activate p 0, .ok, u8 1 ++ u8 0) := by
  rw [enablePort, readPortNo_bytes]
  dsimp only
  rw [if_neg (not_not.2 h), State.activate_portReply]

theorem enablePort_refused (h : (s.port p).state ≠ .disabled) : enablePort (u8 p.val) s = s.refuse .badState := by
  rw [enablePort, readPortNo_bytes]
  exact if_pos h

theorem restorePort_quarantined (h : (s.port p).state = .quarantined) (keep : Bool) :
    restorePort (u8 p.val ++ flag keep) s = (s.activate p (if keep then (s.port p).errorCount else 0), .ok,
      u8 1 ++ u8 (if keep then (s.port p).errorCount else 0)) := by
  rw [restorePort, readRestorePort_bytes]
  dsimp only
  rw [if_neg (not_not.2 h), State.activate_portReply]

theorem restorePort_refused (h : (s.port p).state ≠ .quarantined) (keep : Bool) :
    restorePort (u8 p.val ++ flag keep) s = s.refuse .badState := by
  rw [restorePort, readRestorePort_bytes]
  exact if_pos h

theorem configurePort_disabled (h : (s.port p).state = .disabled) (r : Role) (level : Fin 4) (pass : Bool) :
    configurePort (u8 p.val ++ u8 r.code ++ u8 level.val ++ flag pass) s =
      (s.setPort p { s.port p with role := r, printLevel := level, passAllowed := pass }, .ok,
        u8 r.code ++ u8 level.val ++ flag pass) := by
  rw [configurePort, readConfigurePort_bytes]
  exact if_neg (not_not.2 h)

theorem configurePort_refused (h : (s.port p).state ≠ .disabled) (r : Role) (level : Fin 4) (pass : Bool) :
    configurePort (u8 p.val ++ u8 r.code ++ u8 level.val ++ flag pass) s = s.refuse .badState := by
  rw [configurePort, readConfigurePort_bytes]
  exact if_pos h

theorem clearErrorCode_bytes (p : PortNo) (s : State) : clearErrorCode (u8 p.val) s =
    (s.setPort p { s.port p with lastError := .none }, .ok, u8 (s.port p).lastError.code) := by
  rw [clearErrorCode, readPortNo_bytes]

/-! ## Disable Port (R178) -/

theorem disablePort_bytes {t : State} {y : Port} (h : s.disable p = t) (hstate : y.state = .disabled)
    (hcount : y.errorCount = (s.port p).errorCount) (hport : t.port p = { y with printOffer := (t.port p).printOffer }) :
    disablePort (u8 p.val) s = (t, .ok, u8 0 ++ u8 (s.port p).errorCount) := by
  rw [disablePort, readPortNo_bytes]
  dsimp only
  rw [h, State.portReply_eq hport, hstate, hcount]
  rfl

/-- From QUARANTINED only the port's state changes: what it held was let go of before. -/
theorem disablePort_quarantined (h : (s.port p).state = .quarantined) : disablePort (u8 p.val) s =
    (s.setPort p { s.port p with state := .disabled }, .ok, u8 0 ++ u8 (s.port p).errorCount) := by
  refine disablePort_bytes (y := { s.port p with state := .disabled }) ?_ rfl rfl ?_
  · rw [State.disable, h]
  · rw [State.port_setPort, if_pos rfl]

/-- From DISABLED only the basket is voided. -/
theorem disablePort_disabled (h : (s.port p).state = .disabled) : disablePort (u8 p.val) s =
    (s.voidUnlessAuthorising p, .ok, u8 0 ++ u8 (s.port p).errorCount) := by
  refine disablePort_bytes (y := s.port p) ?_ h rfl ?_
  · rw [State.disable, h]
  · have hport : (s.voidUnlessAuthorising p).port p = s.port p :=
      State.port_of_ports (congrArg State.ports (s.voidUnlessAuthorising_step p) :) p
    rw [hport]

theorem disablePort_active (h : (s.port p).state = .active) : disablePort (u8 p.val) s =
    (s.portLost p ((s.port p).lose .disabled), .ok, u8 0 ++ u8 (s.port p).errorCount) := by
  refine disablePort_bytes (y := (s.port p).lose .disabled) ?_ rfl rfl ?_
  · rw [State.disable, h, State.leaveActive_eq]
  · have hport := (s.portLost_losesPort p ((s.port p).lose .disabled)).ports p
    rwa [if_pos rfl] at hport

/-- R41, R60, R62: what a DISABLED port lets go of. -/
theorem disablePort_disabled_leaves (h : (s.port p).state = .disabled) : ∃ t,
    disablePort (u8 p.val) s = (t, .ok, u8 0 ++ u8 (s.port p).errorCount)
    ∧ s.LetsGo t p (fun a => (s.lineAddresses (s.voidable p)).contains a)
    ∧ t = s.goneParts t :=
  ⟨s.voidUnlessAuthorising p, disablePort_disabled h, s.voidUnlessAuthorising_letsGo p,
    (s.voidUnlessAuthorising_step p).goneParts⟩

/-- R41, R60, R62, R145: what an ACTIVE port lets go of. -/
theorem disablePort_active_leaves (h : (s.port p).state = .active) : ∃ t,
    disablePort (u8 p.val) s = (t, .ok, u8 0 ++ u8 (s.port p).errorCount)
    ∧ s.LetsGo t p (fun a => (s.lineAddresses (s.voidable p)).contains a
        || (s.inAShow a && (s.poolSeat a).state.heldBy p))
    ∧ s.LosesPort t p ((s.port p).lose .disabled) :=
  ⟨s.portLost p ((s.port p).lose .disabled), disablePort_active h, s.portLost_letsGo p _, s.portLost_losesPort p _⟩

end

/-! ## O46 -/

/-- R178: a Disable Port that is taken, of a port that is not QUARANTINED. -/
theorem exec_disablePort {s t : State} {p : PortNo} {tag : Byte} {f : Nat → Bool} {content : Bytes}
    (htakes : s.takesCommand (some .disablePort) = true) (hbody : disablePort (u8 p.val) s = (t, .ok, content))
    (hgone : s.LetsGo t p f) (hpending : t.control.restartPending = s.control.restartPending) :
    exec (.disablePort tag (u8 p.val)) s = .next (t.replied .disablePort tag .ok content)
    ∧ s.LetsGo (t.replied .disablePort tag .ok content) p f :=
  ⟨runCommand_replies (c := .disablePort) htakes hbody (hpending.trans (State.restartPending_of_takes htakes)),
    hgone.of_parts rfl rfl rfl rfl rfl rfl⟩

/-- Settles O46: each command by the port's state. What Disable Port lets go of is what the port's basket voided and, of an
ACTIVE port, what the port lost lets go of. -/
theorem portCommands : Obligations.PortCommands := by
  unfold Obligations.PortCommands
  intro p tag s x activated
  refine ⟨fun htakes => ⟨fun hoff => ?enable, fun hon => ?enableRefused⟩,
    fun htakes keep => ⟨fun hquar => ?restore, fun hother => ?restoreRefused⟩,
    fun htakes => ⟨fun hquar => ?disableQuarantined, fun hother => ?disable⟩,
    fun htakes r level pass => ⟨fun hoff => ?configure, fun hon => ?configureRefused⟩,
    fun htakes => ?clear, fun hrun hfoyer hactive => ?idle⟩
  case enable =>
    exact runCommand_replies (c := .enablePort) htakes (enablePort_disabled hoff)
      ((State.activate_restartPending _).trans (State.restartPending_of_takes htakes))
  case enableRefused => exact runCommand_reads (c := .enablePort) htakes (enablePort_refused hon)
  case restore =>
    exact runCommand_replies (c := .restorePort) htakes (restorePort_quarantined hquar keep)
      ((State.activate_restartPending _).trans (State.restartPending_of_takes htakes))
  case restoreRefused => exact runCommand_reads (c := .restorePort) htakes (restorePort_refused hother keep)
  case disableQuarantined =>
    exact runCommand_replies (c := .disablePort) htakes (disablePort_quarantined hquar) (State.restartPending_of_takes htakes)
  case disable =>
    cases hstate : x.state with
    | quarantined => exact absurd hstate hother
    | disabled =>
      obtain ⟨t, hbody, hgone, hwhole⟩ := disablePort_disabled_leaves hstate
      have hpending : t.control.restartPending = s.control.restartPending := by rw [hwhole]; rfl
      obtain ⟨hexec, hreplied⟩ := exec_disablePort (tag := tag) htakes hbody hgone hpending
      refine ⟨_, hexec, hreplied.seats.congr fun a => ?_, hreplied.claims, hreplied.own, hreplied.others, fun _ => ?_, nofun⟩
      · simp only [reduceCtorEq, decide_false, Bool.false_and, Bool.or_false]
      · exact congrArg (State.replied · .disablePort tag .ok (u8 0 ++ u8 (s.port p).errorCount)) hwhole
    | active =>
      obtain ⟨t, hbody, hgone, hloss⟩ := disablePort_active_leaves hstate
      have hcontrol := hloss.control
      have hpending : t.control.restartPending = s.control.restartPending := by
        unfold State.controlKept at hcontrol
        rw [hcontrol]
      obtain ⟨hexec, hreplied⟩ := exec_disablePort (tag := tag) htakes hbody hgone hpending
      refine ⟨_, hexec, hreplied.seats.congr fun a => ?_, hreplied.claims, hreplied.own, hreplied.others, nofun, fun _ => ?_⟩
      · simp only [decide_true, Bool.true_and]
      · exact congrArg (State.replied · .disablePort tag .ok (u8 0 ++ u8 (s.port p).errorCount)) hloss.lost
  case configure =>
    exact runCommand_replies (c := .configurePort) htakes (configurePort_disabled hoff r level pass)
      (State.restartPending_of_takes htakes)
  case configureRefused => exact runCommand_reads (c := .configurePort) htakes (configurePort_refused hon r level pass)
  case clear =>
    exact runCommand_replies (c := .clearErrorCode) htakes (clearErrorCode_bytes p s) (State.restartPending_of_takes htakes)
  case idle =>
    exact congrArg Host.Outcome.next (if_pos (by rw [hrun, decide_eq_true hfoyer, decide_eq_true hactive]; rfl))

end Sys2Proof.Machine
end

section
/-! Open Foyer, Close Foyer and Wake (O50), and start-up and Restart (O5). -/

namespace Sys2Proof.Machine

/-! ## The Foyer State (R191 to R193) -/

/-- R192: the numbers of four conditions that fail, one by one. -/
theorem failing_numbers : ∀ a b c d : Bool,
    (([(1, a), (2, b), (3, c), (4, d)] : List (Nat × Bool)).filter (fun x => !x.2)).map (·.1)
      = (if a then [] else [1]) ++ (if b then [] else [2]) ++ (if c then [] else [3]) ++ if d then [] else [4] := by decide

theorem State.openFailures_eq (s : State) : s.openFailures = (if s.store.siteLock then [] else [1])
    ++ (if s.relay.saleLoaded && s.vouchers.serialLoaded then [] else [2])
    ++ (if s.prices.committed then [] else [3]) ++ if s.control.clockSet then [] else [4] := failing_numbers _ _ _ _

section
variable {s : State}

theorem openFoyer_opens (hfoyer : s.control.foyer = .unconfigured ∨ s.control.foyer = .closed) (hfail : s.openFailures = []) :
    openFoyer [] s = s.enterFoyer .opened := by
  have hmay : ¬ (s.control.foyer ≠ .unconfigured ∧ s.control.foyer ≠ .closed) := by tauto
  exact (if_neg hmay).trans (if_neg (not_not.2 hfail))

theorem openFoyer_fails (hfoyer : s.control.foyer = .unconfigured ∨ s.control.foyer = .closed) (hfail : s.openFailures ≠ []) :
    openFoyer [] s = (s, .badState, u8 s.openFailures.length ++ s.openFailures.flatMap u8) := by
  have hmay : ¬ (s.control.foyer ≠ .unconfigured ∧ s.control.foyer ≠ .closed) := by tauto
  exact (if_neg hmay).trans (if_pos hfail)

theorem openFoyer_opened (hfoyer : s.control.foyer = .opened) : openFoyer [] s = (s, .badState, []) := by
  have hrefused : s.control.foyer ≠ .unconfigured ∧ s.control.foyer ≠ .closed := by
    rw [hfoyer]
    exact ⟨nofun, nofun⟩
  exact if_pos hrefused

end

/-- Settles O50: each command's test of the Foyer State, and Open Foyer's four conditions read off as the list of those that
fail. -/
theorem foyerOpensClosesAndWakes : Obligations.FoyerOpensClosesAndWakes := by
  unfold Obligations.FoyerOpensClosesAndWakes
  intro tag s into
  refine ⟨fun h => ⟨fun hfoyer => ⟨fun hlock hsale hserial hprices hclock => ?opens, ?fails⟩, fun hfoyer => ?opened⟩,
    fun h => ⟨fun hfoyer => ?closes, fun hfoyer => ?notOpen⟩, fun h => ⟨fun hfoyer => ?wakes, fun hfoyer => ?awake⟩⟩
  case' fails => intro failing hfail
  all_goals have hclear := State.restartPending_of_takes h
  case opens =>
    have hnone : s.openFailures = [] := by simp [State.openFailures_eq, hlock, hsale, hserial, hprices, hclock]
    exact runCommand_replies (c := .openFoyer) h (openFoyer_opens hfoyer hnone) hclear
  case fails =>
    have hsame : s.openFailures = failing := s.openFailures_eq
    rw [← hsame] at hfail ⊢
    exact runCommand_replies (c := .openFoyer) h (openFoyer_fails hfoyer hfail) hclear
  case opened => exact runCommand_replies (c := .openFoyer) h (openFoyer_opened hfoyer) hclear
  case closes => exact runCommand_replies (c := .closeFoyer) h (if_neg (not_not.2 hfoyer)) hclear
  case notOpen => exact runCommand_replies (c := .closeFoyer) h (if_pos hfoyer) hclear
  case wakes => exact runCommand_replies (c := .wake) h (if_neg (not_not.2 hfoyer)) hclear
  case awake => exact runCommand_replies (c := .wake) h (if_pos hfoyer) hclear

/-! ## Start-up and Restart (R198, R199) -/

/-- R198: with no notice waiting, START is the one that waits. -/
theorem State.start_eq {s : State} (h : s.control.notices = []) : s.start = { s with control := { s.control with
    running := true, tickRunning := true
    notices := [{ code := 1, carriesLost := false, day := s.control.day, seconds := s.control.seconds,
                  content := s.startContent }] } } := by
  have hroom : s.control.notices.length < 32 := by rw [h]; decide
  have hpush := State.pushNotice_room (s := { s with control := { s.control with running := true, tickRunning := true } }) hroom 1
    s.startContent
  rw [State.start, hpush]
  simp only [h, List.nil_append]

/-- R190, R198: a part in reset with its Reset input high starts up. -/
theorem State.beginStart_eq {s : State} (hrun : s.control.running = false) (hhigh : s.control.resetLow = false)
    (h : s.control.notices = []) : s.beginStart = { s with control := { s.control with
      running := true, tickRunning := true
      notices := [{ code := 1, carriesLost := false, day := s.control.day, seconds := s.control.seconds,
                    content := s.startContent }] } } :=
  (if_neg (by rw [hrun, hhigh]; exact Bool.false_ne_true)).trans (State.start_eq h)

/-- A management command that is taken is answered, and settles a Restart that it finds or sets. -/
theorem State.manage_settles {s t : State} {c : Command} {tag : Byte} {body : State → Answer} {r : Result} {content : Bytes}
    (h : s.takesCommand (some c) = true) (hb : body s = (t, r, content)) :
    s.manage c tag body = (t.replied c tag r content).settleRestart := by
  rw [State.manage, if_neg (by rw [h]; decide), hb]
  rfl

/-- R199: with the uplink UP a Restart awaits the end of its reply. -/
theorem State.settleRestart_up {s : State} (hup : s.uplink.linkUp = true) : s.settleRestart = s :=
  if_neg (by rw [hup, Bool.not_true, Bool.and_false]; exact Bool.false_ne_true)

/-- R199: with the uplink DOWN a pending Restart takes its reset. -/
theorem State.settleRestart_down {s : State} (hpending : s.control.restartPending = true) (hdown : s.uplink.linkUp = false) :
    s.settleRestart = s.restartNow :=
  if_pos (by rw [hpending, hdown]; rfl)

/-- R199: with no reply left a pending Restart takes its reset. -/
theorem State.replySent_last {s : State} (hpending : s.control.restartPending = true) (hlast : s.uplink.replies = []) :
    s.replySent = s.restartNow :=
  if_pos (by rw [hpending, hlast]; rfl)

/-- R186: a reply sent leaves the replies waiting. -/
theorem State.uplinkFrameEnd_reply {s : State} {x : UplinkSending} (hsending : s.uplink.sending = some x)
    (hsource : x.source = .reply) : s.uplinkFrameEnd = State.replySent { s with uplink := { s.uplink with
      sending := none, replies := s.uplink.replies.drop 1 } } := by
  rw [State.uplinkFrameEnd, hsending]
  dsimp only
  rw [hsource]

/-- Settles O5: START joins an empty queue; and what comes before Restart's reset, a reply or the link going DOWN, is nothing that the
reset looks at. -/
theorem startUpAndRestart : Obligations.StartUpAndRestart := by
  unfold Obligations.StartUpAndRestart
  refine ⟨fun s hrun hnone => ⟨fun hhigh => ?startUp, fun hlow => ?released⟩, fun tag s h hup => ?answered,
    fun tag s h hdown => ?atOnce, fun s x hpending hsending hsource hlast => ?replySent, fun s hpending => ?linkDown⟩
  all_goals refine congrArg Host.Outcome.next ?_
  case startUp => exact State.beginStart_eq hrun hhigh hnone
  case released =>
    rw [if_pos hlow]
    exact State.beginStart_eq hrun rfl hnone
  case answered =>
    refine (State.manage_settles h rfl).trans ?_
    exact State.settleRestart_up hup
  case atOnce =>
    refine (State.manage_settles h rfl).trans ?_
    exact State.settleRestart_down rfl hdown
  case replySent =>
    rw [State.uplinkFrameEnd_reply hsending hsource]
    exact State.replySent_last hpending (List.drop_eq_nil_iff.2 hlast.le)
  case linkDown => exact State.settleRestart_down hpending rfl

end Sys2Proof.Machine
end

section
/-! Night (O51): the void of every basket as one pass over the ports, then the seats still HELD. -/

namespace Sys2Proof.Machine

/-! ## Claims given back (R118) -/

section
variable {s t u : State} {ns ms : List Nat}

/-- Claims given back, slot by slot. -/
theorem State.claimsReturned_iff : s.claimsReturned t ns ↔ t.vouchers = { s.vouchers with slots := t.vouchers.slots }
    ∧ ∀ n, t.slotAt n = if ∃ k ∈ ns, s.indexed k = some n then (s.slotAt n).unclaim else s.slotAt n := by
  constructor
  · rintro ⟨hbecome, ⟨-, hkept⟩, hvouchers⟩
    refine ⟨hvouchers, fun n => ?_⟩
    have hindex : ∀ k, t.indexed k = s.indexed k := fun k => by rw [State.indexed, hvouchers]; rfl
    split
    · rename_i hin
      obtain ⟨k, hk, hn⟩ := hin
      have hslot := hbecome k hk
      rw [State.slotBecomes, State.slotOf, State.slotOf, hindex, hn] at hslot
      exact (Prod.mk.inj (Option.some.inj hslot)).2
    · rename_i hout
      exact hkept n fun k hk hn => hout ⟨k, hk, hn⟩
  · rintro ⟨hvouchers, hslots⟩
    have hindex : ∀ k, t.indexed k = s.indexed k := fun k => by rw [State.indexed, hvouchers]; rfl
    refine ⟨fun k hk => ?_, ⟨by rw [hvouchers], fun n hn => ?_⟩, hvouchers⟩
    · rw [State.slotBecomes, State.slotOf, State.slotOf, hindex]
      cases hn : s.indexed k with
      | none => rfl
      | some n => simp only [Option.map_some, hslots, if_pos (⟨k, hk, hn⟩ : ∃ k ∈ ns, s.indexed k = some n)]
    · rw [hslots, if_neg]
      rintro ⟨k, hk, hkn⟩
      exact hn k hk hkn

theorem State.claimsReturned.trans (h : s.claimsReturned t ns) (h' : t.claimsReturned u ms) :
    s.claimsReturned u (ns ++ ms) := by
  rw [State.claimsReturned_iff] at h h' ⊢
  obtain ⟨hvouchers, hslots⟩ := h
  obtain ⟨hvouchers', hslots'⟩ := h'
  have hindex : ∀ k, t.indexed k = s.indexed k := fun k => by rw [State.indexed, hvouchers]; rfl
  refine ⟨by rw [hvouchers', hvouchers], fun n => ?_⟩
  simp only [hslots', hslots, hindex, List.mem_append, or_and_right, exists_or]
  by_cases h1 : ∃ k ∈ ns, s.indexed k = some n <;> by_cases h2 : ∃ k ∈ ms, s.indexed k = some n <;>
    simp [h1, h2, Slot.unclaim_unclaim]

theorem State.claimsReturned.of_vouchers {s' t' : State} (h : s.claimsReturned t ns) (hs : s'.vouchers = s.vouchers)
    (ht : t'.vouchers = t.vouchers) : s'.claimsReturned t' ns := by
  obtain ⟨hbecome, hkept, hvouchers⟩ := h
  exact ⟨fun k hk => State.slotBecomes_of_vouchers (hbecome k hk) hs ht, State.slotsKept_of_vouchers hkept hs ht, by
    rw [ht, hs]; exact hvouchers⟩

/-- R60: the claims of a list return. -/
theorem State.returnClaims_returned (s : State) (ns : List Nat) : s.claimsReturned (s.returnClaims ns) ns := by
  obtain ⟨hbecome, hkept⟩ := s.eachSlot_spec Slot.unclaim_unclaim ns
  exact ⟨hbecome, hkept, congrArg State.vouchers (s.eachSlot_frame Slot.unclaim ns)⟩

end

/-! ## Baskets voided one after the other (R60, R63) -/

/-- The addresses of the seats that the lines of some ports' baskets name. -/
def State.portsLines (s : State) (ps : List PortNo) (a : Nat) : Bool :=
  ps.any fun p => (s.lineAddresses (s.basket p)).contains a

/-- What voiding the baskets of some ports comes to. -/
structure State.VoidPass (s t : State) (ps : List PortNo) : Prop where
  seats : s.givesUp t (s.portsLines ps)
  claims : s.claimsReturned t (ps.flatMap fun p => (s.basket p).claims)
  baskets : ∀ q, t.basket q = if q ∈ ps then { Basket.reset with handle := (s.basket q).handle } else s.basket q
  frame : t = s.goneParts t

theorem State.voidBasket_pass (s : State) (p : PortNo) : s.VoidPass (s.voidBasket p) [p] := by
  let returned := s.returnSeats (s.basket p).handle.index (s.basket p).seats
  have hframe := (s.returnSeats_seatStep (s.basket p).handle.index (s.basket p).seats).frame
  have hseats : (s.voidBasket p).seats = returned.seats :=
    (congrArg State.seats (returned.eachSlot_frame Slot.unclaim (s.basket p).claims) :)
  have hreturned := (State.seatsReturned_of_seats (s.returnSeats_returns _ _) rfl hseats).givesUp
  refine ⟨hreturned.congr fun a => (Bool.or_false _).symm, ?_, fun q => ?_, (s.basketStep_voidBasket p).goneParts⟩
  · rw [List.flatMap_singleton]
    exact (returned.returnClaims_returned _).of_vouchers (congrArg State.vouchers hframe :).symm rfl
  · rw [State.basket_voidBasket]
    by_cases hq : q = p
    · subst hq
      rw [if_pos rfl, if_pos List.mem_cons_self]
      rfl
    · rw [if_neg hq, if_neg (by simpa using hq)]

theorem State.VoidPass.trans {s t u : State} {ps qs : List PortNo} (h : s.VoidPass t ps) (h' : t.VoidPass u qs)
    (hdisjoint : ∀ q ∈ qs, q ∉ ps) : s.VoidPass u (ps ++ qs) := by
  have hbaskets : ∀ q ∈ qs, t.basket q = s.basket q := fun q hq => by rw [h.baskets, if_neg (hdisjoint q hq)]
  have haddress := (State.mapKept_of_counts h.seats.2).seatAddress
  have hlines : ∀ a, t.portsLines qs a = s.portsLines qs a := fun a => by
    rw [Bool.eq_iff_iff]
    simp only [State.portsLines, List.any_eq_true]
    refine exists_congr fun q => and_congr_right fun hq => ?_
    rw [hbaskets q hq, State.lineAddresses, State.seatAddresses, funext (haddress _)]
    rfl
  refine ⟨(h.seats.trans h'.seats).congr fun a => ?_, ?_, fun q => ?_, ?_⟩
  · rw [hlines, State.portsLines, State.portsLines, State.portsLines, List.any_append]
  · rw [List.flatMap_append]
    have hclaims := h'.claims
    rw [List.flatMap_congr (g := fun q => (s.basket q).claims) fun q hq => by rw [hbaskets q hq]] at hclaims
    exact h.claims.trans hclaims
  · rw [h'.baskets, h.baskets]
    by_cases hq : q ∈ qs
    · simp [hq, hdisjoint q hq]
    · simp [hq]
  · conv_lhs => rw [h'.frame, h.frame]
    rfl

theorem State.voidBaskets_pass (s : State) {ps : List PortNo} (hnodup : ps.Nodup) :
    s.VoidPass (ps.foldl State.voidBasket s) ps := by
  induction ps generalizing s with
  | nil => exact ⟨s.givesUp_nothing, s.returnClaims_returned [], fun _ => rfl, rfl⟩
  | cons p ps ih =>
    obtain ⟨hp, hps⟩ := List.nodup_cons.1 hnodup
    refine (s.voidBasket_pass p).trans (ih (s.voidBasket p) hps) fun q hq hqp => ?_
    exact hp (List.mem_singleton.1 hqp ▸ hq)

/-! ## The seats still HELD (R194) -/

theorem State.inAShow_of_mapKept {s t : State} (h : s.mapKept t) (a : Nat) : t.inAShow a = s.inAShow a := by
  simp only [State.inAShow, ne_eq, h.empty, h.seatBase, h.seatCount]

theorem State.freeAllHeld_eq (s : State) :
    s.freeAllHeld = s.forSeats fun s i k => if (s.seatAt i k).state.isHeld then s.giveUpSeat i k else s := rfl

/-- Seats given up by their addresses, then those still HELD in a show. -/
theorem State.givesUp.freeAllHeld {s t : State} {f : Nat → Bool} (h : s.givesUp t f) :
    s.givesUp t.freeAllHeld (fun a => f a || (s.inAShow a && (s.poolSeat a).state.isHeld)) := by
  rw [State.freeAllHeld_eq]
  refine (h.trans (t.forSeats_givesUp SeatState.isHeld)).congr fun a => ?_
  rw [State.inAShow_of_mapKept (State.mapKept_of_counts h.2), h.1 a]
  cases hf : f a with
  | false => rfl
  | true => rfl

theorem State.freeAllHeld_frame (s : State) : s.freeAllHeld = { s with
    seats := { s.seats with shows := s.freeAllHeld.seats.shows, pool := s.freeAllHeld.seats.pool } } := by
  rw [State.freeAllHeld_eq]
  exact s.forSeats_frame SeatState.isHeld

/-- R63, R194: the seats, claims and baskets that Night lets go of. -/
def State.nightVoided (s : State) : State := (allPorts.foldl State.voidBasket s).freeAllHeld

theorem State.nightfall_eq (s : State) : s.nightfall = { s.nightVoided with
    ports := s.nightVoided.ports.map Port.emptyPass
    uplink := s.nightVoided.uplink.emptyPass
    control := { s.nightVoided.control with tickRunning := false } } := by
  unfold State.nightfall State.nightVoided
  with_reducible rfl

/-- What Night lets go of, and that nothing else goes with it. -/
structure State.NightVoids (s t : State) : Prop where
  seats : s.givesUp t (fun a => s.portsLines allPorts a || (s.inAShow a && (s.poolSeat a).state.isHeld))
  claims : s.claimsReturned t (allPorts.flatMap fun p => (s.basket p).claims)
  baskets : ∀ p, t.basket p = { Basket.reset with handle := (s.basket p).handle }
  frame : t = s.goneParts t

theorem State.nightVoided_voids (s : State) : s.NightVoids s.nightVoided := by
  have hpass := s.voidBaskets_pass (List.nodup_finRange 16)
  unfold State.nightVoided allPorts
  generalize (List.finRange 16).foldl State.voidBasket s = t at hpass
  have hframe := t.freeAllHeld_frame
  have hseats := hpass.seats.freeAllHeld
  generalize t.freeAllHeld = u at hframe hseats
  rw [hframe] at hseats ⊢
  refine ⟨hseats, hpass.claims, fun p => ?_, ?_⟩
  · exact (hpass.baskets p).trans (if_pos (List.mem_finRange p))
  · conv_lhs => rw [hpass.frame]
    rfl

theorem State.nightBusy_eq_true {s : State} (h : s.print.jobs ≠ [] ∨ ∃ e ∈ s.relay.entries, e.state ≠ .lost) :
    s.nightBusy = true := by
  rw [State.nightBusy, Bool.or_eq_true]
  rcases h with hjobs | ⟨e, he, hactive⟩
  · right
    cases hj : s.print.jobs with
    | nil => exact absurd hj hjobs
    | cons => rfl
  · left
    exact List.any_eq_true.2 ⟨e, he, e.isActive_iff.2 hactive⟩

theorem State.nightBusy_eq_false {s : State} (hjobs : s.print.jobs = []) (hlost : ∀ e ∈ s.relay.entries, e.state = .lost) :
    s.nightBusy = false := by
  have hnone : s.relay.entries.any AuthEntry.isActive = false :=
    List.any_eq_false.2 fun e he => by rw [e.isActive_iff, not_not]; exact hlost e he
  rw [State.nightBusy, hnone, hjobs]
  rfl

/-- Settles O51: the ports' baskets are voided one after the other, none with the lines or claims of another, then the seats still
HELD are given up by their addresses. -/
theorem nightLetsGoOfHeldSeats : Obligations.NightLetsGoOfHeldSeats := by
  unfold Obligations.NightLetsGoOfHeldSeats
  intro tag s h
  have hclear := State.restartPending_of_takes h
  refine ⟨fun hfoyer => ?refused, fun hfoyer => ⟨fun hbusy => ?busy, fun hjobs hlost => ?night⟩⟩
  case refused => exact runCommand_replies (c := .night) h (if_pos hfoyer) hclear
  case busy =>
    exact runCommand_replies (c := .night) h ((if_neg (not_not.2 hfoyer)).trans (if_pos (State.nightBusy_eq_true hbusy))) hclear
  case night =>
    have hquiet : ¬ s.nightBusy = true := by rw [State.nightBusy_eq_false hjobs hlost]; exact Bool.false_ne_true
    have hbody : night [] s = s.nightfall.enterFoyer .night := (if_neg (not_not.2 hfoyer)).trans (if_neg hquiet)
    have hvoids := s.nightVoided_voids
    rw [State.nightfall_eq] at hbody
    generalize s.nightVoided = u at hbody hvoids
    have hcontrol : u.control = s.control := (congrArg State.control hvoids.frame :)
    refine ⟨_, runCommand_replies (c := .night) h hbody (by rw [← hcontrol] at hclear; exact hclear), hvoids.baskets,
      hvoids.seats, hvoids.claims, ?_⟩
    rw [hvoids.frame]
    rfl

end Sys2Proof.Machine
end

section
/-! The tick's leases (R34, R35): each HELD seat counted, and those at 0 lost from their baskets. -/

namespace Sys2Proof.Machine

/-! ## One second off a seat (R34) -/

theorem Seat.second_held {x : Seat} {o : PortNo} {l : Nat} {ho : Bool} (h : x.state = .held o l ho) :
    x.second = { x with state := .held o (l - 1) ho } := by
  rw [Seat.second, h]

theorem Seat.second_of_not_held {x : Seat} (h : x.state.isHeld = false) : x.second = x := by
  cases hst : x.state with
  | held => rw [hst] at h; cases h
  | free | house | pending | sold => rw [Seat.second, hst]

/-- R35: a seat that a tick takes to a lease of 0 while this port holds it. -/
def SeatState.lapsesFor (p : PortNo) : SeatState → Bool
  | .held o l _ => decide (o = p) && decide (l ≤ 1)
  | _ => false

theorem SeatState.lapsedLease_pred {o : PortNo} {l : Nat} {ho : Bool} :
    (SeatState.held o (l - 1) ho).lapsedLease = true ↔ l ≤ 1 := by
  obtain _ | _ | l := l <;> simp [SeatState.lapsedLease]

theorem Seat.second_lapses (x : Seat) (p : PortNo) :
    x.state.lapsesFor p = true ↔ x.second.state.lapsedLease = true ∧ x.second.state.heldBy p = true := by
  cases hst : x.state with
  | held o l ho =>
    rw [Seat.second_held hst, SeatState.lapsedLease_pred]
    simp [SeatState.lapsesFor, SeatState.heldBy, and_comm]
  | free | house | pending | sold =>
    rw [Seat.second_of_not_held (by rw [hst]; rfl), hst]
    simp [SeatState.lapsesFor, SeatState.lapsedLease]

/-- R34, R35: a seat record after a tick; one whose lease reaches 0 in a show returns. -/
def Seat.ticked (inShow : Bool) (x : Seat) : Seat :=
  { x with state := match x.state with
    | .held o l ho => if l ≤ 1 ∧ inShow = true then (if ho then .house else .free) else .held o (l - 1) ho
    | st => st }

theorem Seat.ticked_eq (inShow : Bool) (x : Seat) : x.ticked inShow =
    if inShow = true ∧ x.second.state.lapsedLease = true then { x.second with state := x.second.state.givenUp }
    else x.second := by
  obtain ⟨zone, row, number, st⟩ := x
  cases st with
  | held o l ho =>
    simp only [Seat.ticked, Seat.second, SeatState.lapsedLease_pred, and_comm (a := inShow = true)]
    split <;> rfl
  | free | house | pending | sold => simp [Seat.ticked, Seat.second, SeatState.lapsedLease]

/-! ## The leases of a tick (R34, R35) -/

section
variable {s : State}

theorem State.poolSeat_countLeases (s : State) (a : Nat) : s.countLeases.poolSeat a = (s.poolSeat a).second :=
  Sparse.get_map (d := blankSeat) (f := Seat.second) (fun _ => rfl) s.seats.pool a

theorem State.tickLeases_pass (h : s.disjointShows) :
    State.LossPass SeatState.lapsedLease s.countLeases s.tickLeases s.mapSeats := by
  have hpass := State.losePass SeatState.isHeld_of_lapsedLease s.countLeases _ (State.mapSeats_addresses_nodup (s := s) h)
  rw [State.tickLeases, State.expireLeases_eq]
  exact hpass

/-- Each seat record after the leases of a tick. -/
theorem State.poolSeat_tickLeases (h : s.disjointShows) (a : Nat) :
    s.tickLeases.poolSeat a = (s.poolSeat a).ticked (s.inAShow a) := by
  obtain ⟨hlost, hkept, -, -, -, -⟩ := State.tickLeases_pass h
  have hmem : a ∈ s.mapSeats.map (fun x => s.countLeases.seatAddress x.1 x.2) ↔ s.inAShow a = true := by
    rw [s.inAShow_eq, List.contains_iff_mem]
    rfl
  rw [Seat.ticked_eq, ← State.poolSeat_countLeases]
  split
  · rename_i hout
    exact hlost a (hmem.2 hout.1) hout.2
  · rename_i hin
    exact hkept a fun hshow hlapsed => hin ⟨hmem.1 hshow, hlapsed⟩

/-- A seat of a show whose lease reaches 0 at a tick while this port holds it. -/
def State.lapses (s : State) (p : PortNo) (i : ShowNo) (k : Nat) : Bool :=
  decide ((s.showAt i).state ≠ .empty) && decide (k < (s.showAt i).seatCount) && (s.seatAt i k).state.lapsesFor p

theorem State.lapses_iff (p : PortNo) (i : ShowNo) (k : Nat) : s.lapses p i k = true ↔ s.inMap i k
    ∧ (s.countLeases.seatAt i k).state.lapsedLease = true ∧ (s.countLeases.seatAt i k).state.heldBy p = true := by
  rw [State.seatAt_countLeases, ← Seat.second_lapses]
  simp [State.lapses, State.inMap]

/-- R21, R35: the lines that a tick takes from a basket. -/
theorem State.basket_tickLeases (h : s.disjointShows) (p : PortNo) : s.tickLeases.basket p =
    if allShows.any (fun i => (List.range (s.showAt i).seatCount).any (s.lapses p i)) then
      (s.basket p).lostSeats (fun k => allShows.any (fun i => s.lapses p i k))
    else s.basket p := by
  refine (State.tickLeases_pass h).basket_eq p (fun k => ?_) ?_
  · simp only [List.any_eq_true, State.lapses_iff, State.mem_mapSeats]
    exact ⟨fun ⟨i, _, hi⟩ => ⟨i, hi⟩, fun ⟨i, hi⟩ => ⟨i, List.mem_finRange i, hi⟩⟩
  · simp only [List.any_eq_true, List.mem_range]
    constructor
    · rintro ⟨i, hi, k, -, hk⟩
      exact ⟨k, i, hi, hk⟩
    · rintro ⟨k, i, hi, hk⟩
      obtain ⟨hmap, -⟩ := (State.lapses_iff p i k).1 hk
      exact ⟨i, hi, k, hmap.2, hk⟩

theorem Basket.lostSeats_handle (b : Basket) (f : Nat → Bool) : (b.lostSeats f).handle = b.handle := by
  unfold Basket.lostSeats
  dsimp only
  split
  · rfl
  · split <;> rfl

/-- What the leases of a tick make of a state. -/
structure State.LeasesTicked (s t : State) : Prop where
  pool : ∀ a, t.poolSeat a = (s.poolSeat a).ticked (s.inAShow a)
  shows : ∀ i, t.showAt i = { s.showAt i with counts := (t.showAt i).counts }
  baskets : ∀ p, t.basket p = if allShows.any (fun i => (List.range (s.showAt i).seatCount).any (s.lapses p i)) then
      (s.basket p).lostSeats (fun k => allShows.any (fun i => s.lapses p i k))
    else s.basket p
  frame : t = { s with seats := { s.seats with shows := t.seats.shows, pool := t.seats.pool }, baskets := t.baskets }

theorem State.tickLeases_ticked (h : s.disjointShows) : s.LeasesTicked s.tickLeases where
  pool := State.poolSeat_tickLeases h
  shows := (State.tickLeases_pass h).counts
  baskets := State.basket_tickLeases h
  frame := (State.tickLeases_pass h).frame

end

end Sys2Proof.Machine
end

section
/-! The tick's authorisations (R97): the entries that time out, lost one after the other, and the notices of all of them after that. -/

namespace Sys2Proof.Machine

/-! ## Notices that come after (R201) -/

/-- What is raised rests on Foyer Control and on whether a notice is being sent. -/
theorem State.raise_of_control {s t : State} (hcontrol : t.control = s.control) (hsending : t.sendingNotice = s.sendingNotice)
    (k : NoticeKind) (content : Bytes) : t.raise k content = { t with control := (s.raise k content).control } := by
  have hraised : (t.raise k content).control = (s.raise k content).control := by
    simp only [State.raise, State.pushNotice, State.noticesLessOldest, hcontrol, hsending]
    split
    · split <;> rfl
    · exact hcontrol
  rw [← hraised]
  conv_lhs => rw [t.raise_frame]
  conv_rhs => rw [t.raise_frame]

theorem UplinkUnit.without_notice (u : UplinkUnit) (tag : Nat) :
    (u.without tag).sending.any (fun x => decide (x.source = .notice)) = u.sending.any fun x => decide (x.source = .notice) := by
  rw [UplinkUnit.without]
  cases hsending : u.sending with
  | none => rfl
  | some x =>
    rw [Option.map_some, Option.any_some, Option.any_some]
    split
    · rename_i hsource
      simp [hsource]
    · rfl

/-- Effects with a later effect after each are all the effects, then all the later ones, where each later one commutes with them. -/
theorem foldl_effects_then {α β : Type} {f g : β → α → β} (hcomm : ∀ b x y, f (g b x) y = g (f b y) x) (xs : List α) (b : β) :
    xs.foldl (fun b x => g (f b x) x) b = xs.foldl g (xs.foldl f b) := by
  induction xs generalizing b with
  | nil => rfl
  | cons x xs ih =>
    have hpast : xs.foldl f (g (f b x) x) = g (xs.foldl f (f b x)) x :=
      List.foldl_hom (g · x) fun b y => hcomm b x y
    rw [List.foldl_cons, ih, hpast]
    rfl

/-! ## One entry lost (R97) -/

/-- R97: what an entry's timeout changes before its notice. -/
def State.loseEntry (s : State) (e : AuthEntry) : State :=
  { s with
    relay := { s.relay with entries := s.relay.entries.map (AuthEntry.lostIf e.tag) }
    baskets := s.baskets.set e.origin { Basket.reset with handle := (s.basket e.origin).handle }
    ports := s.ports.set e.origin ((s.port e.origin).resulted (decide ((s.port e.origin).state = .active)) .unknown (u16 e.tag))
    uplink := s.uplink.without e.tag }

/-- R97: its notice. -/
def State.tellLost (s : State) (e : AuthEntry) : State := s.raise .authLost (u16 e.tag ++ u8 e.origin.val ++ u24 e.net)

theorem State.timeOut_tells (s : State) (e : AuthEntry) : s.timeOut e = (s.loseEntry e).tellLost e := s.timeOut_eq e

theorem State.tellLost_of_control {s t : State} (hcontrol : t.control = s.control)
    (hsending : t.sendingNotice = s.sendingNotice) (e : AuthEntry) :
    t.tellLost e = { t with control := (s.tellLost e).control } := State.raise_of_control hcontrol hsending _ _

theorem State.loseEntry_tellLost (s : State) (e f : AuthEntry) : (s.tellLost e).loseEntry f = (s.loseEntry f).tellLost e := by
  rw [State.tellLost_of_control (s := s) (t := s.loseEntry f) rfl (s.uplink.without_notice f.tag) e,
    State.tellLost_of_control (s := s) (t := s) rfl rfl e]
  rfl

/-- R97: entries that time out are all lost, and then told of in the order of the list. -/
theorem State.foldl_timeOut (s : State) (es : List AuthEntry) :
    es.foldl State.timeOut s = es.foldl State.tellLost (es.foldl State.loseEntry s) := by
  rw [← foldl_effects_then State.loseEntry_tellLost, funext₂ State.timeOut_tells]

/-! ## Several entries lost (R97) -/

/-- R97: a port that is told of an entry lost, if there is one. -/
def Port.toldOf (x : Port) : Option AuthEntry → Port
  | some e => x.resulted (decide (x.state = .active)) .unknown (u16 e.tag)
  | none => x

/-- With no PAY kept there is nothing more to answer. -/
theorem Port.toldOf_told (x : Port) (e : AuthEntry) (later : Option AuthEntry) :
    (x.toldOf (some e)).toldOf later = x.toldOf (some e) := by
  cases later with
  | none => rfl
  | some f => cases h : x.kept <;> simp [Port.toldOf, Port.resulted, h]

section
variable (s : State) (es : List AuthEntry)

theorem State.foldl_loseEntry_frame : es.foldl State.loseEntry s = { s with
    relay := (es.foldl State.loseEntry s).relay, baskets := (es.foldl State.loseEntry s).baskets
    ports := (es.foldl State.loseEntry s).ports, uplink := (es.foldl State.loseEntry s).uplink } := by
  induction es generalizing s with
  | nil => rfl
  | cons e es ih =>
    rw [List.foldl_cons, ih]
    rfl

theorem State.foldl_loseEntry_uplink :
    (es.foldl State.loseEntry s).uplink = es.foldl (fun u e => u.without e.tag) s.uplink :=
  (List.foldl_hom State.uplink fun _ _ => rfl).symm

theorem State.foldl_loseEntry_relay : (es.foldl State.loseEntry s).relay = { s.relay with
    entries := s.relay.entries.map fun x => if x.tag ∈ es.map (·.tag) then { x with state := .lost } else x } := by
  induction es generalizing s with
  | nil => simp
  | cons e es ih =>
    rw [List.foldl_cons, ih]
    simp only [State.loseEntry, List.map_map]
    congr 1
    refine List.map_congr_left fun x _ => ?_
    rw [Function.comp_apply, (x.lostIf_spec e.tag).1]
    by_cases h : x.tag = e.tag <;> by_cases h' : x.tag ∈ es.map (·.tag) <;> simp [AuthEntry.lostIf, h, h']

theorem State.loseEntry_basket (e : AuthEntry) (p : PortNo) : (s.loseEntry e).basket p =
    if e.origin = p then { Basket.reset with handle := (s.basket p).handle } else s.basket p := by
  refine (s.basket_setBasket e.origin p { Basket.reset with handle := (s.basket e.origin).handle }).trans ?_
  by_cases h : p = e.origin
  · rw [if_pos h, if_pos h.symm, h]
  · rw [if_neg h, if_neg (Ne.symm h)]

theorem State.foldl_loseEntry_basket (p : PortNo) : (es.foldl State.loseEntry s).basket p =
    if es.any (fun e => decide (e.origin = p)) then { Basket.reset with handle := (s.basket p).handle } else s.basket p := by
  induction es generalizing s with
  | nil => rfl
  | cons e es ih =>
    rw [List.foldl_cons, ih, State.loseEntry_basket, List.any_cons]
    by_cases h : e.origin = p <;> simp [h]

theorem State.loseEntry_port (e : AuthEntry) (p : PortNo) : (s.loseEntry e).port p =
    if e.origin = p then (s.port p).toldOf (some e) else s.port p := by
  refine (s.port_setPort e.origin p _).trans ?_
  by_cases h : p = e.origin
  · rw [if_pos h, if_pos h.symm, h]
    rfl
  · rw [if_neg h, if_neg (Ne.symm h)]

theorem State.foldl_loseEntry_port (p : PortNo) : (es.foldl State.loseEntry s).port p =
    (s.port p).toldOf (es.find? fun e => decide (e.origin = p)) := by
  induction es generalizing s with
  | nil => rfl
  | cons e es ih =>
    rw [List.foldl_cons, ih, State.loseEntry_port]
    by_cases h : e.origin = p
    · rw [List.find?_cons_of_pos (by simpa using h), if_pos h]
      exact Port.toldOf_told _ _ _
    · rw [List.find?_cons_of_neg (by simpa using h), if_neg h]

end

/-! ## The entries that a tick loses (R97) -/

/-- R97: an ACTIVE entry whose Timeout Remaining a tick takes to 0. -/
def AuthEntry.timesOut (e : AuthEntry) : Bool :=
  match e.state with
  | .active n => decide (n ≤ 1)
  | .lost => false

/-- R97: an entry after a tick. -/
def AuthEntry.ticked (e : AuthEntry) : AuthEntry :=
  { e with state := match e.state with
    | .active n => if n ≤ 1 then .lost else .active (n - 1)
    | .lost => .lost }

/-- One second off an entry. -/
def AuthEntry.second (e : AuthEntry) : AuthEntry := { e with state := e.state.second }

theorem AuthEntry.second_expired (e : AuthEntry) : decide (e.second.state = .active 0) = e.timesOut := by
  unfold AuthEntry.second AuthEntry.timesOut
  cases e.state with
  | active n => simp [AuthState.second, Nat.sub_eq_zero_iff_le]
  | lost => simp [AuthState.second]

theorem AuthEntry.ticked_eq (e : AuthEntry) : e.ticked = if e.timesOut then { e with state := .lost } else e.second := by
  unfold AuthEntry.ticked AuthEntry.timesOut AuthEntry.second
  cases hst : e.state with
  | active n =>
    by_cases h : n ≤ 1
    · simp [h]
    · simp [h, AuthState.second]
  | lost => simp [AuthState.second]

/-- R97: the authorisations of a tick: the timers, then the entries that reach 0, then their notices. -/
theorem State.tickAuths_eq (s : State) : s.tickAuths = (s.relay.entries.filter AuthEntry.timesOut).foldl State.tellLost
    ((s.relay.entries.filter AuthEntry.timesOut).foldl State.loseEntry s.countAuths) := by
  have hexpired : s.countAuths.relay.entries.filter (fun e => decide (e.state = .active 0))
      = (s.relay.entries.filter AuthEntry.timesOut).map AuthEntry.second := by
    have hcounted : s.countAuths.relay.entries = s.relay.entries.map AuthEntry.second := rfl
    rw [hcounted, List.filter_map]
    congr 1
    exact List.filter_congr fun e _ => e.second_expired
  rw [State.tickAuths, State.expireAuths, hexpired, ← State.foldl_timeOut, List.foldl_map]
  rfl

/-- R97: with no tag twice, the entries that reach 0 are LOST and the others have counted. -/
theorem map_ticked {es : List AuthEntry} (hnodup : (es.map (·.tag)).Nodup) :
    (es.map AuthEntry.second).map (fun x => if x.tag ∈ (es.filter AuthEntry.timesOut).map (·.tag) then { x with state := .lost } else x)
      = es.map AuthEntry.ticked := by
  rw [List.map_map]
  refine List.map_congr_left fun e he => ?_
  have hmem : e.second.tag ∈ (es.filter AuthEntry.timesOut).map (·.tag) ↔ e.timesOut = true := by
    rw [List.mem_map]
    constructor
    · rintro ⟨f, hf, htag⟩
      obtain ⟨hfe, hout⟩ := List.mem_filter.1 hf
      rwa [← List.inj_on_of_nodup_map hnodup hfe he htag]
    · exact fun hout => ⟨e, List.mem_filter.2 ⟨he, hout⟩, rfl⟩
  rw [Function.comp_apply, AuthEntry.ticked_eq]
  by_cases hout : e.timesOut = true
  · rw [if_pos (hmem.2 hout), if_pos hout]
    rfl
  · rw [if_neg (fun h => hout (hmem.1 h)), if_neg hout]

end Sys2Proof.Machine
end

section
/-! The tick (O53): the printer waits (R143), what a failure and the channel arbiter leave of the other channels, and the whole step. -/

namespace Sys2Proof.Machine

/-! ## Channels that a step leaves (R134, R144) -/

section
variable {s : State} {c e : ChannelNo}

theorem State.raise_channel (k : NoticeKind) (content : Bytes) : (s.raise k content).channel e = s.channel e := by
  rw [State.channel, State.raise_print]
  rfl

theorem State.owe_channel (x : OwedEntry) : (s.owe x).channel e = s.channel e := by
  rw [State.owe_eq]
  exact State.raise_channel _ _

theorem State.endJob_channel (n : Nat) : (s.endJob c n).channel e = if e = c then Channel.idle else s.channel e :=
  (s.dropJob n).channel_setChannel c e Channel.idle

/-- A failure leaves its channel IDLE, or changes nothing. -/
theorem State.failJob_cases (s : State) (c : ChannelNo) (why : FailReason) : s.failJob c why = s
    ∨ ∀ e, (s.failJob c why).channel e = if e = c then Channel.idle else s.channel e := by
  unfold State.failJob
  split
  · exact .inl rfl
  · split
    · exact .inl rfl
    · right
      intro e
      rw [State.endJob_channel]
      refine if_congr Iff.rfl rfl ?_
      rw [State.channel, State.releaseOffer_print]
      exact (State.owe_channel _).trans (State.raise_channel _ _)

theorem State.failJob_channel (h : e ≠ c) (why : FailReason) : (s.failJob c why).channel e = s.channel e := by
  rcases s.failJob_cases c why with hsame | hidle
  · rw [hsame]
  · rw [hidle, if_neg h]

theorem State.readSector_channel (h : e ≠ c) : (s.readSector c).channel e = s.channel e := by
  unfold State.readSector
  split
  · rfl
  · split
    · exact (State.endJob_channel _).trans ((if_neg h).trans (State.raise_channel _ _))
    · split
      · exact (State.endJob_channel _).trans (if_neg h)
      · split
        · exact State.failJob_channel h _
        · rw [State.channel, State.enterSend, State.offer_print]
          exact (s.channel_setChannel c e _).trans (if_neg h)

theorem State.enterFetch_channel (h : e ≠ c) : (s.enterFetch c).channel e = s.channel e := by
  have hset : (s.setChannel c { s.channel c with state := .fetch, buffer := none, nextFrame := 0 }).channel e = s.channel e :=
    (s.channel_setChannel c e _).trans (if_neg h)
  unfold State.enterFetch
  dsimp only
  split
  · exact hset
  · exact (State.readSector_channel h).trans hset

theorem State.takeJob_channel (h : e ≠ c) (j : Job) : (s.takeJob c j).channel e = s.channel e :=
  (State.enterFetch_channel h).trans ((State.channel_setChannel _ c e _).trans (if_neg h))

/-- R134: the arbiter gives jobs to IDLE channels alone. -/
theorem State.assign_channel (n : Nat) (h : (s.channel e).state ≠ .idle) : (State.assign n s).channel e = s.channel e := by
  induction n generalizing s with
  | zero => rfl
  | succ n ih =>
    unfold State.assign
    split
    · rename_i c j hidle _
      have hc : e ≠ c := by
        rintro rfl
        exact h (State.idleChannel_eq_some.1 hidle).1
      have htaken := State.takeJob_channel (s := s) hc j
      rw [ih (by rw [htaken]; exact h), htaken]
    · rfl

end

/-! ## The waits of a tick (R143) -/

/-- R143: the failure of a channel whose wait is at 0. -/
def State.failWait (s : State) (c : ChannelNo) : State :=
  match (s.channel c).state with
  | .await 0 => s.failJob c .printerWait
  | .paused 0 => s.failJob c .paperWait
  | _ => s

theorem State.failWait_await {s : State} {c : ChannelNo} (h : (s.channel c).state = .await 0) :
    s.failWait c = s.failJob c .printerWait := by
  simp only [State.failWait, h]

theorem State.failWait_paused {s : State} {c : ChannelNo} (h : (s.channel c).state = .paused 0) :
    s.failWait c = s.failJob c .paperWait := by
  simp only [State.failWait, h]

theorem State.failWait_other {s : State} {c : ChannelNo} (hawait : (s.channel c).state ≠ .await 0)
    (hpaused : (s.channel c).state ≠ .paused 0) : s.failWait c = s := by
  unfold State.failWait
  split
  · rename_i h
    exact absurd h hawait
  · rename_i h
    exact absurd h hpaused
  · rfl

/-- A failure of a wait leaves every other channel. -/
theorem State.failWait_channel {s : State} {c e : ChannelNo} (h : e ≠ c) : (s.failWait c).channel e = s.channel e := by
  unfold State.failWait
  split
  · exact State.failJob_channel h _
  · exact State.failJob_channel h _
  · rfl

theorem State.expireWaits_at (s : State) (c : ChannelNo) : (s.expirePrinterWait c).expirePaperWait c = s.failWait c := by
  by_cases hawait : (s.channel c).state = .await 0
  · have hwaits : ((s.failJob c .printerWait).channel c).state ≠ .paused 0 := by
      rcases s.failJob_cases c .printerWait with hsame | hidle
      · rw [hsame, hawait]
        exact nofun
      · rw [hidle, if_pos rfl]
        exact nofun
    have hprinter : s.expirePrinterWait c = s.failJob c .printerWait := if_pos hawait
    rw [hprinter, State.expirePaperWait, if_neg hwaits, State.failWait_await hawait]
  · have hprinter : s.expirePrinterWait c = s := if_neg hawait
    rw [hprinter, State.expirePaperWait]
    split
    · rename_i hpaused
      rw [State.failWait_paused hpaused]
    · rename_i hpaused
      rw [State.failWait_other hawait hpaused]

theorem State.expireWaits_eq (s : State) : s.expireWaits = (allChannels.foldl State.failWait s).runArbiter := by
  rw [State.expireWaits, funext₂ State.expireWaits_at]

theorem State.expireWaits_printStep (s : State) : s.PrintStep s.expireWaits :=
  (State.expireWaitsOf_printStep _ s).trans (State.runArbiter_printStep _)

/-- R143: a channel that waits on keeps its wait while others fail and take jobs. -/
theorem State.expireWaits_channel {s : State} {e : ChannelNo} (hidle : (s.channel e).state ≠ .idle)
    (hawait : (s.channel e).state ≠ .await 0) (hpaused : (s.channel e).state ≠ .paused 0) :
    s.expireWaits.channel e = s.channel e := by
  have hfails : ∀ (t : State) (c : ChannelNo), t.channel e = s.channel e → (t.failWait c).channel e = s.channel e := by
    intro t c ht
    by_cases hc : e = c
    · subst hc
      rw [State.failWait_other (by rw [ht]; exact hawait) (by rw [ht]; exact hpaused), ht]
    · rw [State.failWait_channel hc, ht]
  have hall := foldl_keeps (P := fun t => t.channel e = s.channel e) hfails allChannels rfl
  rw [State.expireWaits_eq, State.runArbiter, State.assign_channel _ (by rw [hall]; exact hidle), hall]

theorem State.countWaits_channel (s : State) (c : ChannelNo) :
    s.countWaits.channel c = { s.channel c with state := (s.channel c).state.second } := by
  simp [State.countWaits, State.channel]

theorem State.countWaits_tellLost (s : State) (e : AuthEntry) : (s.tellLost e).countWaits = s.countWaits.tellLost e := by
  rw [State.tellLost_of_control (s := s) (t := s.countWaits) rfl rfl e, State.tellLost_of_control (s := s) (t := s) rfl rfl e]
  rfl

/-! ## The whole tick (R195) -/

/-- R97: the entries that a tick loses. -/
def State.timedOut (s : State) : List AuthEntry := s.relay.entries.filter AuthEntry.timesOut

/-- R34, R35, R195: the clock and the leases of a tick. -/
def State.tickSeats (s : State) : State := (s.setControl s.control.second).tickLeases

/-- R195: all of a tick but the notices of its authorisations and the failures of its jobs. -/
def State.counted (s : State) : State := (s.timedOut.foldl State.loseEntry s.tickSeats.countAuths).countWaits

theorem State.tickSeats_relay (s : State) : s.tickSeats.relay = s.relay := by
  rw [State.tickSeats, State.tickLeases, State.expireLeases_relay]
  rfl

theorem State.tick_eq (s : State) : s.tick = (s.timedOut.foldl State.tellLost s.counted).expireWaits := by
  have hauths : s.tickSeats.tickAuths = s.timedOut.foldl State.tellLost (s.timedOut.foldl State.loseEntry s.tickSeats.countAuths) := by
    rw [State.tickAuths_eq, State.tickSeats_relay, State.timedOut]
  have hwaits : s.timedOut.foldl State.tellLost s.counted = s.tickSeats.tickAuths.countWaits := by
    rw [hauths, State.counted]
    exact List.foldl_hom State.countWaits fun t e => (t.countWaits_tellLost e).symm
  rw [hwaits, State.tick, State.tickWaits, State.tickSeats]

theorem State.foldl_tellLost_frame (s : State) (es : List AuthEntry) :
    es.foldl State.tellLost s = { s with control := (es.foldl State.tellLost s).control } := by
  induction es generalizing s with
  | nil => rfl
  | cons e es ih =>
    rw [List.foldl_cons, ih, State.tellLost, State.raise_frame]

/-- What is told and what fails leaves the seats, the baskets, the relay and the rest as counted. -/
theorem State.tick_frame (s : State) : s.tick = { s.counted with
    print := s.tick.print, ports := s.tick.ports, uplink := s.tick.uplink, control := s.tick.control } := by
  have htold := State.foldl_tellLost_frame s.counted s.timedOut
  have hstep := (s.timedOut.foldl State.tellLost s.counted).expireWaits_printStep.frame
  rw [← State.tick_eq] at hstep
  generalize s.timedOut.foldl State.tellLost s.counted = u at htold hstep
  conv_lhs => rw [hstep, htold]

section
variable {s : State}

theorem State.tickSeats_ticked (h : s.disjointShows) : (s.setControl s.control.second).LeasesTicked s.tickSeats := by
  rw [State.tickSeats]
  exact State.tickLeases_ticked h

theorem State.tickSeats_frame (h : s.disjointShows) : s.tickSeats = { s with
    seats := { s.seats with shows := s.tickSeats.seats.shows, pool := s.tickSeats.seats.pool }
    baskets := s.tickSeats.baskets
    control := s.control.second } := by
  have hframe := (State.tickSeats_ticked h).frame
  generalize s.tickSeats = u at hframe ⊢
  exact hframe

/-- R195: what a tick has counted, part by part. -/
theorem State.counted_frame (h : s.disjointShows) : s.counted = { s with
    seats := { s.seats with shows := s.tickSeats.seats.shows, pool := s.tickSeats.seats.pool }
    baskets := s.counted.baskets
    relay := s.counted.relay
    ports := Vector.ofFn fun p : PortNo => (s.port p).toldOf (s.timedOut.find? fun e => decide (e.origin = p))
    uplink := s.timedOut.foldl (fun u e => u.without e.tag) s.uplink
    print := s.countWaits.print
    control := s.control.second } := by
  have hseats := State.tickSeats_frame h
  have hlost := State.foldl_loseEntry_frame s.tickSeats.countAuths s.timedOut
  have huplink := State.foldl_loseEntry_uplink s.tickSeats.countAuths s.timedOut
  have hport := State.foldl_loseEntry_port s.tickSeats.countAuths s.timedOut
  unfold State.counted
  generalize s.timedOut.foldl State.loseEntry s.tickSeats.countAuths = l at hlost huplink hport ⊢
  generalize s.tickSeats = u at hseats hlost huplink hport ⊢
  have hports : l.ports = Vector.ofFn fun p : PortNo =>
      (s.port p).toldOf (s.timedOut.find? fun e => decide (e.origin = p)) := by
    have hsame : ∀ p, u.countAuths.port p = s.port p := State.port_of_ports (congrArg State.ports hseats :)
    refine Vector.ext fun i hi => ?_
    rw [Vector.getElem_ofFn, ← hsame]
    exact hport ⟨i, hi⟩
  rw [hlost, hports, huplink, hseats]
  rfl

theorem State.counted_relay (h : s.disjointShows) (hnodup : (s.relay.entries.map (·.tag)).Nodup) :
    s.counted.relay = { s.relay with entries := s.relay.entries.map AuthEntry.ticked } := by
  have hrelay : s.tickSeats.countAuths.relay = { s.relay with entries := s.relay.entries.map AuthEntry.second } := by
    rw [State.tickSeats_frame h]
    rfl
  have hlost : s.counted.relay = _ := State.foldl_loseEntry_relay s.tickSeats.countAuths s.timedOut
  rw [hlost, hrelay, ← map_ticked hnodup]
  rfl

theorem State.counted_basket (h : s.disjointShows) (p : PortNo) : s.counted.basket p =
    if s.timedOut.any (fun e => decide (e.origin = p)) then { Basket.reset with handle := (s.basket p).handle }
    else if allShows.any (fun i => (List.range (s.showAt i).seatCount).any (s.lapses p i)) then
      (s.basket p).lostSeats (fun k => allShows.any (fun i => s.lapses p i k))
    else s.basket p := by
  have hbasket := (State.tickSeats_ticked h).baskets p
  have hlost := State.foldl_loseEntry_basket s.tickSeats.countAuths s.timedOut p
  rw [State.counted]
  generalize s.timedOut.foldl State.loseEntry s.tickSeats.countAuths = l at hlost ⊢
  generalize s.tickSeats = u at hbasket hlost
  have hhandle : (u.basket p).handle = (s.basket p).handle := by
    rw [hbasket]
    split
    · exact Basket.lostSeats_handle _ _
    · rfl
  refine Eq.trans hlost ?_
  rw [← hhandle]
  exact congrArg _ hbasket

/-- R143: a channel with 2 or more to wait has counted. -/
theorem State.tick_channel (h : s.disjointShows) {c : ChannelNo}
    (hwaits : (s.channel c).state.second ≠ .idle ∧ (s.channel c).state.second ≠ .await 0
      ∧ (s.channel c).state.second ≠ .paused 0) : (s.tick.channel c).state = (s.channel c).state.second := by
  have htold := congrArg State.print (State.foldl_tellLost_frame s.counted s.timedOut)
  have hcounted : s.counted.print = s.countWaits.print := by rw [State.counted_frame h]
  have hchannel : (s.timedOut.foldl State.tellLost s.counted).channel c
      = { s.channel c with state := (s.channel c).state.second } := by
    rw [← s.countWaits_channel c, State.channel, htold]
    dsimp only
    rw [hcounted]
    rfl
  obtain ⟨hidle, hawait, hpaused⟩ := hwaits
  rw [State.tick_eq, State.expireWaits_channel (by rw [hchannel]; exact hidle) (by rw [hchannel]; exact hawait)
    (by rw [hchannel]; exact hpaused), hchannel]

end

/-- Settles O53: the leases as one pass over the seats of the shows, the entries that time out lost one after the other with their
notices after all of them, and the channels' failures, which leave a channel that waits on. -/
theorem tickAdvancesClockAndTimers : Obligations.TickAdvancesClockAndTimers := by
  unfold Obligations.TickAdvancesClockAndTimers
  refine ⟨fun s hstopped => ?stopped, fun s hrun hticks hdisjoint hnodup => ?ticks⟩
  case stopped =>
    refine congrArg Host.Outcome.next (if_neg ?_)
    rcases hstopped with h | h <;> simp [h]
  case ticks =>
    intro lost lapses fails
    have hexec : exec .tick s = .next s.tick := congrArg Host.Outcome.next (if_pos (by rw [hrun, hticks]; rfl))
    have hframe := s.tick_frame
    have hticked := State.tickSeats_ticked hdisjoint
    have hcounted := State.counted_frame hdisjoint
    have hrelay := State.counted_relay hdisjoint hnodup
    have hbasket := State.counted_basket hdisjoint
    have hchannel := fun c => State.tick_channel (c := c) hdisjoint
    have hwhole := s.tick_eq
    rw [State.expireWaits_eq] at hwhole
    rw [hexec]
    generalize s.tick = t at hframe hchannel hwhole ⊢
    generalize s.tickSeats = u at hticked hcounted
    generalize s.counted = v at hframe hcounted hrelay hbasket hwhole
    have hseats : t.seats = { s.seats with shows := u.seats.shows, pool := u.seats.pool } := by rw [hframe, hcounted]
    have hbaskets : t.baskets = v.baskets := (congrArg State.baskets hframe :)
    have hrelays : t.relay = v.relay := (congrArg State.relay hframe :)
    refine ⟨t, rfl, fun a => ?pool, fun i => ?shows, fun p => ?baskets, ?relay, fun c n hawait hn => ?awaits,
      fun c n hpaused hn => ?pauses, ?vouchers, ?prices, ?store, ?whole⟩
    case pool =>
      rw [State.poolSeat, hseats]
      exact hticked.pool a
    case shows =>
      rw [State.showAt, hseats]
      exact hticked.shows i
    case baskets =>
      rw [State.basket, hbaskets]
      exact hbasket p
    case relay => exact hrelays.trans hrelay
    case awaits =>
      have hnext : (s.channel c).state.second = .await (n - 1) := by rw [hawait]; rfl
      rw [hchannel c, hnext]
      rw [hnext]
      exact ⟨nofun, fun h => by have := ChannelState.await.inj h; omega, nofun⟩
    case pauses =>
      have hnext : (s.channel c).state.second = .paused (n - 1) := by rw [hpaused]; rfl
      rw [hchannel c, hnext]
      rw [hnext]
      exact ⟨nofun, nofun, fun h => by have := ChannelState.paused.inj h; omega⟩
    case vouchers => rw [hframe, hcounted]
    case prices => rw [hframe, hcounted]
    case store => rw [hframe, hcounted]
    case whole =>
      intro counted
      have hshows : u.seats.shows = t.seats.shows := by rw [hseats]
      have hpool : u.seats.pool = t.seats.pool := by rw [hseats]
      have hsame : counted = v := by
        rw [hcounted, ← hbaskets, ← hrelays, hshows, hpool]
        rfl
      rw [hsame]
      exact hwhole

end Sys2Proof.Machine
end

section
/-! The queue is filled from outside (O2): the operations the blocks share, and what the kiosks and the uplink ask for, leave it. -/

namespace Sys2Proof.Machine

/-! ## Operations -/

theorem State.PrintStep.pending {s t : State} (h : s.PrintStep t) : t.pending = s.pending := by
  rw [h.frame]

theorem State.PrintMoves.pending {s t : State} (h : s.PrintMoves t) : t.pending = s.pending := by
  rw [h.frame]

theorem State.BasketStep.pending {s t : State} {p : PortNo} (h : s.BasketStep t p) : t.pending = s.pending := by
  unfold State.BasketStep at h
  rw [h]
  rfl

theorem foldl_pending {α : Type} {f : State → α → State} (hf : ∀ t a, (f t a).pending = t.pending) (xs : List α) (s : State) :
    (xs.foldl f s).pending = s.pending :=
  foldl_keeps (P := fun t => t.pending = s.pending) (fun t a ht => (hf t a).trans ht) xs rfl

theorem State.forSeats_pending {f : State → ShowNo → Nat → State} (hf : ∀ t i k, (f t i k).pending = t.pending) (s : State) :
    (s.forSeats f).pending = s.pending :=
  State.forSeats_keeps (P := fun t => t.pending = s.pending) (fun t i k ht => (hf t i k).trans ht) rfl

theorem State.pushNotice_pending (s : State) (code : Nat) (content : Bytes) : (s.pushNotice code content).pending = s.pending := by
  rw [s.pushNotice_frame]

theorem State.checkLow_pending (s : State) : s.checkLow.pending = s.pending := by
  rw [s.checkLow_frame]

theorem State.changeSlot_pending (s : State) (n : Nat) (f : Slot → Slot) : (s.changeSlot n f).pending = s.pending := by
  rw [s.changeSlot_frame]

theorem State.loseHeld_pending (s : State) (i : ShowNo) (k : Nat) : (s.loseHeld i k).pending = s.pending := by
  rw [s.loseHeld_frame]

theorem State.writeSeats_pending (s : State) (i : ShowNo) (k : Nat) (xs : List Seat) : (s.writeSeats i k xs).pending = s.pending := by
  induction xs generalizing s k with
  | nil => rfl
  | cons x xs ih => exact ih (s.setSeat i k x) (k + 1)

theorem State.answer_pending (s : State) (c : KioskClass) (p : PortNo) (tag : Byte) (r : Result) (content : Bytes) :
    (s.answer c p tag r content).pending = s.pending := rfl

theorem State.answerKept_pending (s : State) (p : PortNo) (make : Bool) (r : Result) (content : Bytes) :
    (s.answerKept p make r content).pending = s.pending := by
  rw [State.answerKept_eq, State.setPort_pending]

/-! ## Resets and start-up (R198, R199) -/

theorem State.resetPart_pending (s : State) (cause : ResetCause) : (s.resetPart cause).pending = s.pending := rfl

theorem State.start_pending (s : State) : s.start.pending = s.pending := State.pushNotice_pending _ _ _

theorem State.restartNow_pending (s : State) : s.restartNow.pending = s.pending := (s.resetPart .command).start_pending

theorem State.settleRestart_pending (s : State) : s.settleRestart.pending = s.pending := by
  unfold State.settleRestart
  split
  · exact s.restartNow_pending
  · rfl

theorem State.replySent_pending (s : State) : s.replySent.pending = s.pending := by
  unfold State.replySent
  split
  · exact s.restartNow_pending
  · rfl

theorem State.beginStart_pending (s : State) : s.beginStart.pending = s.pending := by
  unfold State.beginStart
  split
  · rfl
  · exact s.start_pending

/-! ## Sales and the ends of an authorisation (R80, R96 to R101) -/

theorem State.approve_pending (s : State) (e : AuthEntry) (code : Bytes) : (s.approve e code).pending = s.pending := by
  have hsale : (s.completeSale e.sale code).1.pending = s.pending := by rw [State.completeSale_frame]
  exact (((State.runArbiter_printStep _).pending.trans (State.answerKept_pending _ _ _ _ _)).trans
    (State.printSale_moves _ _ _ _).pending).trans hsale

theorem State.zeroTotal_pending (s : State) (p : PortNo) (tag : Byte) (x : Snapshot) :
    (s.zeroTotal p tag x).pending = s.pending := by
  have hsale : (s.completeSale ((s.basket p).zeroSale p x) []).1.pending = s.pending := by rw [State.completeSale_frame]
  exact ((((State.checkLow_pending _).trans (State.runArbiter_printStep _).pending).trans
    (State.answer_pending _ _ _ _ _ _)).trans (State.printSale_moves _ _ _ _).pending).trans hsale

theorem State.releaseLate_pending (s : State) (e : AuthEntry) (source : Nat) : (s.releaseLate e source).pending = s.pending := by
  rw [State.releaseLate_eq, State.checkLow_frame, State.raise_frame, State.lateReleased_frame]

theorem State.approveLate_pending (s : State) (e : AuthEntry) (code : Bytes) (source : Nat) :
    (s.approveLate e code source).1.pending = s.pending := by rw [State.approveLate_frame]

theorem State.decline_pending (s : State) (e : AuthEntry) (fault : Bool) : (s.decline e fault).pending = s.pending := by
  rw [State.decline_frame]

theorem State.resolve_pending (s : State) (e : AuthEntry) (o : AuthOutcome) (code : Bytes) :
    (s.resolve e o code).pending = s.pending := by
  unfold State.resolve
  split
  · exact s.approve_pending e code
  · exact s.decline_pending e false
  · exact s.holdGateway.decline_pending e true
  · exact s.approveLate_pending e code 1
  · exact s.releaseLate_pending e 1
  · exact s.holdGateway.releaseLate_pending e 1

theorem State.authResponse_pending (s : State) (payload : Bytes) : (s.authResponse payload).pending = s.pending := by
  unfold State.authResponse
  split
  · rfl
  · split
    · exact s.raise_pending _ _
    · split
      · exact s.raise_pending _ _
      · exact s.resolve_pending _ _ _

theorem State.timeOut_pending (s : State) (e : AuthEntry) : (s.timeOut e).pending = s.pending := by
  rw [State.timeOut_tells, State.tellLost, State.raise_pending]
  rfl

/-! ## Time (R34, R97, R143, R195) -/

theorem State.expireLeases_pending (s : State) : s.expireLeases.pending = s.pending := by
  refine State.forSeats_pending (fun t i k => ?_) s
  split
  · exact t.loseHeld_pending i k
  · rfl

theorem State.expireAuths_pending (s : State) : s.expireAuths.pending = s.pending := foldl_pending State.timeOut_pending _ s

theorem State.tickLeases_pending (s : State) : s.tickLeases.pending = s.pending := s.countLeases.expireLeases_pending

theorem State.tickAuths_pending (s : State) : s.tickAuths.pending = s.pending := s.countAuths.expireAuths_pending

theorem State.tickWaits_pending (s : State) : s.tickWaits.pending = s.pending := s.countWaits.expireWaits_printStep.pending

theorem State.tick_pending (s : State) : s.tick.pending = s.pending := by
  rw [State.tick, State.tickWaits_pending, State.tickAuths_pending, State.tickLeases_pending, State.setControl_pending]

theorem State.completeStore_pending (s : State) : s.completeStore.pending = s.pending := by
  unfold State.completeStore
  split
  · rfl
  · exact ((State.readSectors_printStep _ _).trans (State.runArbiter_printStep _)).pending.trans (State.raise_pending _ _ _)

/-! ## Ports and the uplink (R176 to R187) -/

theorem State.voidUnlessAuthorising_pending (s : State) (p : PortNo) : (s.voidUnlessAuthorising p).pending = s.pending :=
  (s.voidUnlessAuthorising_step p).pending

theorem State.freeHeldBy_pending (s : State) (p : PortNo) : (s.freeHeldBy p).pending = s.pending := by
  rw [s.freeHeldBy_frame]

theorem State.leaveActive_pending (s : State) (p : PortNo) (st : PortState) : (s.leaveActive p st).pending = s.pending :=
  (((State.stopJob_printStep _ p).trans (State.runArbiter_printStep _)).pending.trans (State.freeHeldBy_pending _ p)).trans
    (State.voidUnlessAuthorising_pending _ p)

theorem State.runFailed_pending (s : State) (p : PortNo) (e : FramingError) : (s.runFailed p e).pending = s.pending := by
  unfold State.runFailed
  dsimp only
  generalize hcounted : s.setPort p _ = t
  have hport : t.pending = s.pending := by rw [← hcounted, State.setPort_pending]
  have hwarn : ∀ c : Prop, [Decidable c] → ∀ content, (if c then t.raise .portWarn content else t).pending = s.pending := by
    intro c _ content
    split
    · exact (t.raise_pending _ _).trans hport
    · exact hport
  split
  · exact ((State.leaveActive_pending _ _ _).trans (State.raise_pending _ _ _)).trans (hwarn _ _)
  · exact hwarn _ _

theorem State.uplinkPass_pending (s : State) (port tag : Byte) (payload : Bytes) :
    (s.uplinkPass port tag payload).pending = s.pending := by
  unfold State.uplinkPass State.passDown
  dsimp only
  repeat' split
  all_goals rfl

theorem State.passUp_pending (s : State) (p : PortNo) (tag : Byte) (payload : Bytes) :
    (s.passUp p tag payload).pending = s.pending := by
  unfold State.passUp
  split <;> rfl

theorem State.printFrameEnd_pending (s : State) (p : PortNo) (o : PrintOffer) : (s.printFrameEnd p o).pending = s.pending := by
  unfold State.printFrameEnd State.printSent
  dsimp only
  repeat' split
  any_goals rfl
  all_goals exact (State.offer_printStep _ _).pending

theorem State.kioskFrameEnd_pending (s : State) (p : PortNo) : (s.kioskFrameEnd p).pending = s.pending := by
  unfold State.kioskFrameEnd
  dsimp only
  repeat' split
  any_goals rfl
  exact State.printFrameEnd_pending _ _ _

theorem State.uplinkStart_pending (s : State) : s.uplinkStart.pending = s.pending := by
  unfold State.uplinkStart
  repeat' split
  all_goals rfl

theorem State.uplinkFrameEnd_pending (s : State) : s.uplinkFrameEnd.pending = s.pending := by
  unfold State.uplinkFrameEnd
  repeat' split
  any_goals rfl
  exact State.replySent_pending _

/-! ## Kiosk requests -/

theorem hold_pending (p : PortNo) (payload : Bytes) (s : State) : (hold p payload s).1.pending = s.pending := by
  unfold hold
  dsimp only
  repeat' split
  any_goals rfl
  rw [State.holdSeats_frame]

theorem release_pending (p : PortNo) (payload : Bytes) (s : State) : (release p payload s).1.pending = s.pending := by
  unfold release
  dsimp only
  repeat' split
  any_goals rfl
  rw [State.releaseSeats_frame]

theorem setTypeBody_pending (p : PortNo) (a : Nat × Fin 8) (s : State) : (setTypeBody p a s).1.pending = s.pending := by
  unfold setTypeBody
  dsimp only
  repeat' split
  all_goals rfl

theorem addComboBody_pending (p : PortNo) (c : Fin 32) (s : State) : (addComboBody p c s).1.pending = s.pending := by
  unfold addComboBody
  dsimp only
  repeat' split
  all_goals rfl

theorem removeComboBody_pending (p : PortNo) (n : Nat) (s : State) : (removeComboBody p n s).1.pending = s.pending := by
  unfold removeComboBody
  dsimp only
  split <;> rfl

theorem applyCreditBody_pending (p : PortNo) (n : Nat) (s : State) : (applyCreditBody p n s).1.pending = s.pending := by
  unfold applyCreditBody
  dsimp only
  repeat' split
  any_goals rfl
  exact s.changeSlot_pending n _

theorem removeCreditBody_pending (p : PortNo) (n : Nat) (s : State) : (removeCreditBody p n s).1.pending = s.pending := by
  unfold removeCreditBody
  dsimp only
  split
  · rfl
  · exact s.changeSlot_pending n _

theorem undoBody_pending (p : PortNo) (u : Unit) (s : State) : (undoBody p u s).1.pending = s.pending := by
  unfold undoBody
  split
  · rfl
  · rename_i e rest _
    exact (State.reverse_undoStep (s.setBasket p { s.basket p with undo := rest }) p e).step.pending

theorem cancelBody_pending (p : PortNo) (u : Unit) (s : State) : (cancelBody p u s).1.pending = s.pending :=
  (s.basketStep_voidBasket p).pending

theorem price_pending (p : PortNo) (payload : Bytes) (s : State) : (price p payload s).1.pending = s.pending := by
  unfold price
  dsimp only
  repeat' split
  all_goals rfl

theorem pay_pending (p : PortNo) (tag : Byte) (token : Bytes) (s : State) : (s.pay p tag token).pending = s.pending := by
  unfold State.pay State.payRefused
  repeat' split
  any_goals rfl
  · exact s.zeroTotal_pending p tag _
  · rw [State.acceptPay_frame]

theorem redeem_pending (p : PortNo) (payload : Bytes) (s : State) : (redeem p payload s).1.pending = s.pending := by
  unfold redeem
  repeat' split
  any_goals rfl
  exact s.changeSlot_pending _ _

theorem reprint_pending (p : PortNo) (payload : Bytes) (s : State) : (reprint p payload s).1.pending = s.pending := by
  unfold reprint
  repeat' split
  any_goals rfl
  exact (State.runArbiter_printStep _).pending

theorem State.printerStatus_pending (s : State) (p : PortNo) (payload : Bytes) : (s.printerStatus p payload).pending = s.pending := by
  unfold State.printerStatus
  repeat' split
  any_goals rfl
  exact (s.report_printStep _ _ _ _ _).pending

/-! ## Requests by class -/

theorem State.takeRequest_pending {owner : State → State} (ho : ∀ t, (owner t).pending = t.pending) (s : State) (p : PortNo) :
    (s.takeRequest p owner).pending = s.pending := by
  unfold State.takeRequest
  repeat' split
  any_goals rfl
  exact (ho _).trans (s.goodFrame_pending p)

theorem State.request_pending {body : State → Answer} (hb : ∀ t, (body t).1.pending = t.pending) (s : State) (c : KioskClass)
    (p : PortNo) (tag : Byte) : (s.request c p tag body).pending = s.pending :=
  State.takeRequest_pending (fun t => (State.answer_pending _ _ _ _ _ _).trans (hb t)) s p

theorem basketRequest_pending {α : Type} {body : α → State → Answer} (hb : ∀ a t, (body a t).1.pending = t.pending) (p : PortNo)
    (served : Bool) (arg : Option α) (s : State) : (basketRequest p served arg body s).1.pending = s.pending := by
  unfold basketRequest
  repeat' split
  any_goals rfl
  exact hb _ _

theorem runClass_pending (c : KioskClass) (p : PortNo) (tag : Byte) (payload : Bytes) (s : State) :
    Reaches (runClass c p tag payload s) fun t => t.pending = s.pending := by
  cases c
  case seatQuery => exact ⟨_, rfl, State.request_pending (fun t => by rw [seatQuery_fst]) s .seatQuery p tag⟩
  case hold => exact ⟨_, rfl, State.request_pending (hold_pending p payload) s .hold p tag⟩
  case release => exact ⟨_, rfl, State.request_pending (release_pending p payload) s .release p tag⟩
  case setType =>
    exact ⟨_, rfl, State.request_pending (basketRequest_pending (setTypeBody_pending p) p _ _) s .setType p tag⟩
  case addCombo =>
    exact ⟨_, rfl, State.request_pending (basketRequest_pending (addComboBody_pending p) p _ _) s .addCombo p tag⟩
  case removeCombo =>
    exact ⟨_, rfl, State.request_pending (basketRequest_pending (removeComboBody_pending p) p _ _) s .removeCombo p tag⟩
  case applyCredit =>
    exact ⟨_, rfl, State.request_pending (basketRequest_pending (applyCreditBody_pending p) p _ _) s .applyCredit p tag⟩
  case removeCredit =>
    exact ⟨_, rfl, State.request_pending (basketRequest_pending (removeCreditBody_pending p) p _ _) s .removeCredit p tag⟩
  case undo => exact ⟨_, rfl, State.request_pending (basketRequest_pending (undoBody_pending p) p _ _) s .undo p tag⟩
  case cancel => exact ⟨_, rfl, State.request_pending (basketRequest_pending (cancelBody_pending p) p _ _) s .cancel p tag⟩
  case price => exact ⟨_, rfl, State.request_pending (price_pending p payload) s .price p tag⟩
  case pay => exact ⟨_, rfl, State.takeRequest_pending (pay_pending p tag payload) s p⟩
  case redeem => exact ⟨_, rfl, State.request_pending (redeem_pending p payload) s .redeem p tag⟩
  case reprint => exact ⟨_, rfl, State.request_pending (reprint_pending p payload) s .reprint p tag⟩
  case printerStatus =>
    refine ⟨_, rfl, ?_⟩
    split
    · rfl
    · exact State.printerStatus_pending _ p payload
  case pass =>
    refine ⟨_, rfl, ?_⟩
    split
    · rfl
    · exact State.passUp_pending _ p tag payload

end Sys2Proof.Machine
end

section
/-! The queue is filled from outside (O2): the management commands and the events leave it, and every command answers. -/

namespace Sys2Proof.Machine

/-! ## Management commands -/

theorem withShow_pending {h : Handle} {legal : List ShowState} {body : State → Answer} {s : State}
    (hb : (body s).1.pending = s.pending) : (withShow h legal body s).1.pending = s.pending :=
  withShow_fst_of_body (P := fun t => t.pending = s.pending) rfl fun _ => hb

theorem noArgs_pending {body : State → Answer} {s : State} (hb : (body s).1.pending = s.pending) (args : Bytes) :
    (noArgs args body s).1.pending = s.pending := by
  unfold noArgs
  split
  · exact hb
  · rfl

/-- R162: a command that takes the Write Enable latch, where its own body leaves the queue. -/
theorem latched_pending {ok : Bool} {body : State → Answer} (hb : ∀ t : State, (body t).1.pending = t.pending) (s : State) :
    (latched ok body s).1.pending = s.pending := by
  unfold latched
  repeat' split
  any_goals rfl
  exact hb _

theorem State.stage_pending (s : State) (ok : List Bool) (t : PriceTables) (echo : Bytes) :
    (s.stage ok t echo).1.pending = s.pending := by
  unfold State.stage
  split <;> rfl

theorem State.activate_pending (s : State) (p : PortNo) (n : Nat) : (s.activate p n).pending = s.pending :=
  (State.runArbiter_printStep _).pending

theorem State.nightfall_pending (s : State) : s.nightfall.pending = s.pending := by
  have hvoid := foldl_pending (fun t p => (t.basketStep_voidBasket p).pending) allPorts s
  unfold State.nightfall
  generalize allPorts.foldl _ s = t at hvoid
  have hheld : t.freeAllHeld.pending = t.pending := State.forSeats_pending (fun u i k => by split <;> rfl) t
  dsimp only
  generalize t.freeAllHeld = u at hheld
  exact hheld.trans hvoid

section
variable (args : Bytes) (s : State)

theorem defineShow_pending : (defineShow args s).1.pending = s.pending := by
  unfold defineShow
  repeat' split
  all_goals rfl

theorem loadSeats_pending : (loadSeats args s).1.pending = s.pending := by
  unfold loadSeats
  split
  · rfl
  · refine withShow_pending ?_
    repeat' split
    any_goals rfl
    exact s.writeSeats_pending _ _ _

theorem openShow_pending : (openShow args s).1.pending = s.pending := by
  unfold openShow
  split
  · rfl
  · exact withShow_pending rfl

theorem closeShow_pending : (closeShow args s).1.pending = s.pending := by
  unfold closeShow
  split
  · rfl
  · exact withShow_pending rfl

theorem removeShow_pending : (removeShow args s).1.pending = s.pending := by
  unfold removeShow
  split
  · rfl
  · refine withShow_pending ?_
    dsimp only
    split <;> rfl

theorem setSeatCommand_pending : (setSeatCommand args s).1.pending = s.pending := by
  unfold setSeatCommand
  split
  · rfl
  · refine withShow_pending ?_
    repeat' split
    all_goals rfl

theorem markSold_pending : (markSold args s).1.pending = s.pending := by
  unfold markSold
  split
  · rfl
  · refine withShow_pending ?_
    dsimp only
    repeat' split
    any_goals rfl
    exact foldl_pending (f := fun s k => s.setSeatState _ k _) (fun _ _ => rfl) _ s

theorem releaseBlock_pending : (releaseBlock args s).1.pending = s.pending := by
  unfold releaseBlock
  split
  · rfl
  · refine withShow_pending ?_
    dsimp only
    split
    · rfl
    · exact foldl_pending (fun t k => t.loseHeld_pending _ k) _ s

theorem setLeaseTimes_pending : (setLeaseTimes args s).1.pending = s.pending := by
  unfold setLeaseTimes
  split <;> rfl

theorem stageBand_pending : (stageBand args s).1.pending = s.pending := by
  unfold stageBand
  split
  · rfl
  · exact s.stage_pending _ _ _

theorem stageTicketType_pending : (stageTicketType args s).1.pending = s.pending := by
  unfold stageTicketType
  split
  · rfl
  · exact s.stage_pending _ _ _

theorem stageCombo_pending : (stageCombo args s).1.pending = s.pending := by
  unfold stageCombo
  split
  · rfl
  · exact s.stage_pending _ _ _

theorem stageTax_pending : (stageTax args s).1.pending = s.pending := by
  unfold stageTax
  split
  · rfl
  · exact s.stage_pending _ _ _

theorem stageCeiling_pending : (stageCeiling args s).1.pending = s.pending := by
  unfold stageCeiling
  split
  · rfl
  · exact s.stage_pending _ _ _

theorem setAuthTimeout_pending : (setAuthTimeout args s).1.pending = s.pending := by
  unfold setAuthTimeout
  split <;> rfl

theorem reconcile_pending : (reconcile args s).1.pending = s.pending := by
  unfold reconcile
  repeat' split
  any_goals rfl
  · exact s.approveLate_pending _ _ _
  · exact s.releaseLate_pending _ _

theorem issueCredit_pending : (issueCredit args s).1.pending = s.pending := by
  unfold issueCredit
  repeat' split
  any_goals rfl
  exact State.checkLow_pending _

theorem voidVoucher_pending : (voidVoucher args s).1.pending = s.pending := by
  unfold voidVoucher
  repeat' split
  all_goals rfl

theorem setPrintWaits_pending : (setPrintWaits args s).1.pending = s.pending := by
  unfold setPrintWaits
  split <;> rfl

theorem redirectJob_pending : (redirectJob args s).1.pending = s.pending := by
  unfold redirectJob
  repeat' split
  any_goals rfl
  exact (State.runArbiter_printStep _).pending

theorem cancelJob_pending : (cancelJob args s).1.pending = s.pending := by
  unfold cancelJob
  repeat' split
  any_goals rfl
  exact (State.owe_printStep _ _).pending

theorem dropOwed_pending : (dropOwed args s).1.pending = s.pending := by
  unfold dropOwed
  repeat' split
  all_goals rfl

theorem proofTemplate_pending : (proofTemplate args s).1.pending = s.pending := by
  unfold proofTemplate
  repeat' split
  any_goals rfl
  exact (State.runArbiter_printStep _).pending

theorem setLatch_pending (v : Bool) : (setLatch v args s).1.pending = s.pending := by
  refine noArgs_pending ?_ args
  split <;> rfl

theorem eraseSector_pending : (eraseSector args s).1.pending = s.pending := by
  unfold eraseSector
  repeat' split
  any_goals rfl
  · exact latched_pending (fun _ => rfl) s
  · refine latched_pending (fun t => ?_) s
    unfold eraseSectorBody
    repeat' split
    all_goals rfl

theorem eraseAll_pending : (eraseAll args s).1.pending = s.pending := by
  refine noArgs_pending (latched_pending (fun t => ?_) s) args
  unfold eraseAllBody
  repeat' split
  all_goals rfl

theorem programPage_pending : (programPage args s).1.pending = s.pending := by
  unfold programPage
  repeat' split
  any_goals rfl
  · refine latched_pending (fun t => ?_) s
    unfold programPageBody
    repeat' split
    all_goals rfl
  · exact latched_pending (fun _ => rfl) s

theorem setProtect_pending : (setProtect args s).1.pending = s.pending := by
  unfold setProtect
  repeat' split
  any_goals rfl
  · refine latched_pending (fun t => ?_) s
    unfold setProtectBody
    split <;> rfl
  · exact latched_pending (fun _ => rfl) s

theorem siteProgram_pending : (siteProgram args s).1.pending = s.pending := by
  unfold siteProgram
  split
  · rfl
  · refine latched_pending (fun t => ?_) s
    unfold siteProgramBody
    split <;> rfl

theorem siteLock_pending : (siteLock args s).1.pending = s.pending := by
  refine noArgs_pending (latched_pending (fun t => ?_) s) args
  unfold siteLockBody
  repeat' split
  all_goals rfl

theorem configurePort_pending : (configurePort args s).1.pending = s.pending := by
  unfold configurePort
  repeat' split
  all_goals rfl

theorem enablePort_pending : (enablePort args s).1.pending = s.pending := by
  unfold enablePort
  repeat' split
  any_goals rfl
  exact s.activate_pending _ _

theorem disablePort_pending : (disablePort args s).1.pending = s.pending := by
  unfold disablePort State.disable
  split
  · rfl
  · dsimp only
    split
    · exact s.voidUnlessAuthorising_pending _
    · exact s.leaveActive_pending _ _
    · rfl

theorem restorePort_pending : (restorePort args s).1.pending = s.pending := by
  unfold restorePort
  split
  · rfl
  · dsimp only
    split
    · rfl
    · exact s.activate_pending _ _

theorem clearErrorCode_pending : (clearErrorCode args s).1.pending = s.pending := by
  unfold clearErrorCode
  split <;> rfl

theorem openFoyer_pending : (openFoyer args s).1.pending = s.pending := by
  refine noArgs_pending ?_ args
  repeat' split
  all_goals rfl

theorem closeFoyer_pending : (closeFoyer args s).1.pending = s.pending := by
  refine noArgs_pending ?_ args
  split <;> rfl

theorem night_pending : (night args s).1.pending = s.pending := by
  refine noArgs_pending ?_ args
  split
  · rfl
  · split
    · rfl
    · have hnight := s.nightfall_pending
      generalize s.nightfall = t at hnight
      exact hnight

theorem wake_pending : (wake args s).1.pending = s.pending := by
  refine noArgs_pending ?_ args
  split <;> rfl

theorem setClock_pending : (setClock args s).1.pending = s.pending := by
  unfold setClock
  repeat' split
  all_goals rfl

theorem dayRoll_pending : (dayRoll args s).1.pending = s.pending := by
  unfold dayRoll
  repeat' split
  any_goals rfl
  exact State.checkLow_pending _

theorem loadCounters_pending : (loadCounters args s).1.pending = s.pending := by
  unfold loadCounters
  repeat' split
  all_goals rfl

theorem setNoticeEnables_pending : (setNoticeEnables args s).1.pending = s.pending := by
  unfold setNoticeEnables
  split <;> rfl

end

/-- The body of a management command leaves the queue, whatever it carries. -/
theorem Command.body_pending (c : Command) (args : Bytes) (s : State) : (c.body args s).1.pending = s.pending := by
  cases c
  case defineShow => exact defineShow_pending args s
  case loadSeats => exact loadSeats_pending args s
  case openShow => exact openShow_pending args s
  case closeShow => exact closeShow_pending args s
  case removeShow => exact removeShow_pending args s
  case setSeat => exact setSeatCommand_pending args s
  case markSold => exact markSold_pending args s
  case releaseBlock => exact releaseBlock_pending args s
  case setLeaseTimes => exact setLeaseTimes_pending args s
  case stageBand => exact stageBand_pending args s
  case stageTicketType => exact stageTicketType_pending args s
  case stageCombo => exact stageCombo_pending args s
  case stageTax => exact stageTax_pending args s
  case stageCeiling => exact stageCeiling_pending args s
  case setAuthTimeout => exact setAuthTimeout_pending args s
  case reconcile => exact reconcile_pending args s
  case issueCredit => exact issueCredit_pending args s
  case voidVoucher => exact voidVoucher_pending args s
  case setPrintWaits => exact setPrintWaits_pending args s
  case redirectJob => exact redirectJob_pending args s
  case cancelJob => exact cancelJob_pending args s
  case dropOwed => exact dropOwed_pending args s
  case proofTemplate => exact proofTemplate_pending args s
  case writeEnable => exact setLatch_pending args s true
  case writeDisable => exact setLatch_pending args s false
  case eraseSector => exact eraseSector_pending args s
  case eraseAll => exact eraseAll_pending args s
  case programPage => exact programPage_pending args s
  case setProtect => exact setProtect_pending args s
  case siteProgram => exact siteProgram_pending args s
  case siteLock => exact siteLock_pending args s
  case configurePort => exact configurePort_pending args s
  case enablePort => exact enablePort_pending args s
  case disablePort => exact disablePort_pending args s
  case restorePort => exact restorePort_pending args s
  case clearErrorCode => exact clearErrorCode_pending args s
  case openFoyer => exact openFoyer_pending args s
  case closeFoyer => exact closeFoyer_pending args s
  case night => exact night_pending args s
  case wake => exact wake_pending args s
  case setClock => exact setClock_pending args s
  case dayRoll => exact dayRoll_pending args s
  case loadCounters => exact loadCounters_pending args s
  case setNoticeEnables => exact setNoticeEnables_pending args s
  case reloadStaged | commitPrices | clearGatewayHold | restart => exact noArgs_pending rfl args
  all_goals exact congrArg State.pending (Command.body_fst_of_reports rfl args s)

theorem State.manage_pending (s : State) (c : Command) (tag : Byte) (args : Bytes) :
    (s.manage c tag (c.body args)).pending = s.pending := by
  unfold State.manage
  split
  · rfl
  · exact (State.settleRestart_pending _).trans (c.body_pending args s)

/-! ## Arrivals by their own bytes -/

theorem kioskRunFailed_pending (p : PortNo) (run : Bytes) (s : State) :
    Reaches (execKioskRunFailed p run s) fun t => t.pending = s.pending := by
  unfold execKioskRunFailed
  split
  · refine ⟨_, rfl, ?_⟩
    split
    · rfl
    · exact s.runFailed_pending p _
  · exact runClass_pending _ _ _ _ s

theorem unknownCommand_pending (tag : Byte) (payload : Bytes) (s : State) :
    Reaches (execUnknownCommand tag payload s) fun t => t.pending = s.pending := by
  unfold execUnknownCommand
  split
  · refine ⟨_, rfl, ?_⟩
    unfold State.emptyCommand
    split <;> rfl
  · split
    · exact ⟨_, runCommand_eq _ _ _ s, s.manage_pending _ _ _⟩
    · refine ⟨_, rfl, ?_⟩
      unfold State.unknownCode
      split <;> rfl

theorem uplinkEnvelope_pending (etherType : BitVec 16) (checkOk : Bool) (data : Bytes) (s : State) :
    Reaches (execUplinkEnvelopeDiscarded etherType checkOk data s) fun t => t.pending = s.pending := by
  unfold execUplinkEnvelopeDiscarded
  split
  · exact ⟨_, rfl, rfl⟩
  · exact unknownCommand_pending _ _ s
  · exact ⟨_, rfl, s.authResponse_pending _⟩
  · exact ⟨_, rfl, s.uplinkPass_pending _ _ _⟩

/-! ## Every command -/

/-- A command that acts only where the part is ready for it. -/
theorem next_ite_pending {c : Bool} {s t : State} (h : t.pending = s.pending) :
    Reaches (.next (if c then t else s)) fun u => u.pending = s.pending := by
  refine ⟨_, rfl, ?_⟩
  split
  · exact h
  · rfl

theorem resetInputAsserted_pending (s : State) : Reaches (execResetInputAsserted s) fun t => t.pending = s.pending := by
  refine ⟨_, rfl, ?_⟩
  split <;> rfl

/-- Settles O2: the queue through each command, a management command's arm being `manage` on its body. -/
theorem everyCommandAnswersAndKeepsTheQueue : Obligations.EveryCommandAnswersAndKeepsTheQueue := by
  unfold Obligations.EveryCommandAnswersAndKeepsTheQueue
  intro c s
  cases c
  case seatQuery p tag payload => exact runClass_pending .seatQuery p tag payload s
  case hold p tag payload => exact runClass_pending .hold p tag payload s
  case release p tag payload => exact runClass_pending .release p tag payload s
  case setType p tag payload => exact runClass_pending .setType p tag payload s
  case addCombo p tag payload => exact runClass_pending .addCombo p tag payload s
  case removeCombo p tag payload => exact runClass_pending .removeCombo p tag payload s
  case applyCredit p tag payload => exact runClass_pending .applyCredit p tag payload s
  case removeCredit p tag payload => exact runClass_pending .removeCredit p tag payload s
  case undo p tag payload => exact runClass_pending .undo p tag payload s
  case cancel p tag payload => exact runClass_pending .cancel p tag payload s
  case price p tag payload => exact runClass_pending .price p tag payload s
  case pay p tag payload => exact runClass_pending .pay p tag payload s
  case redeem p tag payload => exact runClass_pending .redeem p tag payload s
  case reprint p tag payload => exact runClass_pending .reprint p tag payload s
  case printerStatus p tag payload => exact runClass_pending .printerStatus p tag payload s
  case kioskPass p tag payload => exact runClass_pending .pass p tag payload s
  case kioskRunFailed p run => exact kioskRunFailed_pending p run s
  case kioskFrameStart p => exact next_ite_pending rfl
  case kioskFrameEnd p => exact ⟨_, rfl, s.kioskFrameEnd_pending p⟩
  case authResponse payload => exact ⟨_, rfl, s.authResponse_pending payload⟩
  case uplinkPass port tag payload => exact ⟨_, rfl, s.uplinkPass_pending port tag payload⟩
  case uplinkEnvelopeDiscarded etherType checkOk data => exact uplinkEnvelope_pending etherType checkOk data s
  case uplinkFrameStart => exact next_ite_pending s.uplinkStart_pending
  case uplinkFrameEnd => exact ⟨_, rfl, s.uplinkFrameEnd_pending⟩
  case uplinkLinkDown => exact ⟨_, rfl, State.settleRestart_pending _⟩
  case uplinkLinkUp => exact next_ite_pending rfl
  case unknownCommand tag payload => exact unknownCommand_pending tag payload s
  case tick => exact next_ite_pending s.tick_pending
  case leaseExpiry => exact next_ite_pending s.expireLeases_pending
  case authTimeout => exact next_ite_pending s.expireAuths_pending
  case printerWaitExpiry channel =>
    exact next_ite_pending ((s.expirePrinterWait_printStep channel).trans (State.runArbiter_printStep _)).pending
  case paperWaitExpiry channel =>
    exact next_ite_pending ((s.expirePaperWait_printStep channel).trans (State.runArbiter_printStep _)).pending
  case storeOperationCompletion => exact next_ite_pending s.completeStore_pending
  case powerOn => exact ⟨_, rfl, rfl⟩
  case resetInputAsserted => exact resetInputAsserted_pending s
  case resetInputReleased => exact next_ite_pending (State.beginStart_pending _)
  case startUp => exact ⟨_, rfl, s.beginStart_pending⟩
  case keyInputChange active => exact ⟨_, rfl, rfl⟩
  case lineIdle p => exact next_ite_pending rfl
  all_goals exact ⟨_, rfl, State.manage_pending s _ _ _⟩

end Sys2Proof.Machine
end
